-- ==== Sys2Proof/Word.lean ====
section
/-!
DEFINITION. The words of the Meltor PX-12: exchange-memory words of 32 bits, link-slot words of 24 bits,
bytes of the exchange memory, and the plainest arithmetic on them (spec/00_scope.md 0.6, "Words").
-/

namespace Sys2Proof

/-- An exchange-memory word (0.6): 32 bits. -/
abbrev Word := BitVec 32

/-- A byte of the exchange memory; addresses are byte addresses (0.6). -/
abbrev Byte := BitVec 8

/-- A word of one slot of the head link (0.6): 24 bits. -/
abbrev SlotWord := BitVec 24

/-- The word that holds a Bool as 0 or 1. -/
def Word.ofBool (b : Bool) : Word := if b then 1 else 0

/-- A signed value in two's complement across the whole word (R187). -/
def Word.ofSigned (i : Int) : Word := BitVec.ofInt 32 i

/-- A count as a word. -/
def Word.ofCount (n : Nat) : Word := BitVec.ofNat 32 n

end Sys2Proof
end

