-- ==== Sys2Proof/Syntax.lean ====
section
/-!
DEFINITION. The commands of the PX-12: one constructor per row of spec/opcode_table.json, with the operands that the
outside supplies. A command is one event of the part, taken whole (spec/00_scope.md 0.6, R2).
-/

namespace Sys2Proof

/-- The three field inputs that the traverse controller keeps as levels (R47). -/
inductive FieldInput where
  | frontLim | backLim | drvFault
  deriving DecidableEq, Repr

/-- The two switches of the operator panel (R77). -/
inductive PanelInput where
  | park | inhibit
  deriving DecidableEq, Repr

/-- The front or the back of the frame: a turn position, an edge of the sheet. -/
inductive Side where
  | front | back
  deriving DecidableEq, Repr

/-- What the head sent in one slot on HL_IN (R30): whether the start mark came, the 24 word bits, the parity bit. -/
structure SlotRx where
  startMark : Bool
  word : SlotWord
  parity : Bool
  deriving DecidableEq, Repr

/-- The commands, in the table's order. -/
inductive Instr where
  /-- RESET_L becomes active, or power is applied with it active (R25). -/
  | coldReset
  /-- RESET_L becomes inactive, or power is applied with it inactive (R25). -/
  | starting
  /-- STARTING ends (R26). -/
  | startUpCompletion
  /-- GATE write of APPLY (R7). -/
  | apply
  /-- A pending apply is taken at an apply point (R8). -/
  | pendingApplyTaken
  /-- GATE write of MODE: the whole mode block of the staged page (R13). -/
  | mode
  /-- The fields MODE_REQ and HOLD_POS of a mode write, by themselves (R14). -/
  | modeReq (req holdPos : Word)
  /-- The field STD_NOW of a mode write, by itself (R15, R110). -/
  | stdNow (v : Word)
  /-- The field BREAK_ACK of a mode write, by itself (R15, R179). -/
  | breakAck (v : Word)
  /-- The field FAULT_ACK of a mode write, by itself (R15, R68). -/
  | faultAck (v : Word)
  /-- The field ARM of a mode write, by itself (R15, R175). -/
  | arm (v : Word)
  /-- GATE write of RESTART: a warm reset (R17). -/
  | restart
  /-- GATE write of any other code (R18). -/
  | unknownCode (code : Word)
  /-- Write of NOTICE (R19). -/
  | noticeWrite (v : Word)
  /-- Write of NOTICE MASK (R20). -/
  | noticeMaskWrite (v : Word)
  /-- Write of PART STATE or of an unused register offset; `sel` is A[4:2] (R4, R185). -/
  | otherRegisterWrite (sel : BitVec 3) (v : Word)
  /-- Host word write to the exchange memory; `wa` is A[17:2] (R1). -/
  | exchangeMemoryWrite (wa : BitVec 16) (v : Word)
  /-- Host write to the state word of record frame `k` (R21). -/
  | stateWordWrite (k : Fin 8) (v : Word)
  /-- Expiry of the sample-period timer (R28, R29). -/
  | frameStart
  /-- The last slot of the frame in flight has passed; the list is slot 0, slot 1, … as sent by the head (R30, R31). -/
  | frameReceived (slots : List SlotRx)
  /-- The echo count has reached 200 (R36). -/
  | echoTimeout
  /-- The loss count has reached LINK_LOSS (R38, R40). -/
  | linkGoesDown
  /-- The good-frame run has reached 8 (R38, R39). -/
  | linkGoesUp
  /-- The batch frame count has reached FP_FRAMES (R134). -/
  | batchFull
  /-- A persistence count has reached its limit; `cuePos` is the latched position of the frame whose sample reached it
  (R171, R177). -/
  | gaugeCueFire (cuePos : Word)
  /-- The three conditions of a standardize start hold (R111). -/
  | standardizeStart
  /-- The settle phase count has reached STD_SETTLE (R113). -/
  | settleEnd
  /-- The measure phase count has reached STD_FRAMES (R114). -/
  | measureEnd
  /-- Expiry of the drive interval (R49). -/
  | driveIntervalExpiry
  /-- The head is declared arrived (R53). -/
  | arrival
  /-- The stall time has reached STALL_TIME (R66). -/
  | stall
  /-- A miss count has reached EDGE_MISS_LIMIT (R130). -/
  | edgeMissLimitReached (side : Side)
  /-- A streak of scan entry `i` has reached RAISE_SCANS or CLEAR_SCANS (R162). -/
  | alarmStreakReached (i : Fin 36)
  /-- Expiry of the dwell timer (R60). -/
  | dwellExpiry
  /-- The levels that ENC_A and ENC_B change to, true for high (R45). -/
  | encoderStep (a b : Bool)
  /-- FRONT_LIM_L becomes active (R65). -/
  | frontLimActive
  /-- BACK_LIM_L becomes active (R65). -/
  | backLimActive
  /-- DRV_FAULT_L becomes active (R65). -/
  | drvFaultActive
  /-- A limit switch or the drive-fault input becomes inactive (R47). -/
  | fieldInputInactive (i : FieldInput)
  /-- The raw level of a panel input changes to `active` (R77). -/
  | panelInputChange (i : PanelInput) (active : Bool)
  /-- Expiry of a panel debounce timer (R77). -/
  | panelDebounceExpiry (i : PanelInput)
  /-- The raw level of BREAK_IN_L changes to `active` (R172). -/
  | breakInChange (active : Bool)
  /-- Expiry of the line debounce timer (R172). -/
  | lineDebounceExpiry
  /-- The acknowledge latch is set and the LINE condition is clear (R180). -/
  | breakResume
  deriving DecidableEq, Repr

end Sys2Proof
end

