-- ==== Sys2Proof/WellFormed.lean ====
section
/-!
DEFINITION. Well-formed commands: operands that the command's own row admits. A command that is not well formed is not
the event its row names.
-/

namespace Sys2Proof

/-- A GATE code that is none of APPLY 1, MODE 2, RESTART 3 (R18, R185). -/
def unknownGateCode (code : Word) : Bool := code != 1 && code != 2 && code != 3

/-- A register offset, A[4:2], that is none of GATE, NOTICE and NOTICE MASK (R185). -/
def otherRegister (sel : BitVec 3) : Bool := 3 ≤ sel.toNat

/-- The operands of a command lie in the range its row gives. A frame has at most 1 + 8 slots (R29, section 2.2). -/
def Instr.wf : Instr → Bool
  | .unknownCode code => unknownGateCode code
  | .otherRegisterWrite sel _ => otherRegister sel
  | .frameReceived slots => decide (slots.length ≤ 9)
  | .coldReset | .starting | .startUpCompletion | .apply | .pendingApplyTaken | .mode | .modeReq _ _ | .stdNow _
  | .breakAck _ | .faultAck _ | .arm _ | .restart | .noticeWrite _ | .noticeMaskWrite _ | .exchangeMemoryWrite _ _
  | .stateWordWrite _ _ | .frameStart | .echoTimeout | .linkGoesDown | .linkGoesUp | .batchFull | .gaugeCueFire _
  | .standardizeStart | .settleEnd | .measureEnd | .driveIntervalExpiry | .arrival | .stall | .edgeMissLimitReached _
  | .alarmStreakReached _ | .dwellExpiry | .encoderStep _ _ | .frontLimActive | .backLimActive | .drvFaultActive
  | .fieldInputInactive _ | .panelInputChange _ _ | .panelDebounceExpiry _ | .breakInChange _ | .lineDebounceExpiry
  | .breakResume => true

end Sys2Proof
end

