-- ==== Sys2Proof/Decode.lean ====
section
/-!
DEFINITION. Which command a bus write is. spec/opcode_table.json gives no row any bits, so `decodeTableWord` answers
none for every word; the host's commands come as writes of the local memory bus (R1, R185), and `decodeBusWrite` reads
them. `busWriteOf` is the other direction.
-/

namespace Sys2Proof

/-- No row of spec/opcode_table.json has bits, so no word spells a command. -/
def decodeTableWord (_nbits _w : Nat) : Option Instr := none

/-- The chip select of a bus write: XCS_L or RCS_L (00_scope.md 0.5). -/
inductive ChipSelect where
  | exchange | register
  deriving DecidableEq, Repr

/-- One host write on the local memory bus: the select, the word address A[17:2] and the data D[31:0]. -/
structure BusWrite where
  select : ChipSelect
  wa : BitVec 16
  data : Word
  deriving DecidableEq, Repr

/-- The word address of the state word of record frame k: 0x10000 + k × 0x6000, as a word address (R188). -/
def stateWordWa (k : Fin 8) : BitVec 16 := BitVec.ofNat 16 (0x4000 + k.val * 0x1800)

/-- The record frame whose state word lies at a word address (R21, R188). -/
def frameOfWa (wa : BitVec 16) : Option (Fin 8) :=
  ([0, 1, 2, 3, 4, 5, 6, 7] : List (Fin 8)).find? (fun k => stateWordWa k == wa)

/-- A GATE write is decoded as a whole word (R185). -/
def decodeGate (v : Word) : Instr :=
  if v == 1 then .apply else if v == 2 then .mode else if v == 3 then .restart else .unknownCode v

/-- The register of a register write is A[4:2], the other address bits are ignored (R185). -/
def decodeRegisterWrite (wa : BitVec 16) (v : Word) : Instr :=
  let sel : BitVec 3 := wa.extractLsb' 0 3
  if sel == 0 then decodeGate v
  else if sel == 1 then .noticeWrite v
  else if sel == 2 then .noticeMaskWrite v
  else .otherRegisterWrite sel v

/-- The command of a host bus write (R1, R21, R185). -/
def decodeBusWrite (b : BusWrite) : Instr :=
  match b.select with
  | .register => decodeRegisterWrite b.wa b.data
  | .exchange =>
    match frameOfWa b.wa with
    | some k => .stateWordWrite k b.data
    | none => .exchangeMemoryWrite b.wa b.data

/-- The bus write that carries a command, for the commands that are host writes. -/
def busWriteOf : Instr → Option BusWrite
  | .apply => some ⟨.register, 0, 1⟩
  | .mode => some ⟨.register, 0, 2⟩
  | .restart => some ⟨.register, 0, 3⟩
  | .unknownCode code => some ⟨.register, 0, code⟩
  | .noticeWrite v => some ⟨.register, 1, v⟩
  | .noticeMaskWrite v => some ⟨.register, 2, v⟩
  | .otherRegisterWrite sel v => some ⟨.register, sel.setWidth 16, v⟩
  | .exchangeMemoryWrite wa v => if (frameOfWa wa).isSome then none else some ⟨.exchange, wa, v⟩
  | .stateWordWrite k v => some ⟨.exchange, stateWordWa k, v⟩
  | .coldReset | .starting | .startUpCompletion | .pendingApplyTaken | .modeReq _ _ | .stdNow _ | .breakAck _
  | .faultAck _ | .arm _ | .frameStart | .frameReceived _ | .echoTimeout | .linkGoesDown | .linkGoesUp | .batchFull
  | .gaugeCueFire _ | .standardizeStart | .settleEnd | .measureEnd | .driveIntervalExpiry | .arrival | .stall
  | .edgeMissLimitReached _ | .alarmStreakReached _ | .dwellExpiry | .encoderStep _ _ | .frontLimActive | .backLimActive
  | .drvFaultActive | .fieldInputInactive _ | .panelInputChange _ _ | .panelDebounceExpiry _ | .breakInChange _
  | .lineDebounceExpiry | .breakResume => none

end Sys2Proof
end

