-- ==== Sys2Proof/Config.lean ====
section
/-!
DEFINITION. What the part fixes (identity, fixed timer lengths, record sizes) and the FREE VALUES: constants
without a body that stand for what the spec leaves open. Nothing can be proved about a free value.
-/

namespace Sys2Proof.Config

/-- IDENT, the identity word of PART STATE (R4, R185). -/
def ident : Word := 0x50580C01

/-- The drive interval, 1 ms (R49), in microseconds. -/
def driveIntervalUs : Nat := 1000

/-- The debounce of the panel inputs, 20 ms (R77), in microseconds. -/
def panelDebounceUs : Nat := 20000

/-- The period of DRV_PWM, 50 µs (R48). -/
def pwmPeriodUs : Nat := 50

/-- The echo count at which the echo check times out (R36). -/
def echoLimit : Nat := 200

/-- The good-frame run that takes the link UP (R38). -/
def goodRunLimit : Nat := 8

/-- The stillness count of an arrival (R53). -/
def stillnessLimit : Nat := 5

/-- FREE VALUE (log entry 4). The place in which the n-th tie of two timer expiries puts the later one of the
model's list: the spec lets either of two events that arrive together be taken first (00_scope.md 0.6). -/
opaque tieOrder : Nat → Nat

/-- FREE VALUE (log entry 11). The word that shows a skipped counter which no 32-bit word can hold: the spec states
no wrap and no hold for it (R22, R23). -/
opaque skippedBeyond : Nat → Word

end Sys2Proof.Config
end

