-- ==== Sys2Proof/Machine/State.lean ====
section
/-!
DEFINITION. The state of the PX-12: every piece of state the spec gives each block (INVENTORY.md, "State"), the raw
levels of the input pins, the exchange memory, and the queue of waiting commands. Plain data throughout.
-/

namespace Sys2Proof.Machine

/-- Life state (R4, R25). -/
inductive Life where
  | starting | ready
  deriving DecidableEq, Repr

/-- Reset cause (R4). -/
inductive ResetCause where
  | cold | warm
  deriving DecidableEq, Repr

/-- Result codes (Table 1-3). -/
inductive Result where
  | none | accepted | busy | badPlan | badBins | badPeriod | badSlots | badRoles | badTable | badCue | badEdge
  | badMode | noChannels | staleAck | faultPersists | badCode
  deriving DecidableEq, Repr

/-- Requested mode (R14). -/
inductive ReqMode where
  | scan | hold | park | stop | home
  deriving DecidableEq, Repr

/-- Goal of the arbiter (section 4.1). -/
inductive Goal where
  | scan | hold | park | stop | home | standardize
  deriving DecidableEq, Repr

/-- Cause of the last change of goal (section 4.1, R75). -/
inductive GoalCause where
  | brk | link | standardize | aborted
  deriving DecidableEq, Repr

/-- Head states (Figure 3-2). -/
inductive HeadState where
  | unhomed | homing | parked | standing | standardizing | outbound | inbound | turning | holding | movingToHold
  | returning | stopping | faulted
  deriving DecidableEq, Repr

/-- Drive direction: OUT toward P_END, IN toward park (section 3.2). -/
inductive Dir where
  | out | inn
  deriving DecidableEq, Repr

/-- Direction of a scan (section 3.4). -/
inductive ScanDir where
  | outbound | inbound
  deriving DecidableEq, Repr

/-- Fault causes (R65, R67). -/
inductive FaultCause where
  | none | stall | limit | overtravel | drive
  deriving DecidableEq, Repr

/-- Break states (Figure 10-2). -/
inductive BreakState where
  | disarmed | watch | broken
  deriving DecidableEq, Repr

/-- Phases of a standardize (Figure 6-1). -/
inductive StdPhase where
  | settleOpen | measureAir | settleRef | measureRef
  deriving DecidableEq, Repr

/-- Raw levels of the input pins, true for active (for high on ENC_A and ENC_B) (00_scope.md 0.5). -/
structure Pins where
  resetActive : Bool := false
  encA : Bool := false
  encB : Bool := false
  frontLim : Bool := false
  backLim : Bool := false
  drvFault : Bool := false
  panelPark : Bool := false
  panelInhibit : Bool := false
  breakIn : Bool := false
  deriving DecidableEq, Repr

/-- The exchange controller's registers and counters (Table 1-7). -/
structure Exchange where
  life : Life := .starting
  cause : ResetCause := .cold
  applyPending : Bool := false
  gateResult : Result := .none
  notice : BitVec 13 := 0
  mask : BitVec 13 := 0
  reqMode : ReqMode := .park
  holdPos : Int := 500
  generation : Word := 0
  lastRecord : Word := 0
  skipped : Nat := 0
  nextFrame : Fin 8 := 0
  deriving DecidableEq, Repr

/-- The frame in flight (R29), with three marks about when it started: since the last command change (R36), since the
open scan opened (R124), since the running batch started (R134). -/
structure Frame where
  number : Word
  startTime : Word
  position : Word
  head : HeadState
  slotCount : Nat
  seq : BitVec 4
  shutter : Bool
  ref : Bool
  sinceCommand : Bool
  sinceScanOpen : Bool
  sinceBatchStart : Bool
  deriving DecidableEq, Repr

/-- The head link controller (Table 2-2). Timers hold the microseconds that remain. -/
structure HeadLink where
  timeCounter : Word := 0
  frameCounter : Word := 0
  sampleTimer : Option Nat := none
  seq : BitVec 4 := 0
  shutter : Bool := false
  ref : Bool := false
  echoPending : Bool := false
  echoCount : Nat := 0
  up : Bool := false
  lossCount : Nat := 0
  goodRun : Nat := 0
  lastTempAlarm : Bool := false
  inFlight : Option Frame := none
  deriving DecidableEq, Repr

/-- The traverse controller (Table 3-2). -/
structure Traverse where
  position : Word := 0
  homed : Bool := false
  frontLim : Bool := false
  backLim : Bool := false
  drvFault : Bool := false
  duty : Nat := 0
  dir : Dir := .inn
  pwmDuty : Nat := 0
  pwmPhase : Nat := 0
  driveTimer : Option Nat := none
  prevPosition : Word := 0
  stallTime : Nat := 0
  stillness : Nat := 0
  dwellTimer : Option Nat := none
  turn : Side := .front
  head : HeadState := .unhomed
  motionDir : Dir := .inn
  faultCause : FaultCause := .none
  deriving DecidableEq, Repr

/-- The head mode arbiter: the goal record and the debounced panel inputs (Table 4-3). -/
structure Arbiter where
  goal : Goal := .park
  holdPos : Int := 500
  granted : Bool := true
  cause : GoalCause := .aborted
  panelPark : Bool := false
  panelInhibit : Bool := false
  parkTimer : Option Nat := none
  inhibitTimer : Option Nat := none
  deriving DecidableEq, Repr

/-- A channel's reference record (R106). -/
structure RefRecord where
  value : Nat := 0
  check : Int := 0
  accepted : Bool := false
  deriving DecidableEq, Repr

/-- One channel of a standardize context (Table 6-1); `inCheck` says that it is in the check set. -/
structure StdChan where
  chan : Fin 8
  inCheck : Bool
  airSum : Nat := 0
  airCount : Nat := 0
  checkSum : Nat := 0
  checkCount : Nat := 0
  old : RefRecord
  deriving DecidableEq, Repr

/-- The standardize context (Table 6-1). -/
structure StdCtx where
  phase : StdPhase
  count : Nat
  startTime : Word
  chans : List StdChan
  deriving DecidableEq, Repr

/-- The standardize sequencer (Table 6-2). -/
structure StdSeq where
  refs : Vector RefRecord 8 := Vector.replicate 8 { }
  untried : Vector Bool 8 := Vector.replicate 8 false
  scanCount : Nat := 0
  stdNow : Bool := false
  due : Bool := false
  ctx : Option StdCtx := none
  deriving DecidableEq, Repr

/-- One bin of one channel of an open scan: sum and count (Table 7-1). -/
structure BinAcc where
  sum : Int := 0
  count : Nat := 0
  deriving DecidableEq, Repr

/-- The accumulators of one channel of an open scan (Table 7-1). -/
structure ChanAcc where
  chan : Fin 9
  bins : List BinAcc
  accepted : Nat := 0
  rejAbsent : Nat := 0
  rejNotMeasuring : Nat := 0
  rejStale : Nat := 0
  rejSat : Nat := 0
  rejUnreferenced : Nat := 0
  rejOffSheet : Nat := 0
  rejFull : Nat := 0
  deriving DecidableEq, Repr

/-- The search memory of edge tracking: class and position of the last BW sample taken (R127). -/
structure SearchMem where
  onSheet : Bool
  position : Int
  deriving DecidableEq, Repr

/-- The scan context (Table 7-1). -/
structure ScanCtx where
  dir : ScanDir
  startTime : Word
  startPos : Word
  front : Int
  back : Int
  nBins : Nat
  chans : List ChanAcc
  firstAfterBreak : Bool
  frontFinding : Option Int := none
  backFinding : Option Int := none
  search : Option SearchMem := none
  deriving DecidableEq, Repr

/-- One channel of a batch (Table 7-2); minimum and maximum are absent while the count is 0. -/
structure BatchChan where
  chan : Fin 9
  sum : Int := 0
  count : Nat := 0
  minMax : Option (Int × Int) := none
  deriving DecidableEq, Repr

/-- The fixed-point batch (Table 7-2). -/
structure Batch where
  startTime : Word
  holdPos : Word
  firstAfterBreak : Bool
  frames : Nat
  chans : List BatchChan
  deriving DecidableEq, Repr

/-- The binning unit (Table 7-3). -/
structure Binning where
  edgeFront : Int := 1000
  edgeBack : Int := 9000
  missFront : Nat := 0
  missBack : Nat := 0
  firstAfterBreak : Bool := false
  scan : Option ScanCtx := none
  batch : Option Batch := none
  deriving DecidableEq, Repr

/-- One bin of a filter state: filled mark, F[b] in 1/256 milli-units, R[b] (Figure 8-1). -/
structure FilterBin where
  filled : Bool := false
  f : Int := 0
  r : Int := 0
  deriving DecidableEq, Repr

/-- The filter state of one channel (Figure 8-1). A bin that the list does not reach is unfilled with F and R 0. -/
structure Filter where
  seeded : Bool := false
  binCount : Nat := 0
  bins : List FilterBin := []
  deriving DecidableEq, Repr

/-- One alarm entry (R159). -/
structure AlarmEntry where
  active : Bool := false
  violationStreak : Nat := 0
  clearStreak : Nat := 0
  timesRaised : Nat := 0
  lastChange : Word := 0
  lastValue : Int := 0
  deriving DecidableEq, Repr

/-- The break monitor (Table 10-1); the history entries are words of the exchange memory. -/
structure BreakMon where
  armed : Bool := false
  state : BreakState := .disarmed
  lowCount : Nat := 0
  openCount : Nat := 0
  line : Bool := false
  lineTimer : Option Nat := none
  number : Word := 0
  latch : Bool := false
  newest : Fin 32 := 31
  deriving DecidableEq, Repr

/-- The whole machine. `mem` is the exchange memory (Sys2Proof/Machine/Memory.lean); `tieIndex` and `pending` are the
model's own (log entries 4 and 8). -/
structure State where
  pins : Pins := { }
  ex : Exchange := { }
  link : HeadLink := { }
  trav : Traverse := { }
  arb : Arbiter := { }
  std : StdSeq := { }
  bin : Binning := { }
  filters : Vector Filter 9 := Vector.replicate 9 { }
  alarms : Vector AlarmEntry 48 := Vector.replicate 48 { }
  brk : BreakMon := { }
  mem : List Host.Cell := []
  tieIndex : Nat := 0
  pending : List Instr := []
  deriving DecidableEq, Repr

/-- The reasons for which the machine stops with a fault. There is none: the spec gives every event an effect in every
state, and an access to the not-implemented range reads 0 and discards (R1). The type is closed and empty. -/
inductive Fault where
  deriving DecidableEq, Repr

/-- The reasons for which a command has no meaning. -/
inductive Refusal where
  /-- Raised by `exec` alone, for a command that the model gives no meaning; safe, since the model stops. No arm of
  this model answers it. -/
  | notModelled (mnemonic : String)
  deriving DecidableEq, Repr

/-- The machine right after a cold reset, in STARTING with its steps done (R25; Tables 1-7, 2-2, 3-2, 4-3, 6-2, 7-3,
8-2, 9-1, 10-1): every field at its default above, memory with nothing listed, no command waiting. -/
def State.reset : State := { }

end Sys2Proof.Machine
end

