-- ==== Sys2Proof/Machine/Clock.lean ====
section
/-!
DEFINITION. Part time (R27): one microsecond of the part, taken while no command waits (log entry 3). The time counter
and the period of DRV_PWM advance, the running timers count down, and each timer that reaches its end puts its expiry
into the queue (log entry 4).
-/

namespace Sys2Proof.Machine

/-- One microsecond of a running timer; it rests at 0 until its expiry is taken. -/
def countDown (t : Option Nat) : Option Nat := t.map (fun n => n - 1)

/-- The expiry command of a timer that this microsecond ends. -/
def expiry (t : Option Nat) (c : Instr) : List Instr := if t = some 1 ∨ t = some 0 then [c] else []

/-- Put a command at a place of the queue. -/
def insertAt : Nat → Instr → List Instr → List Instr
  | 0, c, q => c :: q
  | _ + 1, c, [] => [c]
  | n + 1, c, x :: q => x :: insertAt n c q

/-- Put the expiries of one microsecond into the queue; the order of two or more is free (00_scope.md 0.6, log entry
4). -/
def enqueue (s : State) : List Instr → State
  | [] => s
  | c :: cs =>
    if s.pending = [] then enqueue { s with pending := [c] } cs
    else
      enqueue { s with pending := insertAt (Config.tieOrder s.tieIndex % (s.pending.length + 1)) c s.pending,
                       tieIndex := s.tieIndex + 1 } cs

/-- The timers that this microsecond ends (R28, R49, R60, R77, R172). -/
def State.expiries (s : State) : List Instr :=
  expiry s.link.sampleTimer .frameStart ++ expiry s.trav.driveTimer .driveIntervalExpiry
    ++ expiry s.trav.dwellTimer .dwellExpiry ++ expiry s.arb.parkTimer (.panelDebounceExpiry .park)
    ++ expiry s.arb.inhibitTimer (.panelDebounceExpiry .inhibit) ++ expiry s.brk.lineTimer .lineDebounceExpiry

/-- The period of DRV_PWM: a new duty is taken when a period begins (R48). -/
def Traverse.pwmTick (t : Traverse) : Traverse :=
  if Config.pwmPeriodUs ≤ t.pwmPhase + 1 then { t with pwmPhase := 0, pwmDuty := t.duty }
  else { t with pwmPhase := t.pwmPhase + 1 }

/-- One microsecond of the running part; while life is STARTING nothing counts (R25, R27). -/
def State.tick (s : State) : State :=
  if s.ex.life = .ready then
    let s1 : State :=
      { s with link := { s.link with timeCounter := s.link.timeCounter + 1, sampleTimer := countDown s.link.sampleTimer }
               trav := { s.trav.pwmTick with driveTimer := countDown s.trav.driveTimer
                                             dwellTimer := countDown s.trav.dwellTimer }
               arb := { s.arb with parkTimer := countDown s.arb.parkTimer, inhibitTimer := countDown s.arb.inhibitTimer }
               brk.lineTimer := countDown s.brk.lineTimer }
    enqueue s1 s.expiries
  else s

end Sys2Proof.Machine
end

