-- ==== Sys2Proof/Machine/Memory.lean ====
section
/-!
DEFINITION. The exchange memory (section 1.1): 256 KiB of bytes in one canonical form, read and written as whole words.
An unlisted address reads as the content that a cold reset gives it: the default page, FREE in each state word, 0
elsewhere (R25; Tables 11-3 to 11-6).
-/

namespace Sys2Proof.Machine

/-- The exchange memory: (byte address, byte), addresses strictly rising, no entry equal to what an unlisted address
reads as. -/
abbrev Mem := List Host.Cell

/-- FREE in a frame's state word (R188). -/
def freeCode : Word := 1

/-- READY in a frame's state word (R188). -/
def readyCode : Word := 2

def stagedBase : Nat := 0x00000
def activeBase : Nat := 0x04000
def liveBase : Nat := 0x08000
def historyBase : Nat := 0x09000
def storeBase : Nat := 0x10000
def frameSize : Nat := 0x6000

/-- The address of the state word of record frame k (R188). -/
def frameBase (k : Nat) : Nat := storeBase + k * frameSize

/-- The words of the default page that are not 0, outside channel and limit records (Table 11-3, Table 11-6). -/
def defaultPageTable : List (Nat × Word) :=
  [(0x020, 10000), (0x024, 100), (0x028, 500), (0x02C, 1000), (0x030, 9000), (0x034, 9500), (0x038, 64), (0x03C, 1),
   (0x040, 50), (0x048, 300), (0x050, 3), (0x05C, 600), (0x060, 150), (0x064, 800), (0x068, 100), (0x06C, 50),
   (0x070, 5), (0x074, 2000), (0x078, 200), (0x07C, 500), (0x080, 1000), (0x084, 20), (0x088, 20), (0x08C, 50),
   (0x090, 256), (0x094, 1000), (0x54C, 5), (0x550, 5), (0x554, 20)]

/-- The words of a default channel record (Table 11-4). -/
def defaultChannelWord (c r : Nat) : Word :=
  if r = 0x04 then BitVec.ofNat 32 (c + 1) else if r = 0x14 then 64 else if r = 0x1C then 20 else 0

/-- The words of a default limit record (Table 11-5). -/
def defaultLimitWord (r : Nat) : Word :=
  if r = 0x18 ∨ r = 0x1C ∨ r = 0x20 then 1 else 0

/-- The default page, by offset (R5; Tables 11-3 to 11-6). -/
def defaultPageWord (off : Nat) : Word :=
  if 0x600 ≤ off then 0
  else if 0x100 ≤ off ∧ off < 0x300 then defaultChannelWord ((off - 0x100) / 64) ((off - 0x100) % 64)
  else if 0x300 ≤ off ∧ off < 0x540 then defaultLimitWord ((off - 0x300) % 64)
  else (defaultPageTable.lookup off).getD 0

/-- Whether an address is that of a frame's state word. -/
def isStateWord (a : Nat) : Bool := decide (storeBase ≤ a) && decide ((a - storeBase) % frameSize = 0)

/-- The content of the word at a word address after a cold reset (R25). -/
def resetWord (a : Nat) : Word :=
  if a < liveBase then defaultPageWord (a % activeBase)
  else if isStateWord a then freeCode else 0

/-- Byte i of a word, byte 0 the least significant (log entry 5). -/
def byteOf (w : Word) (i : Nat) : Byte := w.extractLsb' (8 * i) 8

/-- What an unlisted address reads as. -/
def resetByte (a : Nat) : Byte := byteOf (resetWord (a - a % 4)) (a % 4)

/-- One byte of the exchange memory. -/
def readByte (m : Mem) (a : Nat) : Byte := (m.lookup a).getD (resetByte a)

/-- The list with the byte at address a set, in address order. -/
def insertByte (a : Nat) (b : Byte) : Mem → Mem
  | [] => [(a, b)]
  | c :: t => if a < c.1 then (a, b) :: c :: t else if a = c.1 then (a, b) :: t else c :: insertByte a b t

/-- Store one byte, keeping the canonical form. -/
def writeByte (m : Mem) (a : Nat) (b : Byte) : Mem :=
  if b = resetByte a then m.filter (fun c => decide (c.1 ≠ a)) else insertByte a b m

/-- The word at a word address (R1), from its four bytes. -/
def readWord (m : Mem) (a : Nat) : Word :=
  readByte m (a + 3) ++ readByte m (a + 2) ++ readByte m (a + 1) ++ readByte m a

/-- Store a word at a word address (R1). -/
def writeWord (m : Mem) (a : Nat) (w : Word) : Mem :=
  writeByte (writeByte (writeByte (writeByte m a (byteOf w 0)) (a + 1) (byteOf w 1)) (a + 2) (byteOf w 2)) (a + 3)
    (byteOf w 3)

/-- Store words one after another from a word address on. -/
def writeWords (m : Mem) (a : Nat) : List Word → Mem
  | [] => m
  | w :: ws => writeWords (writeWord m a w) (a + 4) ws

/-- The canonical form holds: addresses strictly rising, and no entry equal to what an unlisted address reads as. -/
abbrev Memory.wf (m : Mem) : Prop :=
  m.Pairwise (fun c d => c.1 < d.1) ∧ ∀ c ∈ m, c.2 ≠ resetByte c.1

/-- The memory after the steps of STARTING (R25): pages, state words, history and live area at their cold-reset
content; the other words of the record frames are not written. -/
def startingMem (m : Mem) : Mem :=
  m.filter (fun c => decide (storeBase ≤ c.1) && !isStateWord (c.1 - c.1 % 4))

end Sys2Proof.Machine
end

