-- ==== Sys2Proof/Machine/Pages.lean ====
section
/-!
DEFINITION. The pages of settings (R5, section 11.3): where each field lies, how it is read (R186), the default page's
codes, and the values that blocks derive from a page (the BW channel, whether DRY is configured, the channel set).
-/

namespace Sys2Proof.Machine

/-- A page as its words by offset from the start of the page. -/
abbrev Page := Nat → Word

/-- The staged page of a memory (R5). -/
def stagedPage (m : Mem) : Page := fun off => readWord m (stagedBase + off)

/-- The active page of a memory (R5). -/
def activePage (m : Mem) : Page := fun off => readWord m (activeBase + off)

/-! Fields of the PLAN, LINK, STD and FIXED groups (Table 11-3). Positions and EDGE_THRESHOLD are signed, the others
unsigned (R186; log entry 9). -/

def Page.pEnd (p : Page) : Int := (p 0x020).toInt
def Page.homeMargin (p : Page) : Nat := (p 0x024).toNat
def Page.fTurn (p : Page) : Int := (p 0x028).toInt
def Page.eFront (p : Page) : Int := (p 0x02C).toInt
def Page.eBack (p : Page) : Int := (p 0x030).toInt
def Page.bTurn (p : Page) : Int := (p 0x034).toInt
def Page.nBins (p : Page) : Nat := (p 0x038).toNat
def Page.minCount (p : Page) : Nat := (p 0x03C).toNat
def Page.minCover (p : Page) : Nat := (p 0x040).toNat
def Page.edgeTrack (p : Page) : Bool := p 0x044 == 1
def Page.edgeWindow (p : Page) : Nat := (p 0x048).toNat
def Page.edgeThreshold (p : Page) : Int := (p 0x04C).toInt
def Page.edgeMissLimit (p : Page) : Nat := (p 0x050).toNat
def Page.frontDrive (p : Page) : Bool := p 0x054 == 1
def Page.senseReversed (p : Page) : Bool := p 0x058 == 1
def Page.cruiseDuty (p : Page) : Nat := (p 0x05C).toNat
def Page.creepDuty (p : Page) : Nat := (p 0x060).toNat
def Page.returnDuty (p : Page) : Nat := (p 0x064).toNat
def Page.homeDuty (p : Page) : Nat := (p 0x068).toNat
def Page.minDuty (p : Page) : Nat := (p 0x06C).toNat
def Page.ramp (p : Page) : Nat := (p 0x070).toNat
def Page.slowZone (p : Page) : Nat := (p 0x074).toNat
def Page.dwellMs (p : Page) : Nat := (p 0x078).toNat
def Page.stallTimeMs (p : Page) : Nat := (p 0x07C).toNat
def Page.samplePeriod (p : Page) : Nat := (p 0x080).toNat
def Page.linkLoss (p : Page) : Nat := (p 0x084).toNat
def Page.stdInterval (p : Page) : Nat := (p 0x088).toNat
def Page.stdSettle (p : Page) : Nat := (p 0x08C).toNat
def Page.stdFrames (p : Page) : Nat := (p 0x090).toNat
def Page.fpFrames (p : Page) : Nat := (p 0x094).toNat

/-! The mode block (Table 11-3, R186). -/

def Page.modeReq (p : Page) : Word := p 0x000
def Page.modeHoldPos (p : Page) : Word := p 0x004
def Page.modeStdNow (p : Page) : Word := p 0x008
def Page.modeBreakAck (p : Page) : Word := p 0x00C
def Page.modeFaultAck (p : Page) : Word := p 0x010
def Page.modeArm (p : Page) : Word := p 0x014

/-- Offset of word r of channel record c (Table 11-2). -/
def chanOff (c r : Nat) : Nat := 0x100 + 64 * c + r

/-! Channel records (Table 11-4). -/

/-- ENABLE is 1; every other value counts as disabled (R186). -/
def Page.enabled (p : Page) (c : Nat) : Bool := p (chanOff c 0x00) == 1
def Page.slot (p : Page) (c : Nat) : Nat := (p (chanOff c 0x04)).toNat
def Page.role (p : Page) (c : Nat) : Word := p (chanOff c 0x08)
def Page.offsetForm (p : Page) (c : Nat) : Bool := p (chanOff c 0x0C) == 1
def Page.table (p : Page) (c : Nat) : Nat := (p (chanOff c 0x10)).toNat
def Page.filterK (p : Page) (c : Nat) : Nat := (p (chanOff c 0x14)).toNat
def Page.reportRaw (p : Page) (c : Nat) : Bool := p (chanOff c 0x18) == 1
def Page.driftLimit (p : Page) (c : Nat) : Nat := (p (chanOff c 0x1C)).toNat
def Page.checkExpect (p : Page) (c : Nat) : Int := (p (chanOff c 0x20)).toInt
def Page.checkTol (p : Page) (c : Nat) : Nat := (p (chanOff c 0x24)).toNat

/-- Offset of word r of limit record k (Table 11-2). -/
def limitOff (k r : Nat) : Nat := 0x300 + 64 * k + r

/-! Limit records (Table 11-5). -/

/-- Whether scan kind `kind` (0 AVG_HIGH, 1 AVG_LOW, 2 PROFILE_HIGH, 3 PROFILE_LOW) is enabled in limit record k. -/
def Page.kindEnabled (p : Page) (k kind : Nat) : Bool := (p (limitOff k 0x00)).getLsbD kind
def Page.avgHigh (p : Page) (k : Nat) : Int := (p (limitOff k 0x04)).toInt
def Page.avgLow (p : Page) (k : Nat) : Int := (p (limitOff k 0x08)).toInt
def Page.binHigh (p : Page) (k : Nat) : Int := (p (limitOff k 0x0C)).toInt
def Page.binLow (p : Page) (k : Nat) : Int := (p (limitOff k 0x10)).toInt
def Page.hyst (p : Page) (k : Nat) : Nat := (p (limitOff k 0x14)).toNat
def Page.binAlarmCount (p : Page) (k : Nat) : Nat := (p (limitOff k 0x18)).toNat
def Page.raiseScans (p : Page) (k : Nat) : Nat := (p (limitOff k 0x1C)).toNat
def Page.clearScans (p : Page) (k : Nat) : Nat := (p (limitOff k 0x20)).toNat
def Page.alarmOut (p : Page) (k bit : Nat) : Bool := (p (limitOff k 0x24)).getLsbD bit

/-! The BREAK group (Table 11-6): cue enables in bit order LOW, OPEN, LINE, EDGE. -/

def Page.cueEnables (p : Page) : BitVec 4 := (p 0x540).setWidth 4
def Page.cueLow (p : Page) : Bool := (p 0x540).getLsbD 0
def Page.cueOpen (p : Page) : Bool := (p 0x540).getLsbD 1
def Page.cueLine (p : Page) : Bool := (p 0x540).getLsbD 2
def Page.cueEdge (p : Page) : Bool := (p 0x540).getLsbD 3
def Page.breakFloor (p : Page) : Int := (p 0x544).toInt
def Page.openCeiling (p : Page) : Int := (p 0x548).toInt
def Page.persistA (p : Page) : Nat := (p 0x54C).toNat
def Page.persistB (p : Page) : Nat := (p 0x550).toNat
def Page.debounceMs (p : Page) : Nat := (p 0x554).toNat

/-- Entry T[i] of table bank k (Table 11-2). -/
def Page.tableEntry (p : Page) (k i : Nat) : Int := (p (0x600 + 132 * k + 4 * i)).toInt

/-! Role codes (Table 11-12). -/

def roleBw : Word := 1
def roleMoist : Word := 2
def roleLight : Word := 3

/-- Channels 0 to 7, in ascending order. -/
def channels8 : List (Fin 8) := [0, 1, 2, 3, 4, 5, 6, 7]

/-- Channels 0 to 8, in ascending order; channel 8 is DRY. -/
def channels9 : List (Fin 9) := [0, 1, 2, 3, 4, 5, 6, 7, 8]

/-- The DRY channel. -/
def dryChannel : Fin 9 := 8

/-- The enabled channels of a page, ascending (R89). -/
def Page.enabledChannels (p : Page) : List (Fin 8) := channels8.filter (fun c => p.enabled c)

/-- The lowest-numbered enabled channel of a role, if there is one. -/
def Page.roleChannel (p : Page) (role : Word) : Option (Fin 8) := p.enabledChannels.find? (fun c => p.role c == role)

/-- DRY is configured when a BW and a MOIST channel are enabled (R89). -/
def Page.dryConfigured (p : Page) : Bool := (p.roleChannel roleBw).isSome && (p.roleChannel roleMoist).isSome

/-- The channel set of a scan or batch: the enabled channels, with DRY when it is configured (Table 7-1). -/
def Page.channelSet (p : Page) : List (Fin 9) :=
  p.enabledChannels.map Fin.castSucc ++ (if p.dryConfigured then [dryChannel] else [])

/-- The slot count of a frame: the highest SLOT of an enabled channel, or 1 when that is below 1 or none is enabled
(R29). -/
def Page.slotCount (p : Page) : Nat := p.enabledChannels.foldl (fun n (c : Fin 8) => max n (p.slot c)) 1

/-- FILTER_K of a channel; that of the BW channel for DRY (R147). -/
def Page.filterK9 (p : Page) (c : Fin 9) : Nat :=
  if c = dryChannel then ((p.roleChannel roleBw).map (fun b => p.filterK b)).getD 0 else p.filterK c

/-- REPORT RAW of a channel; that of the BW channel for DRY (R148). -/
def Page.reportRaw9 (p : Page) (c : Fin 9) : Bool :=
  if c = dryChannel then ((p.roleChannel roleBw).map (fun b => p.reportRaw b)).getD false else p.reportRaw c

/-- The active page of the machine. -/
def State.page (s : State) : Page := activePage s.mem

/-- The staged page of the machine. -/
def State.staged (s : State) : Page := stagedPage s.mem

end Sys2Proof.Machine
end

