-- ==== Sys2Proof/Machine/Operands.lean ====
section
/-!
DEFINITION. Operand forms: codes of the enumerated values (Table 11-12), the words of the head link (R30, R33, section
11.6), absent marks (R187), rounding and clamping (00_scope.md 0.6), the quadrature order (R45).
-/

namespace Sys2Proof.Machine

/-! Codes (Table 11-12). -/

def Result.code : Result → Word
  | .none => 0 | .accepted => 1 | .busy => 2 | .badPlan => 3 | .badBins => 4 | .badPeriod => 5 | .badSlots => 6
  | .badRoles => 7 | .badTable => 8 | .badCue => 9 | .badEdge => 10 | .badMode => 11 | .noChannels => 12
  | .staleAck => 13 | .faultPersists => 14 | .badCode => 15

def ReqMode.code : ReqMode → Word
  | .scan => 1 | .hold => 2 | .park => 3 | .stop => 4 | .home => 5

/-- MODE_REQ read from the whole word (R14, R186). -/
def ReqMode.ofWord (w : Word) : Option ReqMode :=
  if w = 1 then some .scan else if w = 2 then some .hold else if w = 3 then some .park
  else if w = 4 then some .stop else if w = 5 then some .home else none

def Goal.code : Goal → Word
  | .scan => 1 | .hold => 2 | .park => 3 | .stop => 4 | .home => 5 | .standardize => 6

def GoalCause.code : GoalCause → Word
  | .brk => 1 | .link => 2 | .standardize => 3 | .aborted => 4

def HeadState.code : HeadState → Word
  | .unhomed => 0 | .homing => 1 | .parked => 2 | .standing => 3 | .standardizing => 4 | .outbound => 5 | .inbound => 6
  | .turning => 7 | .holding => 8 | .movingToHold => 9 | .returning => 10 | .stopping => 11 | .faulted => 12

def BreakState.code : BreakState → Word
  | .disarmed => 0 | .watch => 1 | .broken => 2

def FaultCause.code : FaultCause → Word
  | .none => 0 | .stall => 1 | .limit => 2 | .overtravel => 3 | .drive => 4

/-- The cause with which the link goes DOWN (Figure 2-2). -/
inductive LinkCause where
  | loss | noEcho | reset
  deriving DecidableEq, Repr

def LinkCause.code : LinkCause → Int
  | .loss => 1 | .noEcho => 2 | .reset => 3

/-- Validity of a channel's sample (R91, R102). -/
inductive Validity where
  | disabled | usable | absent | notMeasuring | stale | sat | unreferenced
  deriving DecidableEq, Repr

def Validity.code : Validity → Word
  | .disabled => 0 | .usable => 1 | .absent => 2 | .notMeasuring => 3 | .stale => 4 | .sat => 5 | .unreferenced => 6

/-- Kind of a record (Table 8-1). -/
inductive RecKind where
  | profile | fixed | stdz
  deriving DecidableEq, Repr

def RecKind.code : RecKind → Word
  | .profile => 1 | .fixed => 2 | .stdz => 3

/-- Outcome of a record (Table 8-1). -/
inductive RecOutcome where
  | complete | thin | brk | link | fault | aborted
  deriving DecidableEq, Repr

def RecOutcome.code : RecOutcome → Word
  | .complete => 1 | .thin => 2 | .brk => 3 | .link => 4 | .fault => 5 | .aborted => 6

def ScanDir.code : ScanDir → Word
  | .outbound => 1 | .inbound => 2

/-- Result of a standardize for one channel (R115, R118). -/
inductive StdResult where
  | accepted | nodata | lowref | drift | check | abandoned
  deriving DecidableEq, Repr

def StdResult.code : StdResult → Word
  | .accepted => 1 | .nodata => 2 | .lowref => 3 | .drift => 4 | .check => 5 | .abandoned => 6

/-! Absent marks (R187). -/

def absentValue : Word := 0x80000000
def absentBin : Word := 0xFFFFFFFF

/-- A value word, or the absent mark. -/
def valueWord (v : Option Int) : Word := (v.map Word.ofSigned).getD absentValue

/-- A bin-number word, or the absent mark. -/
def binWord (b : Option Nat) : Word := (b.map Word.ofCount).getD absentBin

/-! Rounding and clamping (00_scope.md 0.6, "Arithmetic"). -/

/-- round(n / d), halves away from zero, d positive. -/
def roundAway (n : Int) (d : Nat) : Int :=
  if 0 ≤ n then (2 * n + d) / (2 * d) else -((2 * (-n) + d) / (2 * d))

/-- round(n / d), halves up, d positive. -/
def roundUp (n : Int) (d : Nat) : Int := (2 * n + d) / (2 * d)

def clampInt (lo hi v : Int) : Int := if v < lo then lo else if hi < v then hi else v
def clampNat (lo hi v : Nat) : Nat := if v < lo then lo else if hi < v then hi else v

/-! Words of the head link. -/

/-- Whether an odd count of the word bits and the parity bit are ones (R30). -/
def oddParity (w : SlotWord) (parity : Bool) : Bool :=
  (List.range 24).foldl (fun acc i => xor acc (w.getLsbD i)) parity

/-- The parity bit that makes the count of ones odd (R30). -/
def parityBit (w : SlotWord) : Bool := !oddParity w false

/-- A slot is received when the start mark came and the parity is odd; otherwise it is ABSENT (R30). -/
def SlotRx.received (r : SlotRx) : Option SlotWord :=
  if r.startMark && oddParity r.word r.parity then some r.word else none

/-- Slot i of a frame of 1 + S slots; a slot above S, or one that was not sent, reads ABSENT (R31). -/
def slotWord (slots : List SlotRx) (slotCount i : Nat) : Option SlotWord :=
  if i ≤ slotCount then (slots[i]?).bind SlotRx.received else none

/-- The command word on HL_OUT (section 11.6): SEQ in bits 3:0, SHUTTER in bit 4, REF in bit 5. -/
def commandWord (seq : BitVec 4) (shutter ref : Bool) : SlotWord :=
  (BitVec.ofBool ref ++ BitVec.ofBool shutter ++ seq).setWidth 24

/-! Fields of the status word and of a data word (section 11.6). -/

def statusEcho (w : SlotWord) : BitVec 4 := w.setWidth 4
def statusShutterOpen (w : SlotWord) : Bool := w.getLsbD 4
def statusRefIn (w : SlotWord) : Bool := w.getLsbD 5
def statusReady (w : SlotWord) : Bool := w.getLsbD 6
def statusTempAlarm (w : SlotWord) : Bool := w.getLsbD 7
def dataValue (w : SlotWord) : Nat := (w.setWidth 20).toNat
def dataStale (w : SlotWord) : Bool := w.getLsbD 20
def dataSat (w : SlotWord) : Bool := w.getLsbD 21

/-! The encoder (R45). -/

/-- The place of the levels (ENC_A, ENC_B) in the order (0,0), (1,0), (1,1), (0,1). -/
def quadrature : Bool → Bool → Nat
  | false, false => 0 | true, false => 1 | true, true => 2 | false, true => 3

/-- The count that a change of levels adds, by the quadrature order and the sense; 0 when both inputs change at once or
none does. -/
def encoderDelta (reversed : Bool) (a b a' b' : Bool) : Int :=
  let d := (quadrature a' b' + 4 - quadrature a b) % 4
  let step : Int := if d = 1 then 1 else if d = 3 then -1 else 0
  if reversed then -step else step

end Sys2Proof.Machine
end

