-- ==== Sys2Proof/Machine/Flags.lean ====
section
/-!
DEFINITION. Status flags: the thirteen notice flags and NOTICE_L (R19, R20), PART STATE (R4, R185), ALARM_L (R161), and
what the host reads at a register or at a word of the exchange memory (R1, R3).
-/

namespace Sys2Proof.Machine

/-- The notice flags in the bit order of NOTICE (Table 11-1). -/
inductive Notice where
  | record | recordX | lost | brk | resumed | applied | refused | stdz | headFault | panel | link | alarm | restarted
  deriving DecidableEq, Repr

def Notice.bit : Notice → Nat
  | .record => 0 | .recordX => 1 | .lost => 2 | .brk => 3 | .resumed => 4 | .applied => 5 | .refused => 6 | .stdz => 7
  | .headFault => 8 | .panel => 9 | .link => 10 | .alarm => 11 | .restarted => 12

def Notice.maskBit (n : Notice) : BitVec 13 := BitVec.twoPow 13 n.bit

/-- Set a notice flag; the flags count nothing (R19). -/
def State.setNotice (n : Notice) (s : State) : State := { s with ex.notice := s.ex.notice ||| n.maskBit }

/-- NOTICE_L is asserted exactly while some flag and its mask bit are both set (R20); inactive in STARTING (R25). -/
def State.noticeLine (s : State) : Bool := decide (s.ex.life = .ready) && (s.ex.notice &&& s.ex.mask != 0)

/-- The enable bit of alarm entry i: the limit record that holds it and the bit of its ALARM_OUT (R161, Table 11-5). -/
def alarmOutPlace (i : Nat) : Nat × Nat :=
  if i < 36 then (i / 4, i % 4) else if i < 44 then (i - 36, 4) else (8, i - 40)

/-- Entry i drives the output while it is ACTIVE and its enable is set (R161). -/
def State.drivesOutput (s : State) (i : Fin 48) : Bool :=
  s.alarms[i].active && s.page.alarmOut (alarmOutPlace i).1 (alarmOutPlace i).2

/-- The alarm indices 0 to 47. -/
def alarmIndices : List (Fin 48) := (List.range 48).filterMap (fun n => if h : n < 48 then some ⟨n, h⟩ else none)

/-- ALARM_L is asserted exactly while some ACTIVE entry has ALARM_OUT enabled (R161); inactive in STARTING (R25). -/
def State.alarmLine (s : State) : Bool :=
  decide (s.ex.life = .ready) && alarmIndices.any (fun i => s.drivesOutput i)

/-- The state word of PART STATE (Table 11-1). -/
def State.partStateWord (s : State) : Word :=
  Word.ofBool (s.ex.life = .ready) ||| (Word.ofBool (s.ex.cause = .warm) <<< 1) ||| (Word.ofBool s.link.up <<< 2)
    ||| (s.brk.state.code <<< 4) ||| (s.trav.head.code <<< 8)

/-- A GATE read: result in bits 7:0, state in bit 8 (Table 11-1). -/
def State.gateWord (s : State) : Word := s.ex.gateResult.code ||| (Word.ofBool s.ex.applyPending <<< 8)

/-- A register read; `sel` is A[4:2] (R3, R185). While life is STARTING, GATE, NOTICE and NOTICE MASK read 0. -/
def State.hostReadRegister (s : State) (sel : BitVec 3) : Word :=
  if sel = 3 then s.partStateWord
  else if sel = 4 then Config.ident
  else if s.ex.life = .starting then 0
  else if sel = 0 then s.gateWord
  else if sel = 1 then s.ex.notice.setWidth 32
  else if sel = 2 then s.ex.mask.setWidth 32
  else 0

/-- A host read of the exchange memory; `wa` is A[17:2] (R1). While life is STARTING every read returns 0. -/
def State.hostReadMem (s : State) (wa : BitVec 16) : Word :=
  let a := 4 * wa.toNat
  if s.ex.life = .starting then 0
  else if 0x09800 ≤ a ∧ a < 0x10000 then 0
  else readWord s.mem a

/-- DRV_PWM: how many nanoseconds of the running 50 µs period the line is high (R48). -/
def State.drvPwmHighNs (s : State) : Nat := 50 * s.trav.pwmDuty

/-- DRV_DIR is low for OUT and high for IN (R48). -/
def State.drvDirHigh (s : State) : Bool := decide (s.trav.dir = .inn)

/-- A slot as the part sends it on HL_OUT: the start mark, the 24 word bits and the parity bit that makes the count of
ones odd (R30). -/
def slotSent (w : SlotWord) : SlotRx := { startMark := true, word := w, parity := parityBit w }

/-- The slots that the part sends on HL_OUT in the frame in flight: the command word, then a zero word in each of slots
1 to S (section 2.2, R30). No slots are sent while no frame is in flight. -/
def State.hlOut (s : State) : List SlotRx :=
  match s.link.inFlight with
  | none => []
  | some f => slotSent (commandWord f.seq f.shutter f.ref) :: List.replicate f.slotCount (slotSent 0)

end Sys2Proof.Machine
end

