-- ==== Sys2Proof/Machine/Ops.lean ====
section
/-!
DEFINITION. The named operations that the events share: writes of the live area (R24), raising and clearing an alarm
entry (R160), producing a record (R22, R23), writing the break history (R177), and recomputing the goal record (R73).
-/

namespace Sys2Proof.Machine

/-! ## Live area -/

/-- Write one word of the live area (Table 11-7). -/
def State.live (off : Nat) (w : Word) (s : State) : State := { s with mem := writeWord s.mem (liveBase + off) w }

/-- Write consecutive words of the live area, one item in one event (R24). -/
def State.liveWords (off : Nat) (ws : List Word) (s : State) : State :=
  { s with mem := writeWords s.mem (liveBase + off) ws }

/-- Write a Bool field of the live area. -/
def State.liveBool (off : Nat) (b : Bool) (s : State) : State := s.live off (Word.ofBool b)

/-! ## Alarm entries -/

/-- The four words of an alarm entry (Table 11-8). -/
def AlarmEntry.words (e : AlarmEntry) : List Word :=
  [Word.ofBool e.active ||| (Word.ofCount e.violationStreak <<< 8) ||| (Word.ofCount e.clearStreak <<< 16),
   Word.ofCount e.timesRaised, e.lastChange, Word.ofSigned e.lastValue]

/-- Give entry i a new content; the live area follows whenever a field changes (R159). -/
def State.setAlarm (i : Fin 48) (e : AlarmEntry) (s : State) : State :=
  if s.alarms[i] = e then s
  else ({ s with alarms := s.alarms.set i.val e i.isLt } : State).liveWords (0x200 + 16 * i.val) e.words

/-- The entry with a handed value taken, if a value is handed (R160). -/
def AlarmEntry.withValue (e : AlarmEntry) (v : Option Int) : AlarmEntry := { e with lastValue := v.getD e.lastValue }

/-- Hand a raise of entry i (R160); the first component says whether the hand-off raised the entry. -/
def State.raiseAlarm (i : Fin 48) (v : Option Int) (s : State) : Bool × State :=
  let e := s.alarms[i].withValue v
  if e.active then (false, s.setAlarm i e)
  else
    let e' : AlarmEntry :=
      { e with active := true, timesRaised := min 65535 (e.timesRaised + 1), lastChange := s.link.timeCounter,
               violationStreak := 0, clearStreak := 0 }
    (true, (s.setAlarm i e').setNotice .alarm)

/-- Hand a clear of entry i (R160). -/
def State.clearAlarm (i : Fin 48) (v : Option Int) (s : State) : State :=
  let e := s.alarms[i].withValue v
  if e.active then
    let e' : AlarmEntry :=
      { e with active := false, lastChange := s.link.timeCounter, violationStreak := 0, clearStreak := 0 }
    (s.setAlarm i e').setNotice .alarm
  else s.setAlarm i e

/-! Indices of the alarm table (Figure 9-1). -/

def scanAlarm (c : Fin 9) (kind : Fin 4) : Fin 48 := ⟨4 * c.val + kind.val, by omega⟩
def stdFaultAlarm (c : Fin 8) : Fin 48 := ⟨36 + c.val, by omega⟩
def headTempAlarm : Fin 48 := 44
def edgeLostAlarm : Side → Fin 48
  | .front => 45
  | .back => 46
def linkDownAlarm : Fin 48 := 47

/-! ## Records -/

/-- What the profile unit fills of a record header (R152). -/
structure RecHeader where
  kind : RecKind
  outcome : RecOutcome
  direction : Word
  startTime : Word
  endTime : Word
  front : Word
  back : Word
  nBins : Word
  present : Word
  firstAfterBreak : Bool
  alarmRaised : Word
  deriving DecidableEq, Repr

/-- Words 1 to 15 of a record (Table 11-10). -/
def RecHeader.words (h : RecHeader) (number skipped generation : Word) (recordWords : Nat) : List Word :=
  [h.kind.code, number, skipped, h.outcome.code, h.direction, generation, h.startTime, h.endTime, h.front, h.back,
   h.nBins, h.present, Word.ofBool h.firstAfterBreak, h.alarmRaised, Word.ofCount recordWords]

/-- PRESENT: bit c for channel c (Table 11-10). -/
def presentMask (cs : List Nat) : Word := cs.foldl (fun w c => w ||| BitVec.twoPow 32 c) 0

/-- The word that shows a skipped counter; free beyond 32 bits (log entry 11). -/
def skippedWord (n : Nat) : Word := if n < 2 ^ 32 then Word.ofCount n else Config.skippedBeyond n

/-- The first frame in cyclic order from the pointer whose state word holds FREE (R22). -/
def findFree (m : Mem) (start : Fin 8) : Option (Fin 8) :=
  (channels8.map (fun k => start + k)).find? (fun k => readWord m (frameBase k.val) == freeCode)

/-- Produce a record: it takes the next number and is stored in a FREE frame with READY set last, or is lost and
counted as skipped (R22, R23). It carries the generation of the state; an event produces its records before its apply,
or as `State.edgeCueAfterApply` says (R152). -/
def State.produce (h : RecHeader) (body : List Word) (s : State) : State :=
  let number := s.ex.lastRecord + 1
  match findFree s.mem s.ex.nextFrame with
  | some k =>
    let ws := h.words number (skippedWord s.ex.skipped) s.ex.generation (16 + body.length) ++ body
    let m := writeWord (writeWords s.mem (frameBase k.val + 4) ws) (frameBase k.val) readyCode
    let s1 : State := { s with mem := m, ex := { s.ex with lastRecord := number, skipped := 0, nextFrame := k + 1 } }
    (s1.live 0x028 0).setNotice
      (if h.outcome = .complete ∧ h.alarmRaised = 0 then Notice.record else Notice.recordX)
  | none =>
    let s1 : State := { s with ex := { s.ex with lastRecord := number, skipped := s.ex.skipped + 1 } }
    (s1.live 0x028 (skippedWord s1.ex.skipped)).setNotice .lost

/-! ## The goal record -/

/-- What kind of event recomputes the goal record, as far as R75 distinguishes. -/
inductive GoalEvent where
  | breakRaised | linkRaised | other
  deriving DecidableEq, Repr

/-- The break park demand is raised exactly while BROKEN (Figure 10-2, R76). -/
def State.breakDemand (s : State) : Bool := decide (s.brk.state = .broken)

/-- The link park demand is raised while READY and the link is DOWN (R40, R42, R76). -/
def State.linkDemand (s : State) : Bool := decide (s.ex.life = .ready) && !s.link.up

/-- The goal by the claims, read from the top (R74). -/
def State.claimedGoal (s : State) : Goal :=
  if s.breakDemand || s.linkDemand || s.arb.panelPark then .park
  else match s.ex.reqMode with
    | .stop => .stop
    | .park => if s.std.stdNow then .standardize else .park
    | .home => .home
    | .scan => if s.std.due || s.std.stdNow then .standardize else .scan
    | .hold => if s.std.due || s.std.stdNow then .standardize else .hold

/-- The cause stored with a changed goal record (R75). -/
def goalCauseOf (ev : GoalEvent) (g : Goal) : GoalCause :=
  if g = .standardize then .standardize
  else match ev with
    | .breakRaised => .brk
    | .linkRaised => .link
    | .other => .aborted

/-- The two words of the live effective goal, one item (Table 11-7). -/
def Arbiter.goalWords (a : Arbiter) : List Word :=
  [a.goal.code ||| (Word.ofBool (!a.granted) <<< 4) ||| (a.cause.code <<< 8), Word.ofSigned a.holdPos]

/-- The result of a recompute of the goal record: the state, whether the record changed, and whether the hold position
of a goal that stays HOLD changed. -/
structure Recomputed where
  state : State
  changed : Bool
  posChanged : Bool

/-- Recompute the goal record from the inputs as they stand (R73, R79). The traverse controller takes the handed goal
in a separate operation. -/
def State.recompute (ev : GoalEvent) (s : State) : Recomputed :=
  let g := s.claimedGoal
  let granted := !s.arb.panelInhibit
  let posDiffers := decide (g = .hold ∧ s.ex.holdPos ≠ s.arb.holdPos)
  if g ≠ s.arb.goal ∨ granted ≠ s.arb.granted ∨ posDiffers = true then
    let a : Arbiter := { s.arb with goal := g, holdPos := s.ex.holdPos, granted := granted, cause := goalCauseOf ev g }
    { state := ({ s with arb := a } : State).liveWords 0x03C a.goalWords
      changed := true
      posChanged := posDiffers && decide (s.arb.goal = .hold) }
  else
    { state := if g = .hold then s else { s with arb.holdPos := s.ex.holdPos }, changed := false, posChanged := false }

/-- The standardize due condition (R109). -/
def State.dueCondition (s : State) : Bool :=
  (decide (1 ≤ s.page.stdInterval) && decide (s.page.stdInterval ≤ 255)
      && decide (s.page.stdInterval ≤ s.std.scanCount))
    || channels8.any (fun c => s.std.untried[c])

/-- Recompute the due condition and tell the arbiter of it (R109); the goal record is recomputed by the caller. -/
def State.tellDue (s : State) : State := { s with std.due := s.dueCondition }

/-! ## Break history -/

/-- The address of history entry i (Table 11-9). -/
def historyAddr (i : Fin 32) : Nat := historyBase + 64 * i.val

/-- What work a declaration ended (R177). -/
inductive OpenWork where
  | none | scan | batch
  deriving DecidableEq, Repr

def OpenWork.code : OpenWork → Word
  | .none => 0 | .scan => 1 | .batch => 2

/-- The position counter as a signed number (R45). -/
def State.pos (s : State) : Int := s.trav.position.toInt

/-- Write the history entry of the break standing at the index after the newest, and make it the newest (R177). -/
def State.writeHistory (head : HeadState) (cues : BitVec 4) (pos cuePos : Word) (work : OpenWork) (record : Word)
    (s : State) : State :=
  let i := s.brk.newest + 1
  let ws : List Word :=
    [s.brk.number, s.link.timeCounter, pos, cuePos, head.code, cues.setWidth 32, work.code, record,
     0, 0, 0, 0, 0, 0, 0, 0]
  ({ s with brk.newest := i, mem := writeWords s.mem (historyAddr i) ws } : State).live 0x054 (Word.ofCount i.val)

/-- Add a cue to CUES_AFTER of the newest entry; a cue added twice appears once (R178). -/
def State.addCueAfter (cue : BitVec 4) (s : State) : State :=
  let a := historyAddr s.brk.newest + 32
  { s with mem := writeWord s.mem a (readWord s.mem a ||| cue.setWidth 32) }

/-- Write the time counter to ACK_TIME of the newest entry (R179). -/
def State.writeAckTime (s : State) : State :=
  { s with mem := writeWord s.mem (historyAddr s.brk.newest + 36) s.link.timeCounter }

/-- Write the time counter to RESUME_TIME of the newest entry (R180). -/
def State.writeResumeTime (s : State) : State :=
  { s with mem := writeWord s.mem (historyAddr s.brk.newest + 40) s.link.timeCounter }

/-! Cue bits (Table 11-6, Table 11-9). -/

def cueBitLow : BitVec 4 := 1
def cueBitOpen : BitVec 4 := 2
def cueBitLine : BitVec 4 := 4
def cueBitEdge : BitVec 4 := 8

end Sys2Proof.Machine
end

