-- ==== Sys2Proof/Machine/Convert.lean ====
section
/-!
DEFINITION. The conversion unit (Chapter 5): validity, normalisation, table interpolation, the DRY channel, the live
value and validity of each channel.
-/

namespace Sys2Proof.Machine

/-- One channel's sample of a frame: its validity, its value when it was converted (R92), and what a standardize reads
of it: the raw VALUE and the standardize validity (R101). -/
structure Sample where
  chan : Fin 9
  validity : Validity
  value : Option Int
  raw : Nat
  stdValid : Bool
  deriving DecidableEq, Repr

/-- A usable sample's value. -/
def Sample.usableValue (x : Sample) : Option Int := if x.validity = .usable then x.value else none

/-- Normalisation of a raw value: RATIO (R93) or OFFSET (R94). -/
def normalise (offsetForm : Bool) (ref raw : Nat) : Nat :=
  if offsetForm then (clampInt 0 65535 ((raw : Int) - ref + 32768)).toNat
  else min 65535 (raw * 65536 / ref)

/-- The line between the two marks of the table around x (R95), floor toward minus infinity. -/
def interpolate (t : Nat → Int) (x : Nat) : Int :=
  let i := x / 2048
  let f := x % 2048
  t i + ((t (i + 1) - t i) * f) / 2048

/-- Stages 1 and 2 for a channel (R92 to R96). -/
def convertRaw (p : Page) (c : Fin 8) (ref raw : Nat) : Int :=
  interpolate (p.tableEntry (p.table c)) (normalise (p.offsetForm c) ref raw)

/-- Validity of a received word: the first reject cause that applies, or USABLE (R91). -/
def wordValidity (valid stale sat accepted : Bool) : Validity :=
  if !valid then .notMeasuring
  else if stale then .stale
  else if sat then .sat
  else if !accepted then .unreferenced
  else .usable

/-- The sample of enabled channel c in a frame (R89, R91, R92, R101); `valid` says that the frame is
measurement-valid. -/
def sampleOf (p : Page) (refs : Vector RefRecord 8) (slots : List SlotRx) (slotCount : Nat) (valid : Bool)
    (c : Fin 8) : Sample :=
  match slotWord slots slotCount (p.slot c) with
  | none => { chan := c.castSucc, validity := .absent, value := none, raw := 0, stdValid := false }
  | some w =>
    let ref := refs[c]
    { chan := c.castSucc
      validity := wordValidity valid (dataStale w) (dataSat w) ref.accepted
      value := if ref.accepted then some (convertRaw p c ref.value (dataValue w)) else none
      raw := dataValue w
      stdValid := valid && !dataStale w && !dataSat w }

/-- DRY = b × (100,000 − m) / 100,000 with m clamped, rounded halves away from zero (R97). -/
def dryValue (b m : Int) : Int := roundAway (b * (100000 - clampInt 0 100000 m)) 100000

/-- The DRY sample of a frame from its BW and MOIST samples (R97, R98). -/
def drySample (b m : Sample) : Sample :=
  match b.usableValue, m.usableValue with
  | some bv, some mv =>
    { chan := dryChannel, validity := .usable, value := some (dryValue bv mv), raw := 0, stdValid := false }
  | none, _ => { chan := dryChannel, validity := b.validity, value := none, raw := 0, stdValid := false }
  | some _, none => { chan := dryChannel, validity := m.validity, value := none, raw := 0, stdValid := false }

/-- The sample of a channel among a frame's samples. -/
def findSample (xs : List Sample) (c : Fin 9) : Option Sample := xs.find? (fun x => x.chan = c)

/-- The sample of the channel that has a role, among a frame's samples. -/
def roleSample (p : Page) (xs : List Sample) (role : Word) : Option Sample :=
  (p.roleChannel role).bind (fun c => findSample xs c.castSucc)

/-- All samples of a frame in channel order, DRY last when it is configured (R90). -/
def frameSamples (p : Page) (refs : Vector RefRecord 8) (slots : List SlotRx) (slotCount : Nat) (valid : Bool) :
    List Sample :=
  let xs := p.enabledChannels.map (sampleOf p refs slots slotCount valid)
  match roleSample p xs roleBw, roleSample p xs roleMoist with
  | some b, some m => xs ++ [drySample b m]
  | _, _ => xs

/-- Write a sample's live validity, and its live value when it was converted (R102). -/
def State.liveSample (s : State) (x : Sample) : State :=
  let s1 := s.live (0x0C0 + 4 * x.chan.val) x.validity.code
  match x.value with
  | some v => s1.live (0x080 + 4 * x.chan.val) (Word.ofSigned v)
  | none => s1

/-- Step 3 of R90: the live fields of every sample. -/
def State.liveSamples (xs : List Sample) (s : State) : State := xs.foldl State.liveSample s

/-- Live value 0 and live validity DISABLED for a channel (R103, R104). -/
def State.liveDisable (c : Fin 9) (s : State) : State :=
  (s.live (0x080 + 4 * c.val) 0).live (0x0C0 + 4 * c.val) 0

end Sys2Proof.Machine
end

