-- ==== Sys2Proof/Machine/Limits.lean ====
section
/-!
DEFINITION. The limit monitor's scan evaluation (Chapter 9, section 9.2): judgements, streaks, bin flags.
-/

namespace Sys2Proof.Machine

/-- Class of a bin at a scan close (R144). -/
inductive BinClass where
  | data | held | void
  deriving DecidableEq, Repr

/-- A bin as the profile unit hands it: class and array value (R150). -/
structure ProfBin where
  cls : BinClass
  value : Int
  deriving DecidableEq, Repr

/-- What a judged kind finds (R162). -/
inductive Judgement where
  | violating | clear | neither
  deriving DecidableEq, Repr

/-- The array values of the data bins. -/
def dataValues (bins : List ProfBin) : List Int :=
  (bins.filter (fun b => decide (b.cls = .data))).map ProfBin.value

/-- How many data bins have a value that satisfies a condition. -/
def countData (cond : Int → Bool) (bins : List ProfBin) : Nat := ((dataValues bins).filter cond).length

/-- The judgement of one scan kind and the value it writes to LAST_VALUE (R163, R164). -/
def judgeKind (p : Page) (k : Nat) (kind : Fin 4) (avg : Int) (bins : List ProfBin) : Judgement × Int :=
  let h : Int := p.hyst k
  match kind with
  | 0 => (if p.avgHigh k < avg then .violating else if avg ≤ p.avgHigh k - h then .clear else .neither, avg)
  | 1 => (if avg < p.avgLow k then .violating else if p.avgLow k + h ≤ avg then .clear else .neither, avg)
  | 2 =>
    let n := countData (fun v => decide (p.binHigh k < v)) bins
    (if p.binAlarmCount k ≤ n then .violating
      else if (dataValues bins).all (fun v => decide (v ≤ p.binHigh k - h)) then .clear else .neither, n)
  | 3 =>
    let n := countData (fun v => decide (v < p.binLow k)) bins
    (if p.binAlarmCount k ≤ n then .violating
      else if (dataValues bins).all (fun v => decide (p.binLow k + h ≤ v)) then .clear else .neither, n)

/-- Move a scan entry by a judgement (R162); the first component says whether it was raised. -/
def State.moveEntry (i : Fin 48) (j : Judgement) (v : Int) (raiseScans clearScans : Nat) (s : State) : Bool × State :=
  let e := s.alarms[i]
  if e.active then
    match j with
    | .clear =>
      if clearScans ≤ e.clearStreak + 1 then (false, s.clearAlarm i (some v))
      else (false, s.setAlarm i { e with clearStreak := min 15 (e.clearStreak + 1), lastValue := v })
    | .violating | .neither => (false, s.setAlarm i { e with clearStreak := 0, lastValue := v })
  else
    match j with
    | .violating =>
      if raiseScans ≤ e.violationStreak + 1 then s.raiseAlarm i (some v)
      else (false, s.setAlarm i { e with violationStreak := min 15 (e.violationStreak + 1), lastValue := v })
    | .clear | .neither => (false, s.setAlarm i { e with violationStreak := 0, lastValue := v })

/-- The four scan kinds in order (R162). -/
def scanKinds : List (Fin 4) := [0, 1, 2, 3]

/-- Judge one scan kind of a channel if it is enabled, adding its bit to the mask when it is raised (R162, R166). -/
def State.evalKind (c : Fin 9) (avg : Int) (bins : List ProfBin) (acc : Word × State) (kind : Fin 4) : Word × State :=
  let p := acc.2.page
  if p.kindEnabled c.val kind.val then
    let j := judgeKind p c.val kind avg bins
    let r := acc.2.moveEntry (scanAlarm c kind) j.1 j.2 (p.raiseScans c.val) (p.clearScans c.val)
    (if r.1 then acc.1 ||| BitVec.twoPow 32 kind.val else acc.1, r.2)
  else acc

/-- Scan evaluation of one channel at a COMPLETE close (R162 to R164). -/
def State.evalChannel (c : Fin 9) (avg : Int) (bins : List ProfBin) (acc : Word × State) : Word × State :=
  scanKinds.foldl (State.evalKind c avg bins) acc

/-- The flags HIGH and LOW of a bin (R165). -/
def binFlags (p : Page) (k : Nat) (b : ProfBin) : Bool × Bool :=
  (decide (b.cls = .data) && p.kindEnabled k 2 && decide (p.binHigh k < b.value),
   decide (b.cls = .data) && p.kindEnabled k 3 && decide (b.value < p.binLow k))

end Sys2Proof.Machine
end

