-- ==== Sys2Proof/Machine/Profile.lean ====
section
/-!
DEFINITION. The profile unit (Chapter 8): bin means, coverage, averages, filters, array values, statistics, and the
composition of PROFILE, FIXED and STDZ records.
-/

namespace Sys2Proof.Machine

/-- A bin at a scan close: class, mean of a data bin, filter content before the close (R144). -/
structure ClassedBin where
  cls : BinClass
  mean : Int
  old : FilterBin
  deriving DecidableEq, Repr

/-- Class a bin by its count and the channel's filter state (R144). An unseeded channel is passed no filter bins. -/
def classBin (minCount : Nat) (a : BinAcc) (f : FilterBin) : ClassedBin :=
  if minCount ≤ a.count then { cls := .data, mean := roundAway a.sum a.count, old := f }
  else if f.filled then { cls := .held, mean := 0, old := f }
  else { cls := .void, mean := 0, old := f }

/-- Class the bins of a channel, bin by bin (R144). -/
def classBins (minCount : Nat) : List BinAcc → List FilterBin → List ClassedBin
  | [], _ => []
  | a :: as, fs => classBin minCount a (fs.headD { }) :: classBins minCount as fs.tail

/-- Whether a filter is taken as seeded at a close of a scan of `nBins` bins (R141). -/
def Filter.seededFor (f : Filter) (nBins : Nat) : Bool := f.seeded && decide (f.binCount = nBins)

/-- One channel at a scan close, after stages 1 to 3 (Figure 8-2). -/
structure ChanProfile where
  acc : ChanAcc
  bins : List ClassedBin
  nData : Nat
  avg : Option Int
  deriving DecidableEq, Repr

/-- Stages 1 to 3 for one channel: classes, the number of data bins, the scan average (R144 to R146). -/
def chanProfile (minCount nBins : Nat) (filters : Vector Filter 9) (a : ChanAcc) : ChanProfile :=
  let f := filters[a.chan]
  let bins := classBins minCount a.bins (if f.seededFor nBins then f.bins else [])
  let data := bins.filter (fun b => decide (b.cls = .data))
  { acc := a
    bins := bins
    nData := data.length
    avg := if data.length = 0 then none else some (roundAway (data.map ClassedBin.mean).sum data.length) }

/-- A channel is thin (R145). -/
def ChanProfile.thin (c : ChanProfile) (nBins minCover : Nat) : Bool :=
  decide (c.nData = 0) || decide (c.nData * 100 < nBins * minCover)

/-- The scan outcome: THIN when a channel is thin or the set is empty (R145). -/
def scanOutcome (cs : List ChanProfile) (nBins minCover : Nat) : RecOutcome :=
  if cs.isEmpty || cs.any (fun c => c.thin nBins minCover) then .thin else .complete

/-- The filter update of one bin at a COMPLETE close, K in 1/256 (R147). -/
def updateBin (k : Nat) (b : ClassedBin) : FilterBin :=
  match b.cls with
  | .data =>
    let m := 256 * b.mean
    let f := if b.old.filled then b.old.f + ((m - b.old.f) * k) / 256 else m
    { filled := true, f := f, r := (f + 128) / 256 }
  | .held | .void => b.old

/-- The filter state of a channel after a COMPLETE close (R147). -/
def updateFilter (k nBins : Nat) (bins : List ClassedBin) : Filter :=
  { seeded := true, binCount := nBins, bins := bins.map (updateBin k) }

/-- The filters after a COMPLETE close (R147). -/
def updateFilters (p : Page) (nBins : Nat) (cs : List ChanProfile) (fs : Vector Filter 9) : Vector Filter 9 :=
  cs.foldl (fun v c => v.set c.acc.chan.val (updateFilter (p.filterK9 c.acc.chan) nBins c.bins) c.acc.chan.isLt) fs

/-- The array value of a bin (R148). -/
def arrayValue (raw complete : Bool) (k : Nat) (b : ClassedBin) : Int :=
  match b.cls with
  | .data => if !raw && complete then (updateBin k b).r else b.mean
  | .held => b.old.r
  | .void => 0

/-- The bins of a channel as handed to the limit monitor, in context bin order (R148, R150). -/
def profBins (p : Page) (complete : Bool) (c : ChanProfile) : List ProfBin :=
  c.bins.map (fun b =>
    { cls := b.cls, value := arrayValue (p.reportRaw9 c.acc.chan) complete (p.filterK9 c.acc.chan) b })

/-- Record bin order: reversed with FRONT_DRIVE (R151). -/
def recordOrder {α : Type} (p : Page) (bins : List α) : List α := if p.frontDrive then bins.reverse else bins

/-- The word of a bin entry (section 11.5). -/
def binEntry (p : Page) (k : Nat) (b : ProfBin) : Word :=
  let fl := binFlags p k b
  (BitVec.ofInt 24 (if b.cls = .void then 0 else b.value)).setWidth 32
    ||| (Word.ofBool (b.cls = .held) <<< 24) ||| (Word.ofBool (b.cls = .void) <<< 25)
    ||| (Word.ofBool fl.1 <<< 26) ||| (Word.ofBool fl.2 <<< 27)

/-- The best value of the non-VOID bins under an order and the lowest record bin at which it lies; `n` is the number of
the list's first bin (R149). -/
def bestBin (better : Int → Int → Bool) : Nat → List ProfBin → Option (Int × Nat)
  | _, [] => none
  | n, b :: bs =>
    match b.cls, bestBin better (n + 1) bs with
    | .void, r => r
    | _, some (v, i) => if better v b.value then some (v, i) else some (b.value, n)
    | _, none => some (b.value, n)

/-- How many bins have a class. -/
def countClass (cls : BinClass) (bins : List ProfBin) : Nat := (bins.filter (fun b => decide (b.cls = cls))).length

/-- The summary block of a channel: sixteen words (R149, R153, Table 11-11); `bins` is in record order. -/
def summaryBlock (c : ChanProfile) (bins : List ProfBin) : List Word :=
  let lo := bestBin (fun v w => decide (v < w)) 0 bins
  let hi := bestBin (fun v w => decide (w < v)) 0 bins
  let spread := match lo, hi with
    | some l, some h => some (h.1 - l.1)
    | _, _ => none
  [valueWord c.avg, valueWord (lo.map Prod.fst), binWord (lo.map Prod.snd), valueWord (hi.map Prod.fst),
   binWord (hi.map Prod.snd), valueWord spread, Word.ofCount (countClass .held bins),
   Word.ofCount (countClass .void bins), Word.ofCount c.acc.accepted, Word.ofCount c.acc.rejAbsent,
   Word.ofCount c.acc.rejNotMeasuring, Word.ofCount c.acc.rejStale, Word.ofCount c.acc.rejSat,
   Word.ofCount c.acc.rejUnreferenced, Word.ofCount c.acc.rejOffSheet, Word.ofCount c.acc.rejFull]

/-- The body of a COMPLETE or THIN PROFILE record (R153). -/
def profileBody (p : Page) (complete : Bool) (cs : List ChanProfile) : List Word :=
  cs.flatMap (fun c => summaryBlock c (recordOrder p (profBins p complete c)))
    ++ cs.flatMap (fun c => (recordOrder p (profBins p complete c)).map (binEntry p c.acc.chan.val))

/-- The header fields that a scan context gives a PROFILE record (Table 8-1). -/
def profileHeader (ctx : ScanCtx) (outcome : RecOutcome) (endTime present mask : Word) : RecHeader :=
  { kind := .profile, outcome := outcome, direction := ctx.dir.code, startTime := ctx.startTime, endTime := endTime,
    front := Word.ofSigned ctx.front, back := Word.ofSigned ctx.back, nBins := Word.ofCount ctx.nBins,
    present := present, firstAfterBreak := ctx.firstAfterBreak, alarmRaised := mask }

/-- A scan close at the profile unit (R143 to R153): outcome, filters, limit evaluation, record. `edgeKinds` are the
EDGE_LOST kinds raised by the edge judgement. -/
def State.profileClose (ctx : ScanCtx) (edgeKinds : Word) (s : State) : RecOutcome × State :=
  let p := s.page
  let cs := ctx.chans.map (chanProfile p.minCount ctx.nBins s.filters)
  let outcome := scanOutcome cs ctx.nBins p.minCover
  let complete := decide (outcome = .complete)
  let s1 : State := if complete then { s with filters := updateFilters p ctx.nBins cs s.filters } else s
  let r : Word × State :=
    if complete then
      cs.foldl (fun acc c => State.evalChannel c.acc.chan (c.avg.getD 0) (profBins p complete c) acc) (0, s1)
    else (0, s1)
  let present := presentMask (cs.map (fun c => c.acc.chan.val))
  (outcome,
   r.2.produce (profileHeader ctx outcome s.link.timeCounter present (r.1 ||| edgeKinds)) (profileBody p complete cs))

/-- The record of an aborted scan: the header alone (R154). -/
def State.profileAbort (ctx : ScanCtx) (outcome : RecOutcome) (s : State) : State :=
  s.produce (profileHeader ctx outcome s.link.timeCounter 0 0) []

/-- The four words of a batch channel (R155). -/
def batchChanWords (c : BatchChan) : List Word :=
  [valueWord (if c.count = 0 then none else some (roundAway c.sum c.count)), valueWord (c.minMax.map Prod.fst),
   valueWord (c.minMax.map Prod.snd), Word.ofCount c.count]

/-- The FIXED record of a batch (R155). -/
def State.produceFixed (b : Batch) (outcome : RecOutcome) (s : State) : State :=
  s.produce
    { kind := .fixed, outcome := outcome, direction := 0, startTime := b.startTime, endTime := s.link.timeCounter,
      front := 0, back := 0, nBins := 0, present := presentMask (b.chans.map (fun c => c.chan.val)),
      firstAfterBreak := b.firstAfterBreak, alarmRaised := 0 }
    (b.holdPos :: Word.ofCount b.frames :: b.chans.flatMap batchChanWords)

/-- One entry of a STDZ record (R118). -/
structure StdEntry where
  chan : Fin 8
  oldRef : Nat
  newRef : Nat
  check : Int
  result : StdResult
  deriving DecidableEq, Repr

/-- The STDZ record of a standardize (R156). -/
def State.produceStdz (ctx : StdCtx) (outcome : RecOutcome) (entries : List StdEntry) (anyRaised : Bool) (s : State) :
    State :=
  s.produce
    { kind := .stdz, outcome := outcome, direction := 0, startTime := ctx.startTime, endTime := s.link.timeCounter,
      front := 0, back := 0, nBins := 0, present := presentMask (ctx.chans.map (fun c => c.chan.val)),
      firstAfterBreak := false, alarmRaised := if anyRaised then 0x10 else 0 }
    (entries.flatMap (fun e =>
      [Word.ofCount e.oldRef, Word.ofCount e.newRef, Word.ofSigned e.check, e.result.code]))

/-- Unseed every channel (R142). -/
def State.unseedAll (s : State) : State := { s with filters := Vector.replicate 9 { } }

/-- Unseed one channel (R142). -/
def State.unseed (c : Fin 9) (s : State) : State := { s with filters := s.filters.set c.val { } c.isLt }

end Sys2Proof.Machine
end

