-- ==== Sys2Proof/Machine/Binning.lean ====
section
/-!
DEFINITION. The binning unit (Chapter 7): scan contexts, bins, edge search and judgement, fixed-point batches.
-/

namespace Sys2Proof.Machine

/-- The head state of a traverse in a direction. -/
def ScanDir.headState : ScanDir → HeadState
  | .outbound => .outbound
  | .inbound => .inbound

/-- Write both edges in use to the live area (R122). -/
def State.liveEdges (s : State) : State :=
  s.liveWords 0x060 [Word.ofSigned s.bin.edgeFront, Word.ofSigned s.bin.edgeBack]

/-- Set the edges in use (R122). -/
def State.setEdges (front back : Int) (s : State) : State :=
  ({ s with bin := { s.bin with edgeFront := front, edgeBack := back } } : State).liveEdges

/-- The opening of a scan (R123). -/
def State.openScan (d : ScanDir) (s : State) : State :=
  let p := s.page
  let ctx : ScanCtx :=
    { dir := d, startTime := s.link.timeCounter, startPos := s.trav.position, front := s.bin.edgeFront,
      back := s.bin.edgeBack, nBins := p.nBins
      chans := p.channelSet.map (fun c => { chan := c, bins := List.replicate p.nBins { } })
      firstAfterBreak := s.bin.firstAfterBreak }
  let s1 : State :=
    { s with bin := { s.bin with scan := some ctx, firstAfterBreak := false }
             link.inFlight := s.link.inFlight.map (fun f => { f with sinceScanOpen := false }) }
  (s1.liveBool 0x058 true).live 0x05C s.link.timeCounter

/-- Counts of a scan context hold at 4,294,967,295 (R125). -/
def bump (n : Nat) : Nat := min 4294967295 (n + 1)

/-- The bin of a position (R126). -/
def binIndex (front back : Int) (nBins : Nat) (p : Int) : Nat := (((p - front) * nBins) / (back - front)).toNat

/-- Add a value to bin b of a channel, or count it FULL (R125). -/
def ChanAcc.addToBin (a : ChanAcc) (b : Nat) (v : Int) : ChanAcc :=
  match a.bins[b]? with
  | none => a
  | some x =>
    if 65535 ≤ x.count then { a with rejFull := bump a.rejFull }
    else { a with bins := a.bins.set b { sum := x.sum + v, count := x.count + 1 }, accepted := bump a.accepted }

/-- Dispose of one channel's sample, once, in exactly one of the outcomes of R125. -/
def ChanAcc.dispose (a : ChanAcc) (front back : Int) (nBins : Nat) (pos : Int) (x : Sample) : ChanAcc :=
  match x.validity, x.value with
  | .usable, some v =>
    if pos < front ∨ back ≤ pos then { a with rejOffSheet := bump a.rejOffSheet }
    else a.addToBin (binIndex front back nBins pos) v
  | .usable, none | .disabled, _ => a
  | .absent, _ => { a with rejAbsent := bump a.rejAbsent }
  | .notMeasuring, _ => { a with rejNotMeasuring := bump a.rejNotMeasuring }
  | .stale, _ => { a with rejStale := bump a.rejStale }
  | .sat, _ => { a with rejSat := bump a.rejSat }
  | .unreferenced, _ => { a with rejUnreferenced := bump a.rejUnreferenced }

/-- Dispose of the samples of a frame, channel by channel (R125). -/
def ScanCtx.bin (ctx : ScanCtx) (pos : Int) (xs : List Sample) : ScanCtx :=
  { ctx with chans := ctx.chans.map (fun a =>
      match findSample xs a.chan with
      | some x => a.dispose ctx.front ctx.back ctx.nBins pos x
      | none => a) }

/-- Whether a position lies within EDGE_WINDOW of an edge (R127). -/
def withinWindow (window : Nat) (edge pos : Int) : Bool := decide ((pos - edge).natAbs ≤ window)

/-- Record a rise or a fall at an on-sheet position in the findings (R128). -/
def ScanCtx.recordPair (ctx : ScanCtx) (window : Nat) (rise : Bool) (at_ : Int) : ScanCtx :=
  let front := withinWindow window ctx.front at_
  let back := withinWindow window ctx.back at_
  match ctx.dir, rise with
  | .outbound, true =>
    if front && ctx.frontFinding.isNone then { ctx with frontFinding := some at_ } else ctx
  | .outbound, false => if back then { ctx with backFinding := some at_ } else ctx
  | .inbound, false => if front then { ctx with frontFinding := some at_ } else ctx
  | .inbound, true => if back && ctx.backFinding.isNone then { ctx with backFinding := some at_ } else ctx

/-- The edge search takes one usable BW sample (R127, R128). -/
def ScanCtx.search1 (ctx : ScanCtx) (p : Page) (pos v : Int) : ScanCtx :=
  let on := decide (p.edgeThreshold ≤ v)
  let ctx1 := match ctx.search with
    | some m =>
      if !m.onSheet && on then ctx.recordPair p.edgeWindow true pos
      else if m.onSheet && !on then ctx.recordPair p.edgeWindow false m.position
      else ctx
    | none => ctx
  { ctx1 with search := some { onSheet := on, position := pos } }

/-- The edge search on a frame that the scan takes: under TRACK, a usable BW sample between the turn positions
(R127). -/
def ScanCtx.edgeSearch (ctx : ScanCtx) (p : Page) (pos : Int) (xs : List Sample) : ScanCtx :=
  if p.edgeTrack && decide (p.fTurn < pos) && decide (pos < p.bTurn) then
    match (roleSample p xs roleBw).bind Sample.usableValue with
    | some v => ctx.search1 p pos v
    | none => ctx
  else ctx

/-- The open scan takes a frame (R124, R125, R127). -/
def State.scanFrame (f : Frame) (xs : List Sample) (s : State) : State :=
  match s.bin.scan with
  | some ctx =>
    if f.sinceScanOpen && decide (f.head = ctx.dir.headState) then
      let pos := f.position.toInt
      { s with bin.scan := some ((ctx.bin pos xs).edgeSearch s.page pos xs) }
    else s
  | none => s

/-! ## Edge judgement -/

/-- The miss count of a side. -/
def Binning.miss (b : Binning) : Side → Nat
  | .front => b.missFront
  | .back => b.missBack

/-- Set a side's miss count; becoming 0 while the side's entry is ACTIVE clears the entry with value 0 (R130). -/
def State.setMiss (side : Side) (n : Nat) (s : State) : State :=
  let s1 : State := match side with
    | .front => { s with bin.missFront := n }
    | .back => { s with bin.missBack := n }
  if n = 0 ∧ s1.alarms[edgeLostAlarm side].active = true then s1.clearAlarm (edgeLostAlarm side) (some 0) else s1

/-- The bit of an EDGE_LOST kind in ALARM_RAISED (Table 11-10). -/
def edgeKindBit : Side → Word
  | .front => 0x20
  | .back => 0x40

/-- The judgement of an edge at a close: the EDGE_LOST kinds raised, whether a miss count reached the limit, the
state. -/
structure Judged where
  kinds : Word
  cue : Bool
  state : State

/-- One side of the judgement when the pair is not adopted (R130): missed or found. -/
def Judged.side (j : Judged) (side : Side) (missed : Bool) : Judged :=
  if missed then
    let old := j.state.bin.miss side
    let n := min 15 (old + 1)
    let s1 := j.state.setMiss side n
    if n = s1.page.edgeMissLimit ∧ old ≠ n then
      let r := s1.raiseAlarm (edgeLostAlarm side) (some n)
      { kinds := if r.1 then j.kinds ||| edgeKindBit side else j.kinds, cue := true, state := r.2 }
    else { j with state := s1 }
  else { j with state := j.state.setMiss side 0 }

/-- The judgement of the edge findings at a close (R130). -/
def State.judgeEdges (ctx : ScanCtx) (s : State) : Judged :=
  match ctx.frontFinding, ctx.backFinding with
  | some f, some b =>
    if 2 * (ctx.nBins : Int) ≤ b - f then
      { kinds := 0, cue := false, state := ((s.setEdges f b).setMiss .front 0).setMiss .back 0 }
    else (Judged.side { kinds := 0, cue := false, state := s } .front true).side .back true
  | f, b => (Judged.side { kinds := 0, cue := false, state := s } .front f.isNone).side .back b.isNone

/-- The close of a scan (R129, R157, R108): edge judgement under TRACK, the profile unit, the end of the context, the
scan count and the due condition. Answers whether the EDGE cue follows (R131). -/
def State.closeScan (s : State) : Bool × State :=
  match s.bin.scan with
  | none => (false, s)
  | some ctx =>
    let j : Judged := if s.page.edgeTrack then s.judgeEdges ctx else { kinds := 0, cue := false, state := s }
    let r := j.state.profileClose ctx j.kinds
    let s2 : State := { r.2 with bin.scan := none }
    let s3 := s2.liveBool 0x058 false
    let s4 : State := { s3 with std.scanCount := min 255 (s3.std.scanCount + 1) }
    (j.cue, (s4.tellDue.recompute .other).state)

/-- The abort of a scan with an outcome (R132). -/
def State.abortScan (outcome : RecOutcome) (s : State) : State :=
  match s.bin.scan with
  | none => s
  | some ctx =>
    let s1 := s.profileAbort ctx outcome
    ({ s1 with bin.scan := none } : State).liveBool 0x058 false

/-- Discard an open scan without a record (R140). -/
def State.discardScan (s : State) : State :=
  if s.bin.scan.isSome then ({ s with bin.scan := none } : State).liveBool 0x058 false else s

/-! ## Fixed-point batches -/

/-- Start a batch (R133). -/
def State.startBatch (s : State) : State :=
  let b : Batch :=
    { startTime := s.link.timeCounter, holdPos := s.trav.position, firstAfterBreak := s.bin.firstAfterBreak,
      frames := 0, chans := s.page.channelSet.map (fun c => { chan := c }) }
  { s with bin := { s.bin with batch := some b, firstAfterBreak := false }
           link.inFlight := s.link.inFlight.map (fun f => { f with sinceBatchStart := false }) }

/-- Add a usable value to a channel of a batch (R134). -/
def BatchChan.add (c : BatchChan) (v : Int) : BatchChan :=
  { c with sum := c.sum + v, count := c.count + 1
           minMax := match c.minMax with
             | none => some (v, v)
             | some (lo, hi) => some (min lo v, max hi v) }

/-- A batch takes a frame (R134). -/
def Batch.take (b : Batch) (xs : List Sample) : Batch :=
  { b with frames := b.frames + 1
           chans := b.chans.map (fun c =>
             match (findSample xs c.chan).bind Sample.usableValue with
             | some v => c.add v
             | none => c) }

/-- A batch whose frame count has reached FP_FRAMES is handed, and a new batch starts (R134). -/
def State.checkBatchFull (s : State) : State :=
  match s.bin.batch with
  | some b =>
    if s.page.fpFrames ≤ b.frames then ({ s with bin.batch := none } : State).produceFixed b .complete |>.startBatch
    else s
  | none => s

/-- The running batch takes a frame latched HOLDING; while none exists and the head is HOLDING the frame starts one
(R133, R134). -/
def State.batchFrame (f : Frame) (xs : List Sample) (s : State) : State :=
  if f.head = .holding then
    match s.bin.batch with
    | some b =>
      if f.sinceBatchStart then ({ s with bin.batch := some (b.take xs) } : State).checkBatchFull else s
    | none =>
      if s.trav.head = .holding then
        let s1 := s.startBatch
        ({ s1 with bin.batch := s1.bin.batch.map (fun b => b.take xs) } : State).checkBatchFull
      else s
  else s

/-- The outcome of a batch or a scan that a goal of this cause ends (R61, R63). -/
def GoalCause.outcome : GoalCause → RecOutcome
  | .brk => .brk
  | .link => .link
  | .standardize => .aborted
  | .aborted => .aborted

/-- The end of a batch: BREAK, LINK and FAULT hand it for a FIXED record, the other causes discard it (R135). -/
def State.endBatch (outcome : RecOutcome) (s : State) : State :=
  match s.bin.batch with
  | none => s
  | some b =>
    let s1 : State := { s with bin.batch := none }
    match outcome with
    | .brk | .link | .fault => s1.produceFixed b outcome
    | .complete | .thin | .aborted => s1

/-- Discard a running batch without a record (R136, R140). -/
def State.discardBatch (s : State) : State := { s with bin.batch := none }

/-- The binning unit at the break monitor's resumption (R137). -/
def State.binResume (s : State) : State :=
  let s1 := (s.setMiss .front 0).setMiss .back 0
  let s2 := if s1.page.edgeTrack then s1.setEdges s1.page.eFront s1.page.eBack else s1
  { s2 with bin.firstAfterBreak := true }

end Sys2Proof.Machine
end

