-- ==== Sys2Proof/Machine/Motion.lean ====
section
/-!
DEFINITION. The traverse controller's own operations (Chapter 3): head states and their entry, the motion of each state,
target duty, ramp, stall and arrival checks, and what a head without an open scan does with a goal.
-/

namespace Sys2Proof.Machine

/-- Change the head state: the stillness count and the stall time return to 0 (R53, R66), a running dwell timer stops
(R60), and the live head state is written (section 3.3). -/
def State.setHead (h : HeadState) (s : State) : State :=
  if s.trav.head = h then s
  else
    ({ s with trav := { s.trav with head := h, stillness := 0, stallTime := 0, dwellTimer := none } } : State).live
      0x038 h.code

/-- The direction toward a target from the position as it stands; DRV_DIR when they are equal (R50). -/
def State.toward (target : Int) (s : State) : Dir :=
  if s.pos < target then .out else if target < s.pos then .inn else s.trav.dir

/-- Enter UNHOMED: D is 0 at once and the homed condition is lost (R46, R55). -/
def State.enterUnhomed (s : State) : State :=
  ({ s with trav := { s.trav with duty := 0, homed := false } } : State).setHead .unhomed

/-- The front switch sets the position in HOMING (R56). -/
def State.setHomingPosition (s : State) : State :=
  { s with trav := { s.trav with position := Word.ofSigned (-(s.page.homeMargin : Int)), homed := true } }

/-- Enter HOMING (R56). -/
def State.enterHoming (s : State) : State :=
  let s1 := ({ s with trav.homed := false } : State).setHead .homing
  if s1.trav.frontLim then s1.setHomingPosition else s1

/-- Enter RETURNING with its direction fixed (R50, R64). -/
def State.enterReturning (s : State) : State :=
  ({ s with trav.motionDir := s.toward 0 } : State).setHead .returning

/-- Enter MOVING_TO_HOLD, or fix its direction afresh (R50, R63). -/
def State.enterMovingToHold (s : State) : State :=
  ({ s with trav.motionDir := s.toward s.ex.holdPos } : State).setHead .movingToHold

def State.enterStopping (s : State) : State := s.setHead .stopping
def State.enterStanding (s : State) : State := s.setHead .standing
def State.enterParked (s : State) : State := s.setHead .parked

/-- A departure on a traverse (R58). -/
def State.depart (d : ScanDir) (s : State) : State := (s.setHead d.headState).openScan d

/-- The direction of the traverse that leaves a turn (R60). -/
def traverseFrom : Side → ScanDir
  | .front => .outbound
  | .back => .inbound

/-- Enter TURNING at a turn: the dwell timer starts, and with DWELL 0 it expires in the same event (R60). -/
def State.enterTurning (side : Side) (s : State) : State :=
  let s1 := s.setHead .turning
  let dwell := s1.page.dwellMs
  let s2 : State := { s1 with trav := { s1.trav with turn := side, dwellTimer := some (dwell * 1000) } }
  if dwell = 0 then s2.depart (traverseFrom side) else s2

/-- The traverse on which a head departs from STANDING (R57). -/
def State.departureFromStanding (s : State) : ScanDir :=
  if s.pos ≤ (s.page.fTurn + s.page.bTurn) / 2 then .outbound else .inbound

/-- A STANDING head takes the goal SCAN: it departs when the departure is permitted (R57). -/
def State.scanFromStanding (s : State) : State :=
  if s.arb.granted then s.depart s.departureFromStanding else s

/-- What a head with no open scan, and not STANDARDIZING, does with the goal in force (R55 to R57, R60, R63, R64).
`posChanged` says that a goal that stays HOLD has a new hold position; `homingEnded` that this is the arrival event
that ends a homing (R57). -/
def State.takeGoalStill (posChanged homingEnded : Bool) (s : State) : State :=
  match s.trav.head with
  | .unhomed => if s.arb.goal = .stop then s else s.enterHoming
  | .homing => if s.arb.goal = .stop then s.enterUnhomed else s
  | .parked =>
    match s.arb.goal with
    | .park | .stop | .standardize => s
    | .home => if homingEnded then s else s.enterHoming
    | .scan => if s.arb.granted then s.depart .outbound else s
    | .hold => if s.arb.granted then s.enterMovingToHold else s
  | .standing =>
    match s.arb.goal with
    | .park | .standardize => s.enterReturning
    | .stop => s
    | .home => s.enterHoming
    | .scan => s.scanFromStanding
    | .hold => if s.arb.granted then s.enterMovingToHold else s
  | .turning =>
    match s.arb.goal with
    | .scan => s
    | .standardize => if s.trav.turn = .front then s.enterReturning else s
    | .park => s.enterReturning
    | .stop => s.enterStanding
    | .home => s.enterHoming
    | .hold => s.enterMovingToHold
  | .movingToHold =>
    match s.arb.goal with
    | .hold => if posChanged then s.enterMovingToHold else s
    | .scan | .stop => s.enterStopping
    | .standardize | .park => s.enterReturning
    | .home => s.enterHoming
  | .holding =>
    let left := s.endBatch s.arb.cause.outcome
    match s.arb.goal with
    | .hold => if posChanged then left.enterMovingToHold else s
    | .scan => left.enterStanding.scanFromStanding
    | .standardize | .park => left.enterReturning
    | .stop => left.enterStanding
    | .home => left.enterHoming
  | .returning =>
    match s.arb.goal with
    | .park | .standardize | .scan | .hold => s
    | .stop => s.enterStopping
    | .home => s.enterHoming
  | .stopping =>
    match s.arb.goal with
    | .park | .standardize => s.enterReturning
    | .stop | .scan | .hold => s
    | .home => s.enterHoming
  | .faulted | .standardizing | .outbound | .inbound => s

/-- Set D to 0, enter FAULTED, lose the homed condition, write the cause, set HEADFAULT (R67). -/
def State.enterFaulted (cause : FaultCause) (s : State) : State :=
  let s1 : State := { s with trav := { s.trav with duty := 0, homed := false, faultCause := cause } }
  ((s1.setHead .faulted).live 0x048 cause.code).setNotice .headFault

/-- The states in which STALL is checked and in which D can be nonzero (Table 3-1). -/
def HeadState.stallChecked : HeadState → Bool
  | .homing | .outbound | .inbound | .movingToHold | .returning | .stopping => true
  | .unhomed | .parked | .standing | .standardizing | .turning | .holding | .faulted => false

/-- The states in which BACK_LIM_L becoming active is a LIMIT fault (Table 3-1). -/
def HeadState.backLimChecked : HeadState → Bool
  | .unhomed | .standardizing | .faulted => false
  | .homing | .parked | .standing | .outbound | .inbound | .turning | .holding | .movingToHold | .returning
  | .stopping => true

/-- The states in which FRONT_LIM_L becoming active is a LIMIT fault (Table 3-1). -/
def HeadState.frontLimChecked : HeadState → Bool
  | .homing => false
  | h => h.backLimChecked

/-- The states in which DRV_FAULT_L becoming active is a DRIVE fault (R65). -/
def HeadState.driveChecked : HeadState → Bool
  | .unhomed | .faulted => false
  | .homing | .parked | .standing | .standardizing | .outbound | .inbound | .turning | .holding | .movingToHold
  | .returning | .stopping => true

/-- A homed head outside the overtravel bounds, in a state where OVERTRAVEL is checked (R66, Table 3-1). -/
def State.overtravelled (s : State) : Bool :=
  s.trav.homed && decide (s.trav.head ≠ .standardizing)
    && (decide (s.pos < -(s.page.homeMargin : Int) - 1000) || decide (s.page.pEnd < s.pos))

/-! ## The drive interval -/

/-- The motion of a head state: direction, stop point, cruise figure (R50). -/
structure Motion where
  dir : Dir
  stop : Option Int
  cruise : Option Nat

/-- The motion of the head state, from the active page as it stands (R49, R50). -/
def State.motion (s : State) : Motion :=
  let p := s.page
  match s.trav.head with
  | .homing =>
    if s.trav.homed then { dir := .out, stop := some 0, cruise := some p.homeDuty }
    else { dir := .inn, stop := none, cruise := some p.homeDuty }
  | .outbound => { dir := .out, stop := some p.bTurn, cruise := some p.cruiseDuty }
  | .inbound => { dir := .inn, stop := some p.fTurn, cruise := some p.cruiseDuty }
  | .movingToHold => { dir := s.trav.motionDir, stop := some s.ex.holdPos, cruise := some p.cruiseDuty }
  | .returning => { dir := s.trav.motionDir, stop := some 0, cruise := some p.returnDuty }
  | .stopping | .unhomed | .parked | .standing | .standardizing | .turning | .holding | .faulted =>
    { dir := s.trav.dir, stop := none, cruise := none }

/-- A nonzero target below MIN_DUTY is raised to MIN_DUTY (R51). -/
def raiseTarget (minDuty t : Nat) : Nat := if t ≠ 0 ∧ t < minDuty then minDuty else t

/-- The distance still to go (R51). -/
def distanceToGo (dir : Dir) (stop pos : Int) : Int :=
  match dir with
  | .out => stop - pos
  | .inn => pos - stop

/-- The target duty, and whether it is 0 because the head is at or beyond its stop point (R51). -/
def State.targetDuty (s : State) : Nat × Bool :=
  let p := s.page
  let m := s.motion
  match m.cruise with
  | none => (0, false)
  | some c =>
    if m.dir ≠ s.trav.dir then (0, false)
    else match m.stop with
      | none => (raiseTarget p.minDuty c, false)
      | some stop =>
        let d := distanceToGo m.dir stop s.pos
        if d ≤ 0 then (0, true)
        else if d ≤ p.slowZone then (raiseTarget p.minDuty p.creepDuty, false)
        else (raiseTarget p.minDuty c, false)

/-- D moves toward the target by at most RAMP (R52). -/
def rampDuty (ramp target d : Nat) : Nat :=
  if d < target then min (d + ramp) target else max (d - ramp) target

/-- Steps 1 to 3 of a drive-interval expiry and the counts of R53 and R66: target, ramp, direction, stall time,
stillness, position at this expiry. -/
def State.driveStep (s : State) : State :=
  let p := s.page
  let t := s.targetDuty
  let d := rampDuty p.ramp t.1 s.trav.duty
  let still := decide (s.trav.position = s.trav.prevPosition)
  let dir := if d = 0 then s.motion.dir else s.trav.dir
  let pushed := decide (s.trav.duty ≠ 0 ∧ p.minDuty ≤ s.trav.duty)
  { s with trav := { s.trav with
      duty := d, dir := dir, driveTimer := some Config.driveIntervalUs
      stallTime := if pushed && still then s.trav.stallTime + 1 else 0
      stillness := if still then min 255 (s.trav.stillness + 1) else 0
      prevPosition := s.trav.position } }

/-- The stall condition: the stall time has reached STALL_TIME in a state where STALL is checked (R66). -/
def State.stallDue (s : State) : Bool := s.trav.head.stallChecked && decide (s.page.stallTimeMs ≤ s.trav.stallTime)

/-- The states that an arrival ends (R53). -/
def State.arrivalState (s : State) : Bool :=
  match s.trav.head with
  | .homing => s.trav.homed
  | .outbound | .inbound | .movingToHold | .returning | .stopping => true
  | .unhomed | .parked | .standing | .standardizing | .turning | .holding | .faulted => false

/-- The arrival condition of R53; `atStop` says that the target found is 0 because the head is at or beyond its stop
point. -/
def State.arrivalDue (atStop : Bool) (s : State) : Bool :=
  s.arrivalState && (atStop || decide (s.trav.head = .stopping)) && decide (s.trav.duty = 0)
    && decide (Config.stillnessLimit ≤ s.trav.stillness)

end Sys2Proof.Machine
end

