-- ==== Sys2Proof/Machine/Standardize.lean ====
section
/-!
DEFINITION. The standardize sequencer (Chapter 6): start, phases, the results of a conclusion, early ends.
-/

namespace Sys2Proof.Machine

/-- The three words of a live reference record (Table 11-7). -/
def RefRecord.words (r : RefRecord) : List Word :=
  [Word.ofCount r.value, Word.ofSigned r.check, Word.ofBool r.accepted]

/-- Set a channel's reference record and write it to the live area (R106). -/
def State.setRef (c : Fin 8) (r : RefRecord) (s : State) : State :=
  ({ s with std.refs := s.std.refs.set c.val r c.isLt } : State).liveWords (0x100 + 16 * c.val) r.words

/-- Set a channel's untried mark (R107). -/
def State.setUntried (c : Fin 8) (b : Bool) (s : State) : State :=
  { s with std.untried := s.std.untried.set c.val b c.isLt }

/-- The three conditions of a start hold (R111). -/
def State.stdStartDue (s : State) : Bool :=
  decide (s.arb.goal = .standardize) && decide (s.trav.head = .parked) && s.link.up

/-- Start a standardize when its three conditions hold (R111). -/
def State.stdStart (s : State) : State :=
  if s.stdStartDue then
    let p := s.page
    let ctx : StdCtx :=
      { phase := .settleOpen, count := 0, startTime := s.link.timeCounter
        chans := p.enabledChannels.map (fun c =>
          { chan := c, inCheck := decide (p.checkExpect c ≠ 0), old := s.std.refs[c] }) }
    ({ s with std.ctx := some ctx } : State).setHead .standardizing
  else s

/-- The phase in which a frame is counted but nothing collected (Figure 6-1). -/
def StdPhase.isSettle : StdPhase → Bool
  | .settleOpen | .settleRef => true
  | .measureAir | .measureRef => false

/-- REF is demanded in (Figure 6-1). -/
def StdPhase.refIn : StdPhase → Bool
  | .settleRef | .measureRef => true
  | .settleOpen | .measureAir => false

/-! ## Results -/

/-- The candidate reference of a channel (R115). -/
def StdChan.candidate (c : StdChan) : Nat := (roundUp c.airSum c.airCount).toNat

/-- The check mean of a channel (R115). -/
def StdChan.checkMean (c : StdChan) : Nat := (roundUp c.checkSum c.checkCount).toNat

/-- The check of a channel against its candidate (R115). -/
def stdCheck (offsetForm : Bool) (mean candidate : Nat) : Int :=
  if offsetForm then (mean : Int) - candidate else min 65535 (mean * 65536 / candidate)

/-- The drift of a candidate against the old reference (R115). -/
def stdDrift (offsetForm : Bool) (candidate old : Nat) : Nat :=
  let d := ((candidate : Int) - old).natAbs
  if offsetForm then d else d * 1000 / old

/-- The result of one channel at a conclusion: the first test that fails (R115), with what the STDZ record carries
(R118). -/
def stdEntry (p : Page) (c : StdChan) : StdEntry :=
  let h := p.stdFrames / 2
  let oldRef := if c.old.accepted then c.old.value else 0
  let off := p.offsetForm c.chan
  let cand := c.candidate
  let check := stdCheck off c.checkMean cand
  let e (newRef : Nat) (check : Int) (r : StdResult) : StdEntry :=
    { chan := c.chan, oldRef := oldRef, newRef := newRef, check := check, result := r }
  if c.airCount < h ∨ (c.inCheck = true ∧ c.checkCount < h) then e 0 0 .nodata
  else if off = false ∧ cand < 64 then e cand 0 .lowref
  else if c.old.accepted = true ∧ p.driftLimit c.chan < stdDrift off cand c.old.value then e cand 0 .drift
  else if c.inCheck = false then e cand 0 .accepted
  else if check < p.checkExpect c.chan - p.checkTol c.chan ∨ p.checkExpect c.chan + p.checkTol c.chan < check then
    e cand check .check
  else e cand check .accepted

/-- Act on a channel's result (R116); the first component tells whether any STD_FAULT entry was raised. -/
def State.actOnResult (acc : Bool × State) (e : StdEntry) : Bool × State :=
  let s := acc.2.setUntried e.chan false
  match e.result with
  | .accepted =>
    (acc.1, (s.setRef e.chan { value := e.newRef, check := e.check, accepted := true }).clearAlarm
      (stdFaultAlarm e.chan) none)
  | .nodata | .lowref | .drift | .check | .abandoned =>
    let r := s.raiseAlarm (stdFaultAlarm e.chan) (some e.result.code.toInt)
    (acc.1 || r.1, r.2)

/-- What every end of a standardize does after its record: STDZ, the counts, the due condition, the context (R117 steps
3 to 5, R119). -/
def State.finishStd (s : State) : State :=
  let s1 := s.setNotice .stdz
  ({ s1 with std := { s1.std with scanCount := 0, stdNow := false, ctx := none } } : State).tellDue

/-- Steps 1 to 5 of a conclusion, less the head state (R117). -/
def State.stdConclude (s : State) : State :=
  match s.std.ctx with
  | none => s
  | some ctx =>
    let entries := ctx.chans.map (stdEntry s.page)
    let r := entries.foldl State.actOnResult (false, s)
    (r.2.produceStdz ctx .complete entries r.1).finishStd

/-- An early end with one result for every channel (R119), less the head state and the apply point. -/
def State.stdEarlyEnd (outcome : RecOutcome) (result : StdResult) (s : State) : State :=
  match s.std.ctx with
  | none => s
  | some ctx =>
    let entries := ctx.chans.map (fun c : StdChan =>
      { chan := c.chan, oldRef := if c.old.accepted then c.old.value else 0, newRef := 0, check := 0,
        result := result : StdEntry })
    (s.produceStdz ctx outcome entries false).finishStd

/-! ## Phases -/

/-- Add a frame's VALID raw value to the sums that the phase collects (R114). -/
def StdChan.collect (ref : Bool) (xs : List Sample) (c : StdChan) : StdChan :=
  match findSample xs c.chan.castSucc with
  | none => c
  | some x =>
    if !x.stdValid then c
    else if ref then
      if c.inCheck then { c with checkSum := c.checkSum + x.raw, checkCount := c.checkCount + 1 } else c
    else { c with airSum := c.airSum + x.raw, airCount := c.airCount + 1 }

/-- A frame taken by the context counts toward its phase (R113, R114); the phase's end is judged after it. -/
def StdCtx.count1 (ctx : StdCtx) (echoPending : Bool) (xs : List Sample) : StdCtx :=
  if ctx.phase.isSettle then
    if echoPending then ctx else { ctx with count := ctx.count + 1 }
  else
    { ctx with count := ctx.count + 1, chans := ctx.chans.map (StdChan.collect ctx.phase.refIn xs) }

/-- A settle phase is at its end: the echo is clear and STD_SETTLE frames are counted, or with STD_SETTLE 0 one frame
(R113). -/
def State.settleDue (s : State) : Bool :=
  match s.std.ctx with
  | none => false
  | some ctx => ctx.phase.isSettle && !s.link.echoPending && decide (max 1 s.page.stdSettle ≤ ctx.count)

/-- The measuring phase that follows a settle phase begins (R113). -/
def State.settleEnd (s : State) : State :=
  match s.std.ctx with
  | none => s
  | some ctx =>
    let next := if ctx.phase.refIn then StdPhase.measureRef else StdPhase.measureAir
    { s with std.ctx := some { ctx with phase := next, count := 0 } }

/-- A measuring phase is at its end (R114). -/
def State.measureDue (s : State) : Bool :=
  match s.std.ctx with
  | none => false
  | some ctx => !ctx.phase.isSettle && decide (s.page.stdFrames ≤ ctx.count)

/-- After MEASURE_AIR a check set that is not empty is measured; otherwise the sequencer concludes (R114). -/
def State.goesToRef (s : State) : Bool :=
  match s.std.ctx with
  | none => false
  | some ctx => decide (ctx.phase = .measureAir) && ctx.chans.any StdChan.inCheck

/-- SETTLE_REF begins (R114). -/
def State.beginSettleRef (s : State) : State :=
  match s.std.ctx with
  | none => s
  | some ctx => { s with std.ctx := some { ctx with phase := .settleRef, count := 0 } }

end Sys2Proof.Machine
end

