-- ==== Sys2Proof/Machine/Break.lean ====
section
/-!
DEFINITION. The break monitor's own operations (Chapter 10): persistence counts, states, the start of a declaration, the
steps of a resumption. What the head does with the goal that follows is in Goal.lean.
-/

namespace Sys2Proof.Machine

/-- Take a break state; the live area follows a change (R175). -/
def State.setBreakState (b : BreakState) (s : State) : State :=
  if s.brk.state = b then s else ({ s with brk.state := b } : State).live 0x04C b.code

/-- Both persistence counts to 0 (R171). -/
def State.clearCounts (s : State) : State := { s with brk := { s.brk with lowCount := 0, openCount := 0 } }

/-- The armed flag is 1 and a cue is enabled (Figure 10-2). -/
def State.watches (s : State) : Bool := s.brk.armed && decide (s.page.cueEnables ≠ 0)

/-- The LINE condition is clear (R180). -/
def State.lineClear (s : State) : Bool := !s.page.cueLine || !s.brk.line

/-- Outside BROKEN, the state that the armed flag and the cue enables give (R175); the first component says that LINE
fires because WATCH is entered with the debounced level active (R173). -/
def State.takeWatch (s : State) : Bool × State :=
  match s.brk.state with
  | .broken => (false, s)
  | .disarmed =>
    if s.watches then (s.page.cueLine && s.brk.line, s.clearCounts.setBreakState .watch) else (false, s)
  | .watch => if s.watches then (false, s) else (false, s.clearCounts.setBreakState .disarmed)

/-! ## Gauge cues -/

/-- The frame is judged for LOW and OPEN: latched OUTBOUND, INBOUND or HOLDING, on the sheet (R170). -/
def State.cueFrame (f : Frame) (s : State) : Bool :=
  (match f.head with
    | .outbound | .inbound | .holding => true
    | .unhomed | .homing | .parked | .standing | .standardizing | .turning | .movingToHold | .returning | .stopping
    | .faulted => false)
    && decide (s.bin.edgeFront ≤ f.position.toInt) && decide (f.position.toInt < s.bin.edgeBack)

/-- A persistence count moved by the class of its sample (R170, R171): `qualifies` judges the value. -/
def moveCount (qualifies : Int → Bool) (sample : Option Int) (n : Nat) : Nat :=
  match sample with
  | none => n
  | some v => if qualifies v then min 255 (n + 1) else 0

/-- The usable sample of a role on a frame judged for cues. -/
def State.cueSample (f : Frame) (xs : List Sample) (role : Word) (s : State) : Option Int :=
  if s.cueFrame f then (roleSample s.page xs role).bind Sample.usableValue else none

/-- In WATCH, the counts of the enabled cues take a frame (R171). -/
def State.moveCounts (f : Frame) (xs : List Sample) (s : State) : State :=
  if s.brk.state = .watch then
    let p := s.page
    let low := if p.cueLow then
        moveCount (fun v => decide (v < p.breakFloor)) (s.cueSample f xs roleBw) s.brk.lowCount
      else s.brk.lowCount
    let opn := if p.cueOpen then
        moveCount (fun v => decide (p.openCeiling < v)) (s.cueSample f xs roleLight) s.brk.openCount
      else s.brk.openCount
    { s with brk := { s.brk with lowCount := low, openCount := opn } }
  else s

/-- The gauge cues whose count has reached its limit in WATCH (R171). -/
def State.gaugeCues (s : State) : BitVec 4 :=
  if s.brk.state = .watch then
    (if s.page.cueLow ∧ s.page.persistA ≤ s.brk.lowCount then cueBitLow else 0)
      ||| (if s.page.cueOpen ∧ s.page.persistB ≤ s.brk.openCount then cueBitOpen else 0)
  else 0

/-! ## Declaration and resumption -/

/-- Steps 1 and 2 of a declaration (R176): the next break number, BROKEN, latch clear, counts 0. -/
def State.breakStart (s : State) : State :=
  let n := s.brk.number + 1
  let s1 := ({ s with brk := { s.brk with number := n, latch := false } } : State).live 0x050 n
  s1.clearCounts.setBreakState .broken

/-- A declaration by LINE at an apply: it follows the apply in its event, with no scan open and any batch discarded, so
it ends no work (R182, R136). The head takes the goal with the rest of the apply's consequences. -/
def State.declareAtApply (s : State) : Recomputed :=
  let r := s.breakStart.recompute .breakRaised
  let s1 := r.state.writeHistory s.trav.head cueBitLine s.trav.position s.trav.position .none 0
  { r with state := s1.setNotice .brk }

/-- Steps 1 to 4 of a resumption (R180); the park demand falls with the state. -/
def State.resumeCore (s : State) : State :=
  let s1 := s.clearCounts.setBreakState (if s.watches then .watch else .disarmed)
  (s1.binResume.unseedAll.writeResumeTime).setNotice .resumed

/-- The acknowledge latch is set and the LINE condition is clear while BROKEN (R180). -/
def State.resumeDue (s : State) : Bool := decide (s.brk.state = .broken) && s.brk.latch && s.lineClear

end Sys2Proof.Machine
end

