-- ==== Sys2Proof/Machine/Apply.lean ====
section
/-!
DEFINITION. The apply (section 1.4): the structural checks, the clamping of each field, the comparison and the copy into
the active page, and what each block does with the change (Table 1-5). Goals that change here are taken by the head
after the apply (Goal.lean).
-/

namespace Sys2Proof.Machine

/-! ## Structural checks (R9) -/

/-- A structural check's finding: the result code and the offset of the offending field. -/
abbrev CheckFailure := Option (Result × Nat)

/-- The plan check (R9, order 1): P_END in range, then the comparisons from left to right. -/
def checkPlan (p : Page) : CheckFailure :=
  if p.pEnd < 2000 ∨ 150000 < p.pEnd then some (.badPlan, 0x020)
  else if p.fTurn < 0 then some (.badPlan, 0x028)
  else if p.eFront ≤ p.fTurn then some (.badPlan, 0x02C)
  else if p.eBack ≤ p.eFront then some (.badPlan, 0x030)
  else if p.bTurn ≤ p.eBack then some (.badPlan, 0x034)
  else if p.pEnd < p.bTurn then some (.badPlan, 0x020)
  else none

/-- The bin check (R9, order 2). -/
def checkBins (p : Page) : CheckFailure :=
  if p.nBins < 16 ∨ 512 < p.nBins ∨ p.eBack - p.eFront < 2 * (p.nBins : Int) then some (.badBins, 0x038) else none

/-- The period check (R9, order 3). -/
def checkPeriod (p : Page) : CheckFailure :=
  if p.samplePeriod < 250 ∨ 10000 < p.samplePeriod ∨ p.samplePeriod % 50 ≠ 0 then some (.badPeriod, 0x080) else none

/-- The lowest-numbered enabled channel with a property. -/
def Page.firstEnabled (p : Page) (f : Fin 8 → Bool) : Option (Fin 8) := p.enabledChannels.find? f

/-- Whether an enabled channel below c has the same word r of its record. -/
def Page.repeats (p : Page) (r : Nat) (c : Fin 8) : Bool :=
  p.enabledChannels.any (fun b => decide (b < c) && p (chanOff b r) == p (chanOff c r))

/-- The slot check (R9, order 4): a SLOT out of range, else a SLOT used twice. -/
def checkSlots (p : Page) : CheckFailure :=
  match p.firstEnabled (fun c => decide (p.slot c < 1) || decide (8 < p.slot c)) with
  | some c => some (.badSlots, chanOff c 0x04)
  | none => (p.firstEnabled (p.repeats 0x04)).map (fun c => (.badSlots, chanOff c 0x04))

/-- The roles that at most one enabled channel may have (R9). -/
def uniqueRole (w : Word) : Bool := w == roleBw || w == roleMoist || w == roleLight

/-- The role check (R9, order 5). -/
def checkRoles (p : Page) : CheckFailure :=
  (p.firstEnabled (fun c => uniqueRole (p.role c) && p.repeats 0x08 c)).map (fun c => (.badRoles, chanOff c 0x08))

/-- The table check (R9, order 6). -/
def checkTables (p : Page) : CheckFailure :=
  (p.firstEnabled (fun c => decide (15 < p.table c))).map (fun c => (.badTable, chanOff c 0x10))

/-- The cue check (R9, order 7): the enables of LOW and OPEN lie in one word. -/
def checkCues (p : Page) : CheckFailure :=
  if (p.cueLow = true ∧ p.roleChannel roleBw = none) ∨ (p.cueOpen = true ∧ p.roleChannel roleLight = none) then
    some (.badCue, 0x540)
  else none

/-- The edge check (R9, order 8). -/
def checkEdge (p : Page) : CheckFailure :=
  if p.edgeTrack = true ∧ p.roleChannel roleBw = none then some (.badEdge, 0x044) else none

/-- The structural checks in their order, stopping at the first that fails (R9). -/
def validatePage (p : Page) : CheckFailure :=
  checkPlan p <|> checkBins p <|> checkPeriod p <|> checkSlots p <|> checkRoles p <|> checkTables p <|> checkCues p
    <|> checkEdge p

/-! ## Fields and their clamping (R11, R186, Table 1-4) -/

/-- How a field of a page is taken into the active page. -/
inductive FieldKind where
  /-- Taken as written. -/
  | asWritten
  /-- An unsigned number clamped to a range. -/
  | unsignedRange (lo hi : Nat)
  /-- A signed number clamped to a range. -/
  | signedRange (lo hi : Int)
  /-- An enumerated field whose codes are the numbers below a bound. -/
  | enumBelow (n : Nat)
  /-- A bit set of the listed positions. -/
  | bitSet (mask : Word)
  /-- DRIFT_LIMIT, by the FORM at an offset. -/
  | driftLimit (formOff : Nat)
  deriving DecidableEq, Repr

/-- The value that the active page receives for a field of the staged page (R11). -/
def clampField (p : Page) (off : Nat) : FieldKind → Word
  | .asWritten => p off
  | .unsignedRange lo hi => Word.ofCount (clampNat lo hi (p off).toNat)
  | .signedRange lo hi => Word.ofSigned (clampInt lo hi (p off).toInt)
  | .enumBelow n => if (p off).toNat < n then p off else defaultPageWord off
  | .bitSet mask => p off &&& mask
  | .driftLimit formOff =>
    Word.ofCount (clampNat 1 (if p formOff = 1 then 1048575 else 1000) (p off).toNat)

/-- The range of an engineering value. -/
def engRange : FieldKind := .signedRange (-8388608) 8388607

/-- The range of every duty (Table 1-4). -/
def dutyRange : FieldKind := .unsignedRange 0 1000

/-- The fields of the PLAN, LINK, STD, FIXED and BREAK groups (Tables 11-3 and 11-6, Table 1-4). -/
def plainFields : List (Nat × FieldKind) :=
  [(0x020, .asWritten), (0x024, .unsignedRange 0 10000), (0x028, .asWritten), (0x02C, .asWritten), (0x030, .asWritten),
   (0x034, .asWritten), (0x038, .asWritten), (0x03C, .unsignedRange 1 255), (0x040, .unsignedRange 0 100),
   (0x044, .enumBelow 2), (0x048, .unsignedRange 0 150000), (0x04C, engRange), (0x050, .unsignedRange 1 15),
   (0x054, .enumBelow 2), (0x058, .enumBelow 2), (0x05C, dutyRange), (0x060, dutyRange), (0x064, dutyRange),
   (0x068, dutyRange), (0x06C, dutyRange), (0x070, .unsignedRange 1 100), (0x074, .unsignedRange 0 150000),
   (0x078, .unsignedRange 0 5000), (0x07C, .unsignedRange 10 2000), (0x080, .asWritten), (0x084, .unsignedRange 4 255),
   (0x088, .unsignedRange 0 255), (0x08C, .unsignedRange 0 4095), (0x090, .unsignedRange 16 4096),
   (0x094, .unsignedRange 10 65535), (0x540, .bitSet 0xF), (0x544, engRange), (0x548, engRange),
   (0x54C, .unsignedRange 1 255), (0x550, .unsignedRange 1 255), (0x554, .unsignedRange 1 250)]

/-- The fields of channel record c (Table 11-4). -/
def channelFields (c : Nat) : List (Nat × FieldKind) :=
  [(chanOff c 0x00, .enumBelow 2), (chanOff c 0x04, .asWritten), (chanOff c 0x08, .enumBelow 4),
   (chanOff c 0x0C, .enumBelow 2), (chanOff c 0x10, .asWritten), (chanOff c 0x14, .unsignedRange 1 256),
   (chanOff c 0x18, .enumBelow 2), (chanOff c 0x1C, .driftLimit (chanOff c 0x0C)),
   (chanOff c 0x20, .signedRange (-1048575) 1048575), (chanOff c 0x24, .unsignedRange 0 1048575)]

/-- The fields of limit record k (Table 11-5). -/
def limitFields (k : Nat) : List (Nat × FieldKind) :=
  [(limitOff k 0x00, .bitSet 0xF), (limitOff k 0x04, engRange), (limitOff k 0x08, engRange), (limitOff k 0x0C, engRange),
   (limitOff k 0x10, engRange), (limitOff k 0x14, .unsignedRange 0 8388607), (limitOff k 0x18, .unsignedRange 1 512),
   (limitOff k 0x1C, .unsignedRange 1 15), (limitOff k 0x20, .unsignedRange 1 15),
   (limitOff k 0x24, .bitSet (if k = 8 then 0xFF else 0x1F))]

/-- The offset of entry i of table bank k (Table 11-2). -/
def tableOff (k i : Nat) : Nat := 0x600 + 132 * k + 4 * i

/-- The entries of table bank k. -/
def tableFields (k : Nat) : List (Nat × FieldKind) := (List.range 33).map (fun i => (tableOff k i, engRange))

/-- Every field of a page outside the mode block (Tables 11-2 to 11-6). -/
def pageFields : List (Nat × FieldKind) :=
  plainFields ++ (List.range 8).flatMap channelFields ++ (List.range 9).flatMap limitFields
    ++ (List.range 16).flatMap tableFields

/-- The fields in which the clamped staged page differs from the active page, each with its new word (R12 step 1). -/
def pageDiffs (staged active : Page) : List (Nat × Word) :=
  (pageFields.map (fun f => (f.1, clampField staged f.1 f.2))).filter (fun d => d.2 != active d.1)

/-- Copy the differing words into the active page (R12 step 2). -/
def copyDiffs (ds : List (Nat × Word)) (m : Mem) : Mem := ds.foldl (fun m d => writeWord m (activeBase + d.1) d.2) m

/-! ## What changed -/

/-- The offsets that an accepted apply changed. -/
abbrev Changes := List Nat

/-- Some word of the range from lo on, below hi, changed. -/
def Changes.within (ch : Changes) (lo hi : Nat) : Bool := ch.any (fun o => decide (lo ≤ o) && decide (o < hi))

def Changes.has (ch : Changes) (off : Nat) : Bool := ch.any (fun o => o == off)

def Changes.plan (ch : Changes) : Bool := ch.within 0x020 0x080
def Changes.link (ch : Changes) : Bool := ch.within 0x080 0x088
def Changes.std (ch : Changes) : Bool := ch.within 0x088 0x094
def Changes.fixed (ch : Changes) : Bool := ch.within 0x094 0x098
def Changes.channels (ch : Changes) : Bool := ch.within 0x100 0x300
def Changes.limits (ch : Changes) : Bool := ch.within 0x300 0x540
def Changes.breakGroup (ch : Changes) : Bool := ch.within 0x540 0x558
def Changes.tables (ch : Changes) : Bool := ch.within 0x600 0xE40
def Changes.channel (ch : Changes) (c : Nat) : Bool := ch.within (chanOff c 0) (chanOff c 64)
def Changes.limit (ch : Changes) (k : Nat) : Bool := ch.within (limitOff k 0) (limitOff k 64)
def Changes.bank (ch : Changes) (k : Nat) : Bool := ch.within (tableOff k 0) (tableOff k 33)

/-- A change of ENABLE, SLOT, ROLE or FORM (R107). -/
def Changes.rereferenced (ch : Changes) (c : Nat) : Bool :=
  ch.has (chanOff c 0x00) || ch.has (chanOff c 0x04) || ch.has (chanOff c 0x08) || ch.has (chanOff c 0x0C)

/-- The word of the changed-group flags (R12 step 4, Table 11-7). -/
def Changes.groupWord (ch : Changes) : Word :=
  Word.ofBool ch.plan ||| (Word.ofBool ch.link <<< 1) ||| (Word.ofBool ch.std <<< 2) ||| (Word.ofBool ch.fixed <<< 3)
    ||| (Word.ofBool ch.channels <<< 4) ||| (Word.ofBool ch.tables <<< 5) ||| (Word.ofBool ch.limits <<< 6)
    ||| (Word.ofBool ch.breakGroup <<< 7)

/-- The per-channel changed mask (R12 step 4). -/
def Changes.channelMask (ch : Changes) : Word :=
  presentMask ((List.range 8).filter (fun c => ch.channel c))

/-- What an accepted apply hands to the blocks: the changes, the active page before and the active page after it. -/
structure ApplyHandoff where
  changes : Changes
  before : Page
  after : Page

/-- A channel that the apply changes from enabled to disabled. -/
def ApplyHandoff.disabled (h : ApplyHandoff) (c : Nat) : Bool := h.before.enabled c && !h.after.enabled c

/-- DRY was configured before the apply and is not after it. -/
def ApplyHandoff.dryDropped (h : ApplyHandoff) : Bool := h.before.dryConfigured && !h.after.dryConfigured

/-! ## Reactions of the blocks -/

/-- The head link controller (R44). -/
def State.applyLink (h : ApplyHandoff) (s : State) : State :=
  if h.changes.link then { s with link := { s.link with lossCount := 0, goodRun := 0 } } else s

/-- The binning unit (R136, R138). -/
def State.applyBinning (h : ApplyHandoff) (s : State) : State :=
  let s1 := if s.trav.head = .holding then s.discardBatch else s
  if h.changes.plan then ((s1.setEdges h.after.eFront h.after.eBack).setMiss .front 0).setMiss .back 0 else s1

/-- The traverse controller: a change of ENCODER_SENSE unhomes a homed head (R70); a homed head outside the new bounds
faults (R66). With both in one apply the head is unhomed first and takes no fault (the model's choice, log entry 31). -/
def State.applyTraverse (h : ApplyHandoff) (s : State) : State :=
  let s1 := if h.changes.has 0x058 && s.trav.homed then s.enterUnhomed else s
  if h.changes.plan && s1.overtravelled then s1.enterFaulted .overtravel else s1

/-- One channel at the standardize sequencer (R107). -/
def State.applyRef (h : ApplyHandoff) (s : State) (c : Fin 8) : State :=
  if h.changes.rereferenced c then
    ((s.setRef c { }).clearAlarm (stdFaultAlarm c) none).setUntried c (h.after.enabled c)
  else s

/-- The standardize sequencer: references, then the due condition (R107, R109). -/
def State.applyStd (h : ApplyHandoff) (s : State) : State := (channels8.foldl (State.applyRef h) s).tellDue

/-- Whether the apply unseeds one of the channels 0 to 7 (R142). -/
def ApplyHandoff.unseeds (h : ApplyHandoff) (c : Fin 8) : Bool :=
  h.changes.channel c || (decide (h.after.table c < 16) && h.changes.bank (h.after.table c))

/-- Whether the apply unseeds the channel that a role names, before or after it. -/
def ApplyHandoff.unseedsRole (h : ApplyHandoff) (role : Word) : Bool :=
  (h.before.roleChannel role).any h.unseeds || (h.after.roleChannel role).any h.unseeds

/-- Whether the apply unseeds DRY (R142). -/
def ApplyHandoff.unseedsDry (h : ApplyHandoff) : Bool :=
  h.unseedsRole roleBw || h.unseedsRole roleMoist || (h.before.dryConfigured != h.after.dryConfigured)

/-- The profile unit (R142). -/
def State.applyProfile (h : ApplyHandoff) (s : State) : State :=
  if h.changes.has 0x038 || h.changes.has 0x044 then s.unseedAll
  else
    let s1 := channels8.foldl (fun s (c : Fin 8) => if h.unseeds c then s.unseed c.castSucc else s) s
    if h.unseedsDry then s1.unseed dryChannel else s1

/-- The conversion unit (R103). -/
def State.applyConvert (h : ApplyHandoff) (s : State) : State :=
  let s1 := channels8.foldl (fun s (c : Fin 8) => if h.disabled c then s.liveDisable c.castSucc else s) s
  if h.dryDropped then s1.liveDisable dryChannel else s1

/-- Clear a scan entry that is ACTIVE; set its streaks to 0 (R168). -/
def State.resetEntry (i : Fin 48) (clear : Bool) (s : State) : State :=
  if clear && s.alarms[i].active then s.clearAlarm i none
  else s.setAlarm i { s.alarms[i] with violationStreak := 0, clearStreak := 0 }

/-- The four scan entries of a changed limit record (R168). -/
def State.applyLimit (h : ApplyHandoff) (s : State) (k : Fin 9) : State :=
  if h.changes.limit k then
    scanKinds.foldl (fun s kind => s.resetEntry (scanAlarm k kind) (!h.after.kindEnabled k kind)) s
  else s

/-- The four scan entries of a channel that has left the set (R168). -/
def State.dropChannel (k : Fin 9) (s : State) : State :=
  scanKinds.foldl (fun s kind => s.resetEntry (scanAlarm k kind) true) s

/-- The limit monitor (R168). -/
def State.applyLimits (h : ApplyHandoff) (s : State) : State :=
  let s1 := channels9.foldl (State.applyLimit h) s
  let s2 := channels8.foldl (fun s (c : Fin 8) => if h.disabled c then s.dropChannel c.castSucc else s) s1
  if h.dryDropped then s2.dropChannel dryChannel else s2

/-- Whether a cue's channel changed: its record, or which channel it is (R182). -/
def ApplyHandoff.cueChannelChanged (h : ApplyHandoff) (role : Word) : Bool :=
  decide (h.before.roleChannel role ≠ h.after.roleChannel role)
    || (h.after.roleChannel role).any (fun c => h.changes.channel c)

/-- The persistence counts at an apply (R182). -/
def State.applyCounts (h : ApplyHandoff) (s : State) : State :=
  { s with brk := { s.brk with
      lowCount := if h.changes.breakGroup || h.cueChannelChanged roleBw then 0 else s.brk.lowCount
      openCount := if h.changes.breakGroup || h.cueChannelChanged roleLight then 0 else s.brk.openCount } }

/-- The break monitor (R182): counts; outside BROKEN the state of the new enables, with LINE firing where R173 calls for
it; in BROKEN the resumption. -/
def State.applyBreak (h : ApplyHandoff) (s : State) : Recomputed :=
  let s1 := s.applyCounts h
  if s1.resumeDue then s1.resumeCore.recompute .other
  else
    let r := s1.takeWatch
    let enabledInWatch := decide (s1.brk.state = .watch) && decide (r.2.brk.state = .watch) && !h.before.cueLine
      && h.after.cueLine && r.2.brk.line
    if r.1 || enabledInWatch then r.2.declareAtApply
    else { state := r.2, changed := false, posChanged := false }

/-- Every block takes the hand-off (R12 step 6, Table 1-5); `changed` says whether the goal record changed. -/
def State.applyReactions (h : ApplyHandoff) (s : State) : Recomputed :=
  let s1 := (((s.applyLink h).applyBinning h).applyTraverse h).applyStd h
  let r1 := (((s1.applyProfile h).applyConvert h).applyLimits h).recompute .other
  let r2 := r1.state.applyBreak h
  { state := r2.state, changed := r1.changed || r2.changed, posChanged := r1.posChanged || r2.posChanged }

/-! ## The apply -/

/-- The gate returns to IDLE; the live gate state follows (R10, R12, R24). -/
def State.gateIdle (s : State) : State :=
  if s.ex.applyPending then ({ s with ex.applyPending := false } : State).live 0x004 0 else s

/-- A refused apply (R10). -/
def State.refuseApply (code : Result) (off : Nat) (s : State) : State :=
  ((({ s with ex.gateResult := code } : State).liveWords 0x008 [code.code, Word.ofCount off]).gateIdle).setNotice .refused

/-- Steps 1 to 5 of an accepted apply (R12). -/
def State.acceptApply (s : State) : State :=
  let ds := pageDiffs s.staged s.page
  let ch : Changes := ds.map Prod.fst
  let g := s.ex.generation + 1
  let s1 : State := { s with mem := copyDiffs ds s.mem, ex := { s.ex with generation := g, gateResult := .accepted } }
  (((s1.liveWords 0x01C [ch.groupWord, ch.channelMask, g]).liveWords 0x008 [Result.accepted.code, 0]).gateIdle).setNotice
    .applied

/-- An apply is taken: refused, or accepted and handed to the blocks (R9 to R12). -/
def State.applyTake (s : State) : Recomputed :=
  match validatePage s.staged with
  | some (code, off) => { state := s.refuseApply code off, changed := false, posChanged := false }
  | none =>
    let s1 := s.acceptApply
    s1.applyReactions
      { changes := (pageDiffs s.staged s.page).map Prod.fst, before := s.page, after := s1.page }

/-- An apply point: a pending apply is taken (R8). -/
def State.applyPoint (s : State) : Recomputed :=
  if s.ex.applyPending then s.applyTake else { state := s, changed := false, posChanged := false }

/-- No scan is open and the head is not STANDARDIZING (R8). -/
def State.atApplyPoint (s : State) : Bool := s.bin.scan.isNone && decide (s.trav.head ≠ .standardizing)

end Sys2Proof.Machine
end

