-- ==== Sys2Proof/Machine/Goal.lean ====
section
/-!
DEFINITION. Where the blocks meet: the head taking a new goal, aborts, faults, arrivals, declarations and resumptions of
a break, the link going DOWN or UP, the ends of a standardize, and the comparison of the command word at the end of an
event.
-/

namespace Sys2Proof.Machine

/-! ## The head takes a goal -/

/-- After an apply a head without an open scan takes the goal from where the apply left it: an apply that made it
UNHOMED or that changed the goal record (R55, R70, R73). -/
def Recomputed.settle (r : Recomputed) : State :=
  if r.changed = true ∨ r.state.trav.head = .unhomed then r.state.takeGoalStill r.posChanged false else r.state

/-- The state that a goal other than SCAN and STANDARDIZE gives a head whose scan it aborted (R61). -/
def State.enterAborted (g : Goal) (s : State) : State :=
  match g with
  | .park => s.enterReturning
  | .stop => s.enterStopping
  | .home => s.enterHoming
  | .hold => s.enterMovingToHold
  | .scan | .standardize => s

/-- What follows the apply point of an event, when the event would enter a head state or take a goal: a head that the
apply made FAULTED stays so, one that it made UNHOMED takes the goal from there, and otherwise the step is made and a
goal record that the apply changed is taken after it (R66, R70; log entries 12 and 21). -/
def Recomputed.thenEnter (r : Recomputed) (step : State → State) : State :=
  match r.state.trav.head with
  | .faulted => r.state
  | .unhomed => r.state.takeGoalStill r.posChanged false
  | .homing | .parked | .standing | .standardizing | .outbound | .inbound | .turning | .holding | .movingToHold
  | .returning | .stopping =>
    if r.changed then (step r.state).takeGoalStill r.posChanged false else step r.state

/-- The abort of the open scan by the goal in force (R61): the record, the apply point, the new head state. -/
def State.abortForGoal (s : State) : State :=
  (s.abortScan s.arb.cause.outcome).applyPoint.thenEnter (State.enterAborted s.arb.goal)

/-- The goal HOME ends a standardize early (R62, R119): the record, HOMING, the apply point, the goal. -/
def State.abandonForHome (s : State) : State :=
  let r := ((s.stdEarlyEnd .aborted .abandoned).enterHoming).applyPoint
  let r2 := r.state.recompute .other
  ({ state := r2.state, changed := r.changed || r2.changed, posChanged := r.posChanged || r2.posChanged } :
    Recomputed).settle

/-- The head takes a new goal in the event that sets it (R54, R61, R62). -/
def State.takeGoal (posChanged : Bool) (s : State) : State :=
  match s.trav.head with
  | .outbound | .inbound =>
    match s.arb.goal with
    | .scan | .standardize => s
    | .park | .stop | .home | .hold => s.abortForGoal
  | .standardizing => if s.arb.goal = .home then s.abandonForHome else s
  | .unhomed | .homing | .parked | .standing | .turning | .holding | .movingToHold | .returning | .stopping
  | .faulted => s.takeGoalStill posChanged false

/-- Recompute the goal record, and hand a changed one to the head (R73). -/
def State.handGoal (ev : GoalEvent) (s : State) : State :=
  let r := s.recompute ev
  if r.changed then r.state.takeGoal r.posChanged else r.state

/-- An apply in an event of its own (R7, R8): the head takes what follows. -/
def State.applyNow (s : State) : State := s.applyTake.settle

/-! ## Faults (R67) -/

/-- A fault aborts an open scan and reports the apply point. -/
def State.faultScan (s : State) : State :=
  if s.bin.scan.isSome then (s.abortScan .fault).applyPoint.state else s

/-- A fault ends a standardize as ABANDONED and reports the apply point; the arbiter recomputes (R67, R119). -/
def State.faultStd (s : State) : State :=
  if s.std.ctx.isSome then (((s.stdEarlyEnd .fault .abandoned).applyPoint).state.recompute .other).state else s

/-- A fault is taken (R67). -/
def State.fault (cause : FaultCause) (s : State) : State :=
  (((s.enterFaulted cause).faultScan).endBatch .fault).faultStd

/-! ## Breaks -/

/-- The work that was open before a goal was taken and is not after it (R177). -/
def endedWork (before after : State) : OpenWork :=
  if before.bin.scan.isSome && after.bin.scan.isNone then .scan
  else if before.bin.batch.isSome && after.bin.batch.isNone then .batch
  else .none

/-- A break is declared by a cue set, with the position that its history entry gives the cue (R176, R177). POSITION is
the position counter as the event found it, before step 3 (the model's choice where step 3 changes the counter, log
entry 33). -/
def State.declare (cues : BitVec 4) (cuePos : Word) (s : State) : State :=
  let s1 := s.breakStart.handGoal .breakRaised
  let work := endedWork s s1
  let record := if work = .none then 0 else s1.ex.lastRecord
  (s1.writeHistory s.trav.head cues s.trav.position cuePos work record).setNotice .brk

/-- The monitor leaves BROKEN (R180): steps 1 to 4, then the goal. -/
def State.resume (s : State) : State := s.resumeCore.handGoal .other

/-- The monitor leaves BROKEN in the first event after which the latch is set and the LINE condition is clear (R180). -/
def State.checkResume (s : State) : State := if s.resumeDue then s.resume else s

/-- The EDGE cue is handed (R174, R178). -/
def State.edgeCue (s : State) : State :=
  if s.page.cueEdge then
    match s.brk.state with
    | .watch => s.declare cueBitEdge s.trav.position
    | .broken => s.addCueAfter cueBitEdge
    | .disarmed => s
  else s

/-- The debounced line level becomes active: LINE fires when it is enabled (R173, R178). -/
def State.lineCue (s : State) : State :=
  if s.page.cueLine then
    match s.brk.state with
    | .watch => s.declare cueBitLine s.trav.position
    | .broken => s.addCueAfter cueBitLine
    | .disarmed => s
  else s

/-- A declaration by the gauge cues whose counts have reached their limits (R171, R176). -/
def State.gaugeDeclare (cuePos : Word) (s : State) : State :=
  if s.gaugeCues = 0 then s else s.declare s.gaugeCues cuePos

/-- The break monitor takes a frame (R170, R171). -/
def State.breakFrame (f : Frame) (xs : List Sample) (s : State) : State :=
  (s.moveCounts f xs).gaugeDeclare f.position

/-! ## Arrivals (R53, R57, R59, R63, R64) -/

/-- The head takes its goal at an arrival that closes a scan (R59); a goal that the apply of the event set otherwise is
taken as TURNING takes it (log entry 13). -/
def State.arriveGoal (side : Side) (s : State) : State :=
  match s.arb.goal with
  | .scan => s.enterTurning side
  | .standardize => match side with
    | .back => s.enterTurning .back
    | .front => s.enterReturning
  | .park => s.enterReturning
  | .stop => s.enterStanding
  | .home => s.enterHoming
  | .hold => s.enterMovingToHold

/-- The EDGE cue that follows an apply point of its event, `g` being the generation before that apply: the record of a
scan that opened in the event and that the cue aborts carries `g` (R152, Table 8-1 GENERATION; R174). The apply was taken
before the cue, so the generation itself is the state's. -/
def State.edgeCueAfterApply (g : Word) (s : State) : State :=
  { ({ s with ex.generation := g } : State).edgeCue with ex.generation := s.ex.generation }

/-- The arrival of a traverse: the close, the apply point, the goal, the EDGE cue (R59, R131). -/
def State.arriveScan (side : Side) (s : State) : State :=
  let c := s.closeScan
  let r := c.2.applyPoint
  let s1 := match r.state.trav.head with
    | .faulted => r.state
    | .unhomed => r.state.takeGoalStill r.posChanged false
    | .homing | .parked | .standing | .standardizing | .outbound | .inbound | .turning | .holding | .movingToHold
    | .returning | .stopping => r.state.arriveGoal side
  if c.1 then s1.edgeCueAfterApply s.ex.generation else s1

/-- An arrival ends the motion of the head state, and the head takes the goal in force (R53, R54). -/
def State.arrive (s : State) : State :=
  match s.trav.head with
  | .homing => if s.trav.homed then s.enterParked.takeGoalStill false true else s
  | .outbound => s.arriveScan .back
  | .inbound => s.arriveScan .front
  | .movingToHold => ((s.setHead .holding).startBatch).takeGoalStill false false
  | .returning => s.enterParked.takeGoalStill false false
  | .stopping => s.enterStanding.takeGoalStill false false
  | .unhomed | .parked | .standing | .standardizing | .turning | .holding | .faulted => s

/-! ## The ends of a standardize -/

/-- What follows the record of an end that leaves the head PARKED: the apply point, the recompute, the goal in force
(R62, R117 steps 5 to 7, R119). -/
def State.parkAfterStd (s : State) : State :=
  let r := s.enterParked.applyPoint
  let r2 := r.state.recompute .other
  r2.state.takeGoalStill (r.posChanged || r2.posChanged) false

/-- The conclusion of a standardize (R117). -/
def State.stdFinish (s : State) : State := s.stdConclude.parkAfterStd

/-- The end of MEASURE_AIR or MEASURE_REF (R114). -/
def State.measureEnd (s : State) : State := if s.goesToRef then s.beginSettleRef else s.stdFinish

/-- A link going DOWN ends a standardize (R119). -/
def State.stdLinkEnd (s : State) : State :=
  if s.std.ctx.isSome then (s.stdEarlyEnd .link .nodata).parkAfterStd else s

/-! ## Link state -/

/-- The link state changes, with its counts, its live word, its alarm entry and its notice (R40, R43). -/
def State.linkDownCore (cause : LinkCause) (s : State) : State :=
  let s1 : State := { s with link := { s.link with up := false, lossCount := 0, goodRun := 0, echoCount := 0 } }
  ((((s1.live 0x02C 0).raiseAlarm linkDownAlarm (some cause.code)).2).setNotice .link)

/-- The link goes DOWN (R40). -/
def State.linkDown (cause : LinkCause) (s : State) : State :=
  ((s.linkDownCore cause).handGoal .linkRaised).stdLinkEnd

/-- The link goes UP (R39). -/
def State.linkUp (s : State) : State :=
  let s1 : State := { s with link.up := true }
  ((((s1.live 0x02C 1).clearAlarm linkDownAlarm none).setNotice .link).handGoal .other)

/-! ## The command word (R34, R35) -/

/-- The traverse controller's shutter demand (R69). -/
def HeadState.shutterOpen : HeadState → Bool
  | .outbound | .inbound | .turning | .movingToHold | .holding => true
  | .unhomed | .homing | .parked | .standing | .standardizing | .returning | .stopping | .faulted => false

/-- The demanded SHUTTER (R34, Figure 6-1). -/
def State.shutterDemand (s : State) : Bool :=
  if s.trav.head = .standardizing then s.std.ctx.isSome else s.trav.head.shutterOpen

/-- The demanded REF (R34, Figure 6-1). -/
def State.refDemand (s : State) : Bool :=
  decide (s.trav.head = .standardizing) && s.std.ctx.any (fun c => c.phase.refIn)

/-- The command word takes a changed demand, once in each event (R35). -/
def State.commandCompare (s : State) : State :=
  if s.shutterDemand = s.link.shutter ∧ s.refDemand = s.link.ref then s
  else
    { s with link := { s.link with
        shutter := s.shutterDemand, ref := s.refDemand, seq := s.link.seq + 1, echoPending := true, echoCount := 0
        inFlight := s.link.inFlight.map (fun f => { f with sinceCommand := false }) } }

/-- The end of every event: a standardize whose three conditions hold starts (R111), and the command word takes the
demand (R35). -/
def State.endEvent (s : State) : State := s.stdStart.commandCompare

end Sys2Proof.Machine
end

