-- ==== Sys2Proof/Machine/Resets.lean ====
section
/-!
DEFINITION. The resets and the start-up (section 1.10, and the last section of each chapter): COLD_RESET, STARTING,
START_UP_COMPLETION, RESTART.
-/

namespace Sys2Proof.Machine

/-- Every block in its cold-reset state, with a memory and the raw levels of the pins; the queue stays (R25; the first
column of Tables 1-7, 2-2, 3-2, 4-3, 6-2, 7-3, 8-2, 9-1 and 10-1). -/
def State.coldState (s : State) (resetActive : Bool) (m : Mem) : State :=
  { State.reset with pins := { s.pins with resetActive := resetActive }, mem := m, tieIndex := s.tieIndex,
                     pending := s.pending }

/-! ## Start-up completion -/

/-- The exchange controller becomes READY and its timers' owners start them; the input levels are taken without an event
(R26, R28, R47, R49, R71, R87, R183). -/
def State.startUp (s : State) : State :=
  { s with ex.life := .ready
           link.sampleTimer := some s.page.samplePeriod
           trav := { s.trav with
             driveTimer := some Config.driveIntervalUs, prevPosition := s.trav.position
             frontLim := s.pins.frontLim, backLim := s.pins.backLim, drvFault := s.pins.drvFault }
           arb := { s.arb with panelPark := s.pins.panelPark, panelInhibit := s.pins.panelInhibit }
           brk.line := s.pins.breakIn }

/-- The exchange controller writes its live fields (R24, R26, Table 11-7). -/
def State.liveExchange (s : State) : State :=
  s.liveWords 0x000
    [1, Word.ofBool s.ex.applyPending, readWord s.mem (liveBase + 0x008), readWord s.mem (liveBase + 0x00C),
     readWord s.mem (liveBase + 0x010), s.ex.reqMode.code, Word.ofSigned s.ex.holdPos,
     readWord s.mem (liveBase + 0x01C), readWord s.mem (liveBase + 0x020), s.ex.generation, skippedWord s.ex.skipped]

/-- The link controller, the traverse controller, the break monitor and the binning unit write their live fields (R42,
R71, R139, R183). -/
def State.liveBlocks (s : State) : State :=
  let s1 := (s.liveWords 0x02C [Word.ofBool s.link.up, s.link.timeCounter, s.link.frameCounter]).live 0x038
    s.trav.head.code
  let s2 := s1.liveWords 0x044
    [s1.trav.position, s1.trav.faultCause.code, s1.brk.state.code, s1.brk.number, Word.ofCount s1.brk.newest.val,
     Word.ofBool s1.bin.scan.isSome]
  s2.liveEdges

/-- The standardize sequencer writes its reference records, the limit monitor its entries, the conversion unit its live
fields (R104, R121, R169). -/
def State.liveTables (s : State) : State :=
  let s1 := channels8.foldl
    (fun s (c : Fin 8) => s.liveWords (0x100 + 16 * c.val) s.std.refs[c].words) s
  let s2 := alarmIndices.foldl
    (fun s (i : Fin 48) => s.liveWords (0x200 + 16 * i.val) s.alarms[i].words) s1
  channels9.foldl (fun s c => s.liveDisable c) s2

/-- The arbiter recomputes the goal record and writes the live effective goal (R87). -/
def State.startGoal (s : State) : State :=
  let s1 := (s.recompute .other).state
  s1.liveWords 0x03C s1.arb.goalWords

/-- The start-up completion event (R26, R42, R71, R87, R169): the owners write, LINK_DOWN is raised with value 3,
RESTARTED is set, the head takes the goal from UNHOMED. -/
def State.startUpComplete (s : State) : State :=
  let s1 := (s.startUp.liveExchange.liveBlocks.liveTables.raiseAlarm linkDownAlarm (some LinkCause.reset.code)).2
  (s1.setNotice .restarted).startGoal.takeGoalStill false false

/-! ## Warm reset -/

/-- The exchange controller's part of a warm reset (R17). -/
def State.warmExchange (s : State) : State :=
  (({ s with ex := { s.ex with gateResult := .none, cause := .warm } } : State).gateIdle).setNotice .restarted

/-- The scan, the batch and the standardize in progress are discarded without record (R72, R120, R140), the filters
unseeded (R158), the due condition recomputed (R121). -/
def State.warmDiscard (s : State) : State :=
  let s1 := s.discardScan.discardBatch
  ({ s1 with std.ctx := none } : State).tellDue.unseedAll

/-- The head state after a warm reset (R72). -/
def State.warmHead (s : State) : HeadState :=
  match s.trav.head with
  | .unhomed | .homing | .faulted => .unhomed
  | .parked | .standing | .standardizing | .outbound | .inbound | .turning | .holding | .movingToHold | .returning
  | .stopping => .standing

/-- The traverse controller's part of a warm reset (R47, R49, R72). -/
def State.warmTraverse (s : State) : State :=
  let h := s.warmHead
  ({ s with trav := { s.trav with
      duty := 0, homed := s.trav.homed && decide (h = .standing), stallTime := 0, stillness := 0, dwellTimer := none
      driveTimer := some Config.driveIntervalUs, prevPosition := s.trav.position
      frontLim := s.pins.frontLim, backLim := s.pins.backLim, drvFault := s.pins.drvFault } } : State).setHead h

/-- The head link controller's part of a warm reset, less the command word (R28, R43). -/
def State.warmLink (s : State) : State :=
  let s1 : State := { s with link := { s.link with
    inFlight := none, sampleTimer := some s.page.samplePeriod, lossCount := 0, goodRun := 0, echoCount := 0 } }
  if s.link.up then s1.linkDownCore .reset else s1

/-- The break monitor's part of a warm reset (R184). -/
def State.warmBreak (s : State) : State :=
  { s with brk := { s.brk with
      lowCount := 0, openCount := 0, lineTimer := s.brk.lineTimer.map (fun _ => s.page.debounceMs * 1000) } }

/-- The arbiter's part of a warm reset: panel levels afresh, the recompute (R88). -/
def State.warmArbiter (s : State) : State :=
  (({ s with arb := { s.arb with
      panelPark := s.pins.panelPark, panelInhibit := s.pins.panelInhibit, parkTimer := none
      inhibitTimer := none } } : State).recompute .other).state

/-- A warm reset (R17 and the last rule of each chapter): the head takes the goal from the state that the reset leaves
it in. -/
def State.warmReset (s : State) : State :=
  let s1 := s.warmExchange.warmDiscard.warmTraverse.warmLink.warmBreak
  s1.warmArbiter.takeGoalStill false false

/-! ## Meanings -/

/-- COLD_RESET (R25): every block takes and holds its cold-reset state; the memory is not yet written. -/
def execColdReset (s : State) : Host.Outcome State Fault Refusal := .next (s.coldState true s.mem)

/-- STARTING (R25): RESET_L is inactive; pages, state words, history and live area are written. -/
def execStarting (s : State) : Host.Outcome State Fault Refusal := .next (s.coldState false (startingMem s.mem))

/-- START_UP_COMPLETION (R26); only STARTING with RESET_L inactive can end. -/
def execStartUpCompletion (s : State) : Host.Outcome State Fault Refusal :=
  .next (if s.ex.life = .starting ∧ s.pins.resetActive = false then s.startUpComplete.endEvent else s)

/-- RESTART (R17): a warm reset; discarded while life is STARTING (R3). -/
def execRestart (s : State) : Host.Outcome State Fault Refusal :=
  .next (if s.ex.life = .ready then s.warmReset.endEvent else s)

end Sys2Proof.Machine
end

