-- ==== Sys2Proof/Machine/Gate.lean ====
section
/-!
DEFINITION. The GATE writes APPLY, MODE and unknown codes, the fields of a mode write, and a pending apply being taken
(sections 1.4 to 1.6). While life is STARTING every GATE write is discarded (R3).
-/

namespace Sys2Proof.Machine

/-- An event of the running part: nothing while life is STARTING (R25), else the event and what ends every event (R35,
R111). -/
def State.event (f : State → State) (s : State) : State := if s.ex.life = .ready then (f s).endEvent else s

/-! ## Fields of a mode write (R14, R15) -/

/-- The first problem of two, in order (R16). -/
def Result.first (a b : Result) : Result := if a = .accepted then b else a

/-- The hold position that a HOLD request gives: clamped to F_TURN to B_TURN (R14). -/
def State.heldPosition (w : Word) (s : State) : Int := clampInt s.page.fTurn s.page.bTurn w.toInt

/-- An accepted MODE_REQ, before the arbiter's recompute (R14). -/
def State.acceptMode (m : ReqMode) (w : Word) (s : State) : State :=
  let s1 := ({ s with ex.reqMode := m } : State).live 0x014 m.code
  if m = .hold then
    let hp := s.heldPosition w
    ({ s1 with ex.holdPos := hp } : State).live 0x018 (Word.ofSigned hp)
  else s1

/-- The result of a MODE_REQ (R14). -/
def State.modeReqResult (req : Word) (s : State) : Result :=
  match ReqMode.ofWord req with
  | none => .badMode
  | some .scan | some .hold => if s.page.enabledChannels = [] then .noChannels else .accepted
  | some .park | some .stop | some .home => .accepted

/-- MODE_REQ and HOLD_POS are taken, less the recompute (R14). -/
def State.takeModeReq (req holdPos : Word) (s : State) : State :=
  if s.modeReqResult req = .accepted then
    match ReqMode.ofWord req with
    | some m => s.acceptMode m holdPos
    | none => s
  else s

/-- STD_NOW is taken, less the recompute (R15, R110). -/
def State.takeStdNow (v : Word) (s : State) : State := if v = 0 then s else { s with std.stdNow := true }

/-- The result of a BREAK_ACK (R15). -/
def State.breakAckResult (v : Word) (s : State) : Result :=
  if v = 0 ∨ v = s.brk.number then .accepted else .staleAck

/-- An acknowledgement is taken (R179); the resumption may follow (R180). -/
def State.takeBreakAck (v : Word) (s : State) : State :=
  if v ≠ 0 ∧ v = s.brk.number ∧ s.brk.state = .broken ∧ s.brk.latch = false then
    (({ s with brk.latch := true } : State).writeAckTime).checkResume
  else s

/-- The result of a FAULT_ACK (R15). -/
def State.faultAckResult (v : Word) (s : State) : Result :=
  if v ≠ 0 ∧ s.trav.head = .faulted ∧ s.trav.drvFault = true then .faultPersists else .accepted

/-- A fault acknowledge (R15, R68, R85): FAULTED to UNHOMED, and the goal in force. -/
def State.takeFaultAck (v : Word) (s : State) : State :=
  if v ≠ 0 ∧ s.trav.head = .faulted ∧ s.trav.drvFault = false then s.enterUnhomed.takeGoalStill false false else s

/-- ARM is taken (R175): a changed armed flag decides the state outside BROKEN, and LINE fires where R173 calls for
it. -/
def State.takeArm (v : Word) (s : State) : State :=
  let armed := decide (v ≠ 0)
  if armed = s.brk.armed then s
  else
    let r := ({ s with brk.armed := armed } : State).takeWatch
    if r.1 then r.2.declare cueBitLine r.2.trav.position else r.2

/-- The result of a MODE write: live mode result, gate result, REFUSED when it is not ACCEPTED (R16). -/
def State.concludeMode (r : Result) (s : State) : State :=
  let s1 := ({ s with ex.gateResult := r } : State).live 0x010 r.code
  if r = .accepted then s1 else s1.setNotice .refused

/-- MODE_REQ, HOLD_POS and STD_NOW with the arbiter's one recompute for them (R13, R73). -/
def State.takeRequests (req holdPos stdNow : Word) (s : State) : State :=
  let s1 := (s.takeModeReq req holdPos).takeStdNow stdNow
  if s.modeReqResult req = .accepted ∨ stdNow ≠ 0 then s1.handGoal .other else s1

/-- A mode write with the six fields of the mode block, in their order (R13 to R16). The mode result is written last, so
it stands in the gate result where the write also brought about an apply (the model's choice, log entry 30). -/
def State.modeWrite (req holdPos stdNow breakAck faultAck arm : Word) (s : State) : State :=
  let s1 := s.takeRequests req holdPos stdNow
  let s2 := s1.takeBreakAck breakAck
  let s3 := s2.takeFaultAck faultAck
  let result := (s.modeReqResult req).first ((s1.breakAckResult breakAck).first (s2.faultAckResult faultAck))
  (s3.takeArm arm).concludeMode result

/-- A GATE write of APPLY (R7). -/
def State.applyWrite (s : State) : State :=
  if s.ex.applyPending then ({ s with ex.gateResult := .busy } : State).setNotice .refused
  else if s.atApplyPoint then s.applyNow
  else ({ s with ex.applyPending := true } : State).live 0x004 1

/-! ## Meanings -/

/-- APPLY (R7). -/
def execApply (s : State) : Host.Outcome State Fault Refusal := .next (s.event State.applyWrite)

/-- PENDING_APPLY_TAKEN (R8): a pending apply at an event after which no scan is open and the head is not
STANDARDIZING. -/
def execPendingApplyTaken (s : State) : Host.Outcome State Fault Refusal :=
  .next (s.event (fun s => if s.ex.applyPending && s.atApplyPoint then s.applyNow else s))

/-- MODE (R13): the whole mode block of the staged page. -/
def execMode (s : State) : Host.Outcome State Fault Refusal :=
  let p := s.staged
  .next (s.event
    (State.modeWrite p.modeReq p.modeHoldPos p.modeStdNow p.modeBreakAck p.modeFaultAck p.modeArm))

/-- MODE_REQ (R14): the fields MODE_REQ and HOLD_POS of a mode write by themselves (log entry 2). -/
def execModeReq (req holdPos : Word) (s : State) : Host.Outcome State Fault Refusal :=
  .next (s.event (fun s => (s.takeRequests req holdPos 0).concludeMode (s.modeReqResult req)))

/-- STD_NOW (R15, R110): the field of a mode write by itself (log entry 2). -/
def execStdNow (v : Word) (s : State) : Host.Outcome State Fault Refusal :=
  .next (s.event (fun s =>
    (if v = 0 then s else (s.takeStdNow v).handGoal .other).concludeMode .accepted))

/-- BREAK_ACK (R15, R179): the field of a mode write by itself (log entry 2). -/
def execBreakAck (v : Word) (s : State) : Host.Outcome State Fault Refusal :=
  .next (s.event (fun s => (s.takeBreakAck v).concludeMode (s.breakAckResult v)))

/-- FAULT_ACK (R15, R68): the field of a mode write by itself (log entry 2). -/
def execFaultAck (v : Word) (s : State) : Host.Outcome State Fault Refusal :=
  .next (s.event (fun s => (s.takeFaultAck v).concludeMode (s.faultAckResult v)))

/-- ARM (R15, R175): the field of a mode write by itself (log entry 2). -/
def execArm (v : Word) (s : State) : Host.Outcome State Fault Refusal :=
  .next (s.event (fun s => (s.takeArm v).concludeMode .accepted))

/-- UNKNOWN_CODE (R18): BAD CODE and REFUSED; a code that GATE knows is not this event. -/
def execUnknownCode (code : Word) (s : State) : Host.Outcome State Fault Refusal :=
  .next (if s.ex.life = .ready ∧ unknownGateCode code = true then
    ({ s with ex.gateResult := .badCode } : State).setNotice .refused else s)

end Sys2Proof.Machine
end

