-- ==== Sys2Proof/Machine/AlarmEvents.lean ====
section
/-!
DEFINITION. The alarm events that a scan close brings about (R130, R162), by themselves: a miss count at EDGE_MISS_LIMIT,
a streak at its limit.
-/

namespace Sys2Proof.Machine

/-- A side whose miss count stands at EDGE_MISS_LIMIT has its entry raised with the count (R130). -/
def State.edgeMissReached (side : Side) (s : State) : State :=
  if s.bin.miss side = s.page.edgeMissLimit then
    (s.raiseAlarm (edgeLostAlarm side) (some (s.bin.miss side))).2
  else s

/-- A streak of scan entry i that stands at its limit raises or clears the entry (R162). -/
def State.streakReached (i : Fin 36) (s : State) : State :=
  let c := i.val / 4
  let e := s.alarms[i.val]
  if s.page.kindEnabled c (i.val % 4) then
    if e.active then
      if s.page.clearScans c ≤ e.clearStreak then s.clearAlarm (i.castLE (by decide)) none else s
    else if s.page.raiseScans c ≤ e.violationStreak then (s.raiseAlarm (i.castLE (by decide)) none).2
    else s
  else s

/-! ## Meanings -/

/-- EDGE_MISS_LIMIT_REACHED (R130), when the side's miss count stands at the limit (log entries 1 and 26). -/
def execEdgeMissLimitReached (side : Side) (s : State) : Host.Outcome State Fault Refusal :=
  .next (s.event (State.edgeMissReached side))

/-- ALARM_STREAK_REACHED (R162), when the streak stands at its limit (log entry 1). -/
def execAlarmStreakReached (i : Fin 36) (s : State) : Host.Outcome State Fault Refusal :=
  .next (s.event (State.streakReached i))

end Sys2Proof.Machine
end

