-- ==== Sys2Proof/Machine/BreakEvents.lean ====
section
/-!
DEFINITION. The break line and the resumption (Chapter 10): raw level changes of BREAK_IN_L, the line debounce, leaving
BROKEN.
-/

namespace Sys2Proof.Machine

/-- The raw level of BREAK_IN_L changed: the timer starts afresh with DEBOUNCE, or stops (R172). -/
def State.breakInChange (s : State) : State :=
  { s with brk.lineTimer := if s.pins.breakIn = s.brk.line then none else some (s.page.debounceMs * 1000) }

/-- The debounced level takes the raw level (R172). Becoming active, LINE fires (R173); becoming inactive, a latched
acknowledgement takes effect (R180). -/
def State.lineExpiry (s : State) : State :=
  if s.brk.lineTimer.isSome then
    let was := s.brk.line
    let s1 : State := { s with brk := { s.brk with lineTimer := none, line := s.pins.breakIn } }
    if s1.brk.line = true ∧ was = false then s1.lineCue
    else if s1.brk.line = false ∧ was = true then s1.checkResume
    else s1
  else s

/-! ## Meanings -/

/-- BREAK_IN_L_CHANGE (R172); a level that the pin already has is no change (log entry 25). -/
def execBreakInChange (active : Bool) (s : State) : Host.Outcome State Fault Refusal :=
  .next (if s.pins.breakIn = active then s
    else ({ s with pins := { s.pins with breakIn := active } } : State).event State.breakInChange)

/-- LINE_DEBOUNCE_EXPIRY (R172), while the timer runs. -/
def execLineDebounceExpiry (s : State) : Host.Outcome State Fault Refusal := .next (s.event State.lineExpiry)

/-- BREAK_RESUME (R180), when the latch is set and the LINE condition is clear while BROKEN (log entry 1). -/
def execBreakResume (s : State) : Host.Outcome State Fault Refusal := .next (s.event State.checkResume)

end Sys2Proof.Machine
end

