-- ==== Sys2Proof/Machine/HostWrites.lean ====
section
/-!
DEFINITION. The host's writes of the registers NOTICE, NOTICE MASK and PART STATE and of the exchange memory (sections
1.1, 1.2, 1.7, 1.8). While life is STARTING every one is discarded (R1, R3).
-/

namespace Sys2Proof.Machine

/-- A host word write of the exchange memory (R1): the staged page stores the word, the record store the state word of a
frame; every other write is discarded. -/
def hostWriteMem (m : Mem) (wa : BitVec 16) (v : Word) : Mem :=
  let a := 4 * wa.toNat
  if a < activeBase ∨ isStateWord a = true then writeWord m a v else m

/-! ## Meanings -/

/-- NOTICE_WRITE (R19): a one clears the flag in its position. -/
def execNoticeWrite (v : Word) (s : State) : Host.Outcome State Fault Refusal :=
  .next (if s.ex.life = .ready then { s with ex.notice := s.ex.notice &&& ~~~(v.setWidth 13) } else s)

/-- NOTICE_MASK_WRITE (R20): the thirteen bits are stored. -/
def execNoticeMaskWrite (v : Word) (s : State) : Host.Outcome State Fault Refusal :=
  .next (if s.ex.life = .ready then { s with ex.mask := v.setWidth 13 } else s)

/-- OTHER_REGISTER_WRITE (R4, R185): a write of PART STATE or of an unused offset is discarded. -/
def execOtherRegisterWrite (_sel : BitVec 3) (_v : Word) (s : State) : Host.Outcome State Fault Refusal := .next s

/-- EXCHANGE_MEMORY_WRITE (R1). -/
def execExchangeMemoryWrite (wa : BitVec 16) (v : Word) (s : State) : Host.Outcome State Fault Refusal :=
  .next (if s.ex.life = .ready then { s with mem := hostWriteMem s.mem wa v } else s)

/-- STATE_WORD_WRITE (R21): the state word of frame k stores the word as written. -/
def execStateWordWrite (k : Fin 8) (v : Word) (s : State) : Host.Outcome State Fault Refusal :=
  .next (if s.ex.life = .ready then { s with mem := writeWord s.mem (frameBase k.val) v } else s)

end Sys2Proof.Machine
end

