-- ==== Sys2Proof/Machine/LinkEvents.lean ====
section
/-!
DEFINITION. The events of the head link (Chapters 2, 5, 6, 7, 10): frame start, the frame-received event with all that
the blocks do in it, echo timeout and link state, the full batch, gauge cues, and the phases of a standardize.
-/

namespace Sys2Proof.Machine

/-- The frame that starts now (R29). -/
def State.newFrame (number : Word) (s : State) : Frame :=
  { number := number, startTime := s.link.timeCounter, position := s.trav.position, head := s.trav.head
    slotCount := s.page.slotCount, seq := s.link.seq, shutter := s.link.shutter, ref := s.link.ref
    sinceCommand := true, sinceScanOpen := true, sinceBatchStart := true }

/-- A frame start (R28, R29, R27): the timer restarts, the frame is numbered and latched, the live counters and the live
position are written. -/
def State.frameStart (s : State) : State :=
  let n := s.link.frameCounter + 1
  let s1 : State := { s with link := { s.link with
    sampleTimer := some s.page.samplePeriod, frameCounter := n, inFlight := some (s.newFrame n) } }
  (s1.liveWords 0x030 [s1.link.timeCounter, n]).live 0x044 s1.trav.position

/-! ## The head link controller's part of a frame-received event -/

/-- The echo check (R36), less the timeout: a matching ECHO clears the echo, another frame that carried the current SEQ
counts. -/
def State.echoCheck (f : Frame) (status : Option SlotWord) (s : State) : State :=
  if s.link.echoPending then
    if status.any (fun w => statusEcho w == s.link.seq) then
      { s with link := { s.link with echoPending := false, echoCount := 0 } }
    else if f.sinceCommand then { s with link.echoCount := s.link.echoCount + 1 }
    else s
  else s

/-- The loss count and the good-frame run (R38). -/
def State.countFrame (received : Bool) (s : State) : State :=
  if received then { s with link := { s.link with lossCount := 0, goodRun := min 255 (s.link.goodRun + 1) } }
  else { s with link := { s.link with lossCount := min 255 (s.link.lossCount + 1), goodRun := 0 } }

/-- The frame is measurement-valid (R37), judged after the echo check. -/
def State.frameValid (f : Frame) (status : Option SlotWord) (s : State) : Bool :=
  status.any (fun w => statusReady w && statusShutterOpen w
      && (decide (f.head ≠ .standardizing) || statusRefIn w == s.link.ref))
    && !s.link.echoPending

/-- The echo count has reached its limit (R36). -/
def State.echoDue (s : State) : Bool := s.link.echoPending && decide (Config.echoLimit ≤ s.link.echoCount)

/-- The loss count of an UP link has reached LINK_LOSS (R38). -/
def State.lossDue (s : State) : Bool := s.link.up && decide (s.page.linkLoss ≤ s.link.lossCount)

/-- The good-frame run of a DOWN link has reached 8 (R38). -/
def State.upDue (s : State) : Bool := !s.link.up && decide (Config.goodRunLimit ≤ s.link.goodRun)

/-- The echo timeout (R36): the count returns to 0, and an UP link goes DOWN with cause NO ECHO. -/
def State.echoTimeout (s : State) : State :=
  let s1 : State := { s with link.echoCount := 0 }
  if s.link.up then s1.linkDown .noEcho else s1

/-- The link state after a frame's counts (R36, R38): LOSS stands before NO ECHO. -/
def State.judgeLink (s : State) : State :=
  if s.lossDue then s.linkDown .loss
  else
    let due := s.upDue
    let s1 := if s.echoDue then s.echoTimeout else s
    if due then s1.linkUp else s1

/-- The TEMP_ALARM comparison (R41). -/
def State.tempAlarm (status : Option SlotWord) (s : State) : State :=
  match status with
  | none => s
  | some w =>
    let t := statusTempAlarm w
    if t = s.link.lastTempAlarm then s
    else
      let s1 : State := { s with link.lastTempAlarm := t }
      if t then (s1.raiseAlarm headTempAlarm (some 1)).2 else s1.clearAlarm headTempAlarm (some 0)

/-! ## The other blocks' part -/

/-- The standardize sequencer takes a frame (R112 to R114): it counts toward the phase, and a phase that ends gives way
to the next or to the conclusion. -/
def State.stdFrame (xs : List Sample) (s : State) : State :=
  match s.std.ctx with
  | none => s
  | some ctx =>
    let s1 : State := { s with std.ctx := some (ctx.count1 s.link.echoPending xs) }
    if s1.settleDue then s1.settleEnd
    else if s1.measureDue then s1.measureEnd
    else s1

/-- The frame's results go to the sequencer, or to the binning unit and then the break monitor (R90 step 4). -/
def State.distribute (f : Frame) (xs : List Sample) (s : State) : State :=
  if f.head = .standardizing then s.stdFrame xs
  else ((s.scanFrame f xs).batchFrame f xs).breakFrame f xs

/-- The conversion unit's part of the event (R90). -/
def State.convertFrame (f : Frame) (slots : List SlotRx) (valid : Bool) (s : State) : State :=
  let xs := frameSamples s.page s.std.refs slots f.slotCount valid
  (s.liveSamples xs).distribute f xs

/-- The frame-received event (R31): echo check, counts, validity, link state, TEMP_ALARM, conversion. The conversion
reads the active page as it stands then, so an apply that the link's change brought about in the event governs this frame
(the model's choice, log entry 32). -/
def State.frameReceived (slots : List SlotRx) (s : State) : State :=
  match s.link.inFlight with
  | none => s
  | some f =>
    let status := slotWord slots f.slotCount 0
    let s1 := (({ s with link.inFlight := none } : State).echoCheck f status).countFrame status.isSome
    let valid := s1.frameValid f status
    (s1.judgeLink.tempAlarm status).convertFrame f slots valid

/-! ## Meanings -/

/-- FRAME_START (R28, R29). -/
def execFrameStart (s : State) : Host.Outcome State Fault Refusal :=
  .next (if s.ex.life = .ready then s.frameStart else s)

/-- FRAME_RECEIVED (R31); while no frame is in flight nothing is received. -/
def execFrameReceived (slots : List SlotRx) (s : State) : Host.Outcome State Fault Refusal :=
  .next (s.event (State.frameReceived slots))

/-- ECHO_TIMEOUT (R36), when the echo count stands at its limit (log entry 1). -/
def execEchoTimeout (s : State) : Host.Outcome State Fault Refusal :=
  .next (s.event (fun s => if s.echoDue then s.echoTimeout else s))

/-- LINK_GOES_DOWN (R38, R40), when the loss count stands at LINK_LOSS (log entry 1). -/
def execLinkGoesDown (s : State) : Host.Outcome State Fault Refusal :=
  .next (s.event (fun s => if s.lossDue then s.linkDown .loss else s))

/-- LINK_GOES_UP (R38, R39), when the good-frame run stands at 8 (log entry 1). -/
def execLinkGoesUp (s : State) : Host.Outcome State Fault Refusal :=
  .next (s.event (fun s => if s.upDue then s.linkUp else s))

/-- BATCH_FULL (R134), when the batch's frame count stands at FP_FRAMES (log entry 1). -/
def execBatchFull (s : State) : Host.Outcome State Fault Refusal := .next (s.event State.checkBatchFull)

/-- GAUGE_CUE_FIRE (R171, R176), when a persistence count stands at its limit in WATCH (log entries 1 and 28). -/
def execGaugeCueFire (cuePos : Word) (s : State) : Host.Outcome State Fault Refusal :=
  .next (s.event (State.gaugeDeclare cuePos))

/-- STANDARDIZE_START (R111), when its three conditions hold (log entry 1). -/
def execStandardizeStart (s : State) : Host.Outcome State Fault Refusal := .next (s.event State.stdStart)

/-- SETTLE_END (R113), when a settle phase stands at its end (log entry 1). -/
def execSettleEnd (s : State) : Host.Outcome State Fault Refusal :=
  .next (s.event (fun s => if s.settleDue then s.settleEnd else s))

/-- MEASURE_END (R114, R117), when a measuring phase stands at its end (log entry 1). -/
def execMeasureEnd (s : State) : Host.Outcome State Fault Refusal :=
  .next (s.event (fun s => if s.measureDue then s.measureEnd else s))

end Sys2Proof.Machine
end

