-- ==== Sys2Proof/Machine/MotionEvents.lean ====
section
/-!
DEFINITION. The events of the traverse controller (Chapter 3): the drive interval, arrival, stall, dwell, the encoder, the
limit switches and the drive-fault input. While life is STARTING a change of a pin has no effect but the pin's own level
(R45, R47, R71).
-/

namespace Sys2Proof.Machine

/-- One expiry of the drive interval (R49): target, ramp and direction, the stall check, the arrival check. -/
def State.driveExpiry (s : State) : State :=
  let atStop := s.targetDuty.2
  let s1 := s.driveStep
  if s1.stallDue then s1.fault .stall
  else if s1.arrivalDue atStop then s1.arrive
  else s1

/-- The dwell timer expires in TURNING: the head departs on the next traverse (R60). -/
def State.dwellExpiry (s : State) : State :=
  if s.trav.head = .turning ∧ s.trav.dwellTimer.isSome = true then s.depart (traverseFrom s.trav.turn) else s

/-- The position counter takes a step, and the overtravel check follows a change (R45, R66). -/
def State.countStep (d : Int) (s : State) : State :=
  if d = 0 then s
  else
    let s1 : State := { s with trav.position := s.trav.position + BitVec.ofInt 32 d }
    if s1.overtravelled then s1.fault .overtravel else s1

/-- FRONT_LIM_L becomes active (R65, R56): a LIMIT fault where it is checked, the position in HOMING before it is set. -/
def State.frontLimEvent (s : State) : State :=
  let s1 : State := { s with trav.frontLim := true }
  if s1.trav.head.frontLimChecked then s1.fault .limit
  else if s1.trav.head = .homing ∧ s1.trav.homed = false then s1.setHomingPosition
  else s1

/-- BACK_LIM_L becomes active (R65). -/
def State.backLimEvent (s : State) : State :=
  let s1 : State := { s with trav.backLim := true }
  if s1.trav.head.backLimChecked then s1.fault .limit else s1

/-- DRV_FAULT_L becomes active (R65). -/
def State.drvFaultEvent (s : State) : State :=
  let s1 : State := { s with trav.drvFault := true }
  if s1.trav.head.driveChecked then s1.fault .drive else s1

/-- A field input's raw level (R47). -/
def Pins.field (p : Pins) : FieldInput → Bool
  | .frontLim => p.frontLim
  | .backLim => p.backLim
  | .drvFault => p.drvFault

/-- A field input's raw level set. -/
def Pins.setField (p : Pins) (i : FieldInput) (b : Bool) : Pins :=
  match i with
  | .frontLim => { p with frontLim := b }
  | .backLim => { p with backLim := b }
  | .drvFault => { p with drvFault := b }

/-- The kept level of a field input set (R47). -/
def Traverse.setField (t : Traverse) (i : FieldInput) (b : Bool) : Traverse :=
  match i with
  | .frontLim => { t with frontLim := b }
  | .backLim => { t with backLim := b }
  | .drvFault => { t with drvFault := b }

/-- The raw level of a field input becomes active; the event follows, unless the level was active already (R47, log
entry 25). -/
def State.fieldActive (i : FieldInput) (f : State → State) (s : State) : State :=
  if s.pins.field i then s
  else ({ s with pins := s.pins.setField i true } : State).event f

/-! ## Meanings -/

/-- DRIVE_INTERVAL_EXPIRY (R49). -/
def execDriveIntervalExpiry (s : State) : Host.Outcome State Fault Refusal := .next (s.event State.driveExpiry)

/-- ARRIVAL (R53), when the arrival conditions hold as the drive interval left them (log entry 1). -/
def execArrival (s : State) : Host.Outcome State Fault Refusal :=
  .next (s.event (fun s => if s.arrivalDue s.targetDuty.2 then s.arrive else s))

/-- STALL (R66), when the stall time stands at STALL_TIME in a checked state (log entry 1). -/
def execStall (s : State) : Host.Outcome State Fault Refusal :=
  .next (s.event (fun s => if s.stallDue then s.fault .stall else s))

/-- DWELL_EXPIRY (R60), while the dwell timer runs. -/
def execDwellExpiry (s : State) : Host.Outcome State Fault Refusal := .next (s.event State.dwellExpiry)

/-- ENCODER_STEP (R45): the levels that the inputs change to; a change of both at once is not counted. -/
def execEncoderStep (a b : Bool) (s : State) : Host.Outcome State Fault Refusal :=
  let d := encoderDelta s.page.senseReversed s.pins.encA s.pins.encB a b
  let s1 : State := { s with pins := { s.pins with encA := a, encB := b } }
  .next (s1.event (State.countStep d))

/-- FRONT_LIM_L_ACTIVE (R65, R56). -/
def execFrontLimActive (s : State) : Host.Outcome State Fault Refusal :=
  .next (s.fieldActive .frontLim State.frontLimEvent)

/-- BACK_LIM_L_ACTIVE (R65). -/
def execBackLimActive (s : State) : Host.Outcome State Fault Refusal :=
  .next (s.fieldActive .backLim State.backLimEvent)

/-- DRV_FAULT_L_ACTIVE (R65). -/
def execDrvFaultActive (s : State) : Host.Outcome State Fault Refusal :=
  .next (s.fieldActive .drvFault State.drvFaultEvent)

/-- FIELD_INPUT_INACTIVE (R47): the level becomes inactive. -/
def execFieldInputInactive (i : FieldInput) (s : State) : Host.Outcome State Fault Refusal :=
  let s1 : State := { s with pins := s.pins.setField i false }
  .next (if s.ex.life = .ready then { s1 with trav := s1.trav.setField i false } else s1)

end Sys2Proof.Machine
end

