-- ==== Sys2Proof/Machine/PanelEvents.lean ====
section
/-!
DEFINITION. The operator panel (section 4.4): raw level changes, the debounce, its expiry.
-/

namespace Sys2Proof.Machine

/-- The raw level of a panel input. -/
def Pins.panel (p : Pins) : PanelInput → Bool
  | .park => p.panelPark
  | .inhibit => p.panelInhibit

/-- The raw level of a panel input set. -/
def Pins.setPanel (p : Pins) (i : PanelInput) (b : Bool) : Pins :=
  match i with
  | .park => { p with panelPark := b }
  | .inhibit => { p with panelInhibit := b }

/-- The debounced level of a panel input (R77). -/
def Arbiter.panel (a : Arbiter) : PanelInput → Bool
  | .park => a.panelPark
  | .inhibit => a.panelInhibit

/-- The debounced level of a panel input set (R77). -/
def Arbiter.setPanel (a : Arbiter) (i : PanelInput) (b : Bool) : Arbiter :=
  match i with
  | .park => { a with panelPark := b }
  | .inhibit => { a with panelInhibit := b }

/-- The debounce timer of a panel input (R77). -/
def Arbiter.timer (a : Arbiter) : PanelInput → Option Nat
  | .park => a.parkTimer
  | .inhibit => a.inhibitTimer

/-- The debounce timer of a panel input set (R77). -/
def Arbiter.setTimer (a : Arbiter) (i : PanelInput) (t : Option Nat) : Arbiter :=
  match i with
  | .park => { a with parkTimer := t }
  | .inhibit => { a with inhibitTimer := t }

/-- A raw level changed: the debounce timer starts afresh where it now differs from the debounced level, and stops where
it equals it (R77). -/
def State.panelChange (i : PanelInput) (s : State) : State :=
  let t := if s.pins.panel i = s.arb.panel i then none else some Config.panelDebounceUs
  { s with arb := s.arb.setTimer i t }

/-- The debounce timer expires: the debounced level takes the raw level, the goal record is recomputed, and PANEL is set
when it changed (R77, R80). -/
def State.panelExpiry (i : PanelInput) (s : State) : State :=
  if (s.arb.timer i).isSome then
    let s1 : State := { s with arb := (s.arb.setTimer i none).setPanel i (s.pins.panel i) }
    let r := s1.recompute .other
    if r.changed then (r.state.takeGoal r.posChanged).setNotice .panel else r.state
  else s

/-! ## Meanings -/

/-- PANEL_INPUT_CHANGE (R77); a level that the pin already has is no change (log entry 25). -/
def execPanelInputChange (i : PanelInput) (active : Bool) (s : State) : Host.Outcome State Fault Refusal :=
  .next (if s.pins.panel i = active then s
    else ({ s with pins := s.pins.setPanel i active } : State).event (State.panelChange i))

/-- PANEL_DEBOUNCE_EXPIRY (R77), while the timer runs. -/
def execPanelDebounceExpiry (i : PanelInput) (s : State) : Host.Outcome State Fault Refusal :=
  .next (s.event (State.panelExpiry i))

end Sys2Proof.Machine
end

