-- ==== Sys2Proof/Machine/Dispatch.lean ====
section
/-!
DEFINITION. The meaning of each command: one arm per constructor of Instr, in the table's order.
-/

namespace Sys2Proof.Machine

def exec (i : Instr) (s : State) : Host.Outcome State Fault Refusal :=
  match i with
  | .coldReset => Sys2Proof.Machine.execColdReset s
  | .starting => Sys2Proof.Machine.execStarting s
  | .startUpCompletion => Sys2Proof.Machine.execStartUpCompletion s
  | .apply => Sys2Proof.Machine.execApply s
  | .pendingApplyTaken => Sys2Proof.Machine.execPendingApplyTaken s
  | .mode => Sys2Proof.Machine.execMode s
  | .modeReq req holdPos => Sys2Proof.Machine.execModeReq req holdPos s
  | .stdNow v => Sys2Proof.Machine.execStdNow v s
  | .breakAck v => Sys2Proof.Machine.execBreakAck v s
  | .faultAck v => Sys2Proof.Machine.execFaultAck v s
  | .arm v => Sys2Proof.Machine.execArm v s
  | .restart => Sys2Proof.Machine.execRestart s
  | .unknownCode code => Sys2Proof.Machine.execUnknownCode code s
  | .noticeWrite v => Sys2Proof.Machine.execNoticeWrite v s
  | .noticeMaskWrite v => Sys2Proof.Machine.execNoticeMaskWrite v s
  | .otherRegisterWrite sel v => Sys2Proof.Machine.execOtherRegisterWrite sel v s
  | .exchangeMemoryWrite wa v => Sys2Proof.Machine.execExchangeMemoryWrite wa v s
  | .stateWordWrite k v => Sys2Proof.Machine.execStateWordWrite k v s
  | .frameStart => Sys2Proof.Machine.execFrameStart s
  | .frameReceived slots => Sys2Proof.Machine.execFrameReceived slots s
  | .echoTimeout => Sys2Proof.Machine.execEchoTimeout s
  | .linkGoesDown => Sys2Proof.Machine.execLinkGoesDown s
  | .linkGoesUp => Sys2Proof.Machine.execLinkGoesUp s
  | .batchFull => Sys2Proof.Machine.execBatchFull s
  | .gaugeCueFire cuePos => Sys2Proof.Machine.execGaugeCueFire cuePos s
  | .standardizeStart => Sys2Proof.Machine.execStandardizeStart s
  | .settleEnd => Sys2Proof.Machine.execSettleEnd s
  | .measureEnd => Sys2Proof.Machine.execMeasureEnd s
  | .driveIntervalExpiry => Sys2Proof.Machine.execDriveIntervalExpiry s
  | .arrival => Sys2Proof.Machine.execArrival s
  | .stall => Sys2Proof.Machine.execStall s
  | .edgeMissLimitReached side => Sys2Proof.Machine.execEdgeMissLimitReached side s
  | .alarmStreakReached entry => Sys2Proof.Machine.execAlarmStreakReached entry s
  | .dwellExpiry => Sys2Proof.Machine.execDwellExpiry s
  | .encoderStep a b => Sys2Proof.Machine.execEncoderStep a b s
  | .frontLimActive => Sys2Proof.Machine.execFrontLimActive s
  | .backLimActive => Sys2Proof.Machine.execBackLimActive s
  | .drvFaultActive => Sys2Proof.Machine.execDrvFaultActive s
  | .fieldInputInactive input => Sys2Proof.Machine.execFieldInputInactive input s
  | .panelInputChange input active => Sys2Proof.Machine.execPanelInputChange input active s
  | .panelDebounceExpiry input => Sys2Proof.Machine.execPanelDebounceExpiry input s
  | .breakInChange active => Sys2Proof.Machine.execBreakInChange active s
  | .lineDebounceExpiry => Sys2Proof.Machine.execLineDebounceExpiry s
  | .breakResume => Sys2Proof.Machine.execBreakResume s

end Sys2Proof.Machine
end

