-- ==== Sys2Proof/Safety.lean ====
section
/-!
DEFINITION. What counts as a safe state and a safe step, in the terms that the statements use: the memory's canonical
form, the agreement of the head state with the work that is open, the park demands, the drive's duty; and the premises
and results that several statements share.
-/

namespace Sys2Proof.Machine

/-- The exchange memory has its canonical form. -/
def State.MemoryOk (s : State) : Prop := Memory.wf s.mem

/-- The head states with D at 0 (Figure 3-2): the five that R52 names, and TURNING and HOLDING. -/
def HeadState.atRest : HeadState → Bool
  | .unhomed | .faulted | .parked | .standing | .standardizing | .turning | .holding => true
  | .homing | .outbound | .inbound | .movingToHold | .returning | .stopping => false

/-- A traverse is under way. -/
def HeadState.traversing : HeadState → Bool
  | .outbound | .inbound => true
  | .unhomed | .homing | .parked | .standing | .standardizing | .turning | .holding | .movingToHold | .returning
  | .stopping | .faulted => false

/-- The blocks agree with the head state: a scan is open exactly while traversing (Figure 3-2), a batch only in HOLDING
(R133), a standardize context exactly in STANDARDIZING (Table 6-1), D at 0 where the head rests (R52), and the homed
condition of R46. While life is STARTING the head is UNHOMED (R71), and while READY it stays so under the goal STOP alone
(R55). -/
structure State.HeadOk (s : State) : Prop where
  scan : s.bin.scan.isSome = s.trav.head.traversing
  batch : s.bin.batch.isSome = true → s.trav.head = .holding
  std : s.std.ctx.isSome = decide (s.trav.head = .standardizing)
  rest : s.trav.head.atRest = true → s.trav.duty = 0
  homed : s.trav.head ≠ .homing → s.trav.homed = !(decide (s.trav.head = .unhomed) || decide (s.trav.head = .faulted))
  starting : s.ex.life = .starting → s.trav.head = .unhomed
  unhomed : s.ex.life = .ready → s.trav.head = .unhomed → s.arb.goal = .stop

/-- The goal record's goal is the claims' (R73, R74). Under the goals PARK, STOP and HOME the head is in no state with the
shutter open (OUTBOUND, INBOUND, TURNING, MOVING_TO_HOLD, HOLDING; R54 and R60 to R63), and so it is while the break or
the link demands that the head park (section 4.2). -/
structure State.GoalOk (s : State) : Prop where
  goal : s.ex.life = .ready → s.arb.goal = s.claimedGoal
  sheet : s.trav.head.shutterOpen = true → s.arb.goal ≠ .park ∧ s.arb.goal ≠ .stop ∧ s.arb.goal ≠ .home
  parked : (s.breakDemand || s.linkDemand) = true → s.trav.head.shutterOpen = false

/-- What every event leaves at its end: no standardize waits to be started (R111), and the command word carries the
demanded SHUTTER and REF (R35). -/
structure State.Settled (s : State) : Prop where
  start : s.stdStartDue = false
  shutter : s.link.shutter = s.shutterDemand
  ref : s.link.ref = s.refDemand

/-- The blocks agree with each other. -/
structure State.Sound (s : State) : Prop where
  head : s.HeadOk
  goal : s.GoalOk
  settled : s.Settled

/-- The active page passes the plan check and the bin check (section 3.1, R9), its duties are per mille (Table 1-4), and
so are D and the duty of the running period of DRV_PWM (R48, R52). The open work has at most nine channels (eight in a
standardize) and 512 bins, so that its record fits its frame (R123, R133, R111, section 11.5). -/
structure State.PageOk (s : State) : Prop where
  plan : checkPlan s.page = none
  bins : checkBins s.page = none
  cruise : s.page.cruiseDuty ≤ 1000
  creep : s.page.creepDuty ≤ 1000
  ret : s.page.returnDuty ≤ 1000
  home : s.page.homeDuty ≤ 1000
  min : s.page.minDuty ≤ 1000
  duty : s.trav.duty ≤ 1000
  pwm : s.trav.pwmDuty ≤ 1000
  scanFits : ∀ ctx, s.bin.scan = some ctx → ctx.chans.length ≤ 9 ∧ ∀ a ∈ ctx.chans, a.bins.length ≤ 512
  batchFits : ∀ b, s.bin.batch = some b → b.chans.length ≤ 9
  stdFits : ∀ ctx, s.std.ctx = some ctx → ctx.chans.length ≤ 8

/-- A word of the live area (Table 11-7). -/
def State.liveWord (s : State) (off : Nat) : Word := readWord s.mem (liveBase + off)

/-- A notice flag is set. -/
def State.noticeSet (s : State) (n : Notice) : Bool := s.ex.notice.getLsbD n.bit

/-- A command has an outcome with a next state of which something holds. -/
def Completes (c : Instr) (s : State) (P : State → Prop) : Prop := ∃ t, exec c s = .next t ∧ P t

/-- Two memories agree on a range of byte addresses. -/
def SameBytes (m n : Mem) (lo hi : Nat) : Prop := ∀ a, lo ≤ a → a < hi → readByte m a = readByte n a

/-- The state in which the head link controller judges the frame in flight: the echo check and the counts are made
(R31, R36, R38). -/
def State.judgedFrame (slots : List SlotRx) (f : Frame) (s : State) : State :=
  (({ s with link.inFlight := none } : State).echoCheck f (slotWord slots f.slotCount 0)).countFrame
    (slotWord slots f.slotCount 0).isSome

/-- The samples that the conversion unit gets from the frame in flight (R37, R90). -/
def State.frameResult (slots : List SlotRx) (f : Frame) (s : State) : List Sample :=
  frameSamples s.page s.std.refs slots f.slotCount
    ((s.judgedFrame slots f).frameValid f (slotWord slots f.slotCount 0))

/-- A frame-received event in which the link stays UP (R36, R38) and no apply is pending. -/
structure State.QuietFrame (slots : List SlotRx) (f : Frame) (s : State) : Prop where
  sound : s.Sound
  ready : s.ex.life = .ready
  flight : s.link.inFlight = some f
  apply : s.ex.applyPending = false
  up : s.link.up = true
  echo : s.link.echoCount + 1 < 200
  limit : 1 ≤ s.page.linkLoss
  losses : slotWord slots f.slotCount 0 = none → min 255 (s.link.lossCount + 1) < s.page.linkLoss

/-- What a conclusion of the context, begun in s, leaves in t of the references, the untried marks and the STD_FAULT
entries (R116): a channel of result ACCEPTED has its new reference, in the live area too, and its entry NORMAL; one of
another result keeps its reference and has its entry ACTIVE with the result code; a channel outside the set is as it
was. -/
def StdActed (ctx : StdCtx) (s t : State) : Prop :=
  (∀ x ∈ ctx.chans,
    let e := stdEntry s.page x
    let old := s.alarms[stdFaultAlarm x.chan]
    let new := t.alarms[stdFaultAlarm x.chan]
    t.std.untried[x.chan] = false ∧
    (e.result = .accepted →
      t.std.refs[x.chan] = { value := x.candidate, check := e.check, accepted := true } ∧
      t.liveWord (0x100 + 16 * x.chan.val) = BitVec.ofNat 32 x.candidate ∧
      t.liveWord (0x104 + 16 * x.chan.val) = BitVec.ofInt 32 e.check ∧
      t.liveWord (0x108 + 16 * x.chan.val) = 1 ∧
      new.active = false ∧ new.timesRaised = old.timesRaised ∧ new.lastValue = old.lastValue) ∧
    (e.result ≠ .accepted →
      t.std.refs[x.chan] = s.std.refs[x.chan] ∧
      new.active = true ∧ new.lastValue = e.result.code.toInt ∧
      new.timesRaised = (if old.active = true then old.timesRaised else min 65535 (old.timesRaised + 1)))) ∧
  (∀ c : Fin 8, (∀ x ∈ ctx.chans, x.chan ≠ c) →
    t.std.refs[c] = s.std.refs[c] ∧ t.std.untried[c] = s.std.untried[c] ∧
    t.alarms[stdFaultAlarm c] = s.alarms[stdFaultAlarm c])

/-- What an encoder step to the levels a and b counts (R45): 1 in the order (0,0), (1,0), (1,1), (0,1) with ENCODER_SENSE
NORMAL, −1 in the reverse order, the other way round with REVERSED, and 0 where both levels change or none does. -/
def State.encoderCount (a b : Bool) (s : State) : Int :=
  let change := (s.pins.encA, s.pins.encB, a, b)
  let one : Int := if s.page.senseReversed then -1 else 1
  if change ∈ [(false, false, true, false), (true, false, true, true), (true, true, false, true),
      (false, true, false, false)] then one
  else if change ∈ [(true, false, false, false), (true, true, true, false), (false, true, true, true),
      (false, false, false, true)] then -one
  else 0

/-- What the early end of the standardize of a context, begun in s, leaves in t (R118, R119): one STDZ record, in the first
FREE frame where there is one, with the outcome's code, the channel set and for each of its channels the old reference, 0,
0 and the result's code; STDZ set, no context, the scan count 0, STD_NOW cleared. Where no apply is taken in the event,
every reference, untried mark and STD_FAULT entry is as it was, and the due condition is that of the untried marks. -/
def StdEndedEarly (ctx : StdCtx) (outcome result : Word) (s t : State) : Prop :=
  t.std.ctx = none ∧ t.noticeSet .stdz = true ∧ t.std.scanCount = 0 ∧ t.std.stdNow = false ∧
  t.ex.lastRecord = s.ex.lastRecord + 1 ∧
  (∀ k, findFree s.mem s.ex.nextFrame = some k →
    let word := fun i => readWord t.mem (frameBase k.val + 4 * i)
    word 0 = readyCode ∧ word 1 = 3 ∧ word 2 = s.ex.lastRecord + 1 ∧ word 4 = outcome ∧ word 5 = 0 ∧
    word 6 = s.ex.generation ∧ word 7 = ctx.startTime ∧ word 8 = s.link.timeCounter ∧ word 9 = 0 ∧ word 10 = 0 ∧
    word 11 = 0 ∧ word 12 = presentMask (ctx.chans.map (fun x => x.chan.val)) ∧ word 13 = 0 ∧ word 14 = 0 ∧
    word 15 = BitVec.ofNat 32 (16 + 4 * ctx.chans.length) ∧
    ∀ i, (hi : i < ctx.chans.length) →
      word (16 + 4 * i) = (if ctx.chans[i].old.accepted = true then BitVec.ofNat 32 ctx.chans[i].old.value else 0) ∧
      word (17 + 4 * i) = 0 ∧ word (18 + 4 * i) = 0 ∧ word (19 + 4 * i) = result) ∧
  (s.ex.applyPending = false →
    t.std.refs = s.std.refs ∧ t.std.untried = s.std.untried ∧
    (∀ c : Fin 8, t.alarms[stdFaultAlarm c] = s.alarms[stdFaultAlarm c]) ∧
    (t.std.due = true ↔ ∃ c : Fin 8, s.std.untried[c] = true))

end Sys2Proof.Machine
end

