-- ==== Sys2Proof/Certificates/Slice0/Obligations.lean ====
section
/-!
DEFINITION. The statements for the provers. `Completes c s P` says that the command c on s answers a next state of which
P holds (Sys2Proof/Safety.lean). The numbered rules R<n> are those of spec/.
-/

open Sys2Proof Sys2Proof.Machine

/-! ## Reset, queue, step -/

/-- What State.reset holds (Tables 1-7, 2-2, 3-2, 4-3, 6-2, 7-3, 8-2, 9-1, 10-1, first column; section 1.3.1; R25): the
registers, counters, timers, marks and filters of the blocks, the default page in both pages, FREE in every state word,
and 0 in the live area and the break history. The levels of the pins, which the spec gives no reset value (log entry 7),
and the model's own values (log entries 6, 17 and 22) are not stated. -/
def Obligations.ResetState : Prop :=
  let s := State.reset
  s.ex.life = .starting ∧ s.ex.cause = .cold ∧ s.ex.applyPending = false ∧ s.ex.gateResult = .none ∧ s.ex.notice = 0
    ∧ s.ex.mask = 0 ∧ s.ex.reqMode = .park ∧ s.ex.holdPos = 500 ∧ s.ex.generation = 0 ∧ s.ex.lastRecord = 0
    ∧ s.ex.skipped = 0 ∧ s.ex.nextFrame = 0
    ∧ s.link.up = false ∧ s.link.timeCounter = 0 ∧ s.link.frameCounter = 0 ∧ s.link.sampleTimer = none
    ∧ s.link.seq = 0 ∧ s.link.shutter = false ∧ s.link.ref = false ∧ s.link.echoPending = false
    ∧ s.link.echoCount = 0 ∧ s.link.lossCount = 0 ∧ s.link.goodRun = 0 ∧ s.link.lastTempAlarm = false
    ∧ s.link.inFlight = none
    ∧ s.trav.head = .unhomed ∧ s.trav.homed = false ∧ s.trav.position = 0 ∧ s.trav.duty = 0 ∧ s.trav.dir = .inn
    ∧ s.trav.driveTimer = none ∧ s.trav.stallTime = 0 ∧ s.trav.stillness = 0 ∧ s.trav.dwellTimer = none
    ∧ s.trav.faultCause = .none
    ∧ s.arb.goal = .park ∧ s.arb.holdPos = 500 ∧ s.arb.granted = true ∧ s.arb.cause = .aborted
    ∧ s.arb.panelPark = false ∧ s.arb.panelInhibit = false ∧ s.arb.parkTimer = none ∧ s.arb.inhibitTimer = none
    ∧ (∀ c : Fin 8, s.std.refs[c] = { value := 0, check := 0, accepted := false } ∧ s.std.untried[c] = false)
    ∧ s.std.scanCount = 0 ∧ s.std.stdNow = false ∧ s.std.due = false ∧ s.std.ctx = none
    ∧ s.bin.edgeFront = 1000 ∧ s.bin.edgeBack = 9000 ∧ s.bin.missFront = 0 ∧ s.bin.missBack = 0
    ∧ s.bin.firstAfterBreak = false ∧ s.bin.scan = none ∧ s.bin.batch = none
    ∧ (∀ c : Fin 9, s.filters[c] = { seeded := false, binCount := 0, bins := [] })
    ∧ (∀ i : Fin 48, s.alarms[i] = {
        active := false, violationStreak := 0, clearStreak := 0, timesRaised := 0, lastChange := 0, lastValue := 0 })
    ∧ s.brk.armed = false ∧ s.brk.state = .disarmed ∧ s.brk.number = 0 ∧ s.brk.latch = false ∧ s.brk.lowCount = 0
    ∧ s.brk.openCount = 0 ∧ s.brk.line = false ∧ s.brk.lineTimer = none ∧ s.brk.newest = 31
    ∧ s.page.pEnd = 10000 ∧ s.page.fTurn = 500 ∧ s.page.bTurn = 9500 ∧ s.page.samplePeriod = 1000
    ∧ (∀ off, off < 0x4000 → off % 4 = 0 → s.staged off = defaultPageWord off ∧ s.page off = defaultPageWord off)
    ∧ (∀ a, liveBase ≤ a → a < storeBase → readByte s.mem a = 0)
    ∧ (∀ k : Fin 8, readWord s.mem (frameBase k.val) = freeCode)
    ∧ s.pending = []

/-- State.reset meets the invariants that the steps keep. -/
def Obligations.ResetIsSound : Prop :=
  State.reset.MemoryOk ∧ State.reset.Sound ∧ State.reset.PageOk

/-- A step takes the command at the front of the queue and runs it on the state with the queue's rest. -/
def Obligations.StepTakesFrontCommand : Prop :=
  ∀ (c : Instr) (rest : List Instr) (s : State),
    step { s with pending := c :: rest } = exec c { s with pending := rest }

/-- On an empty queue a step is one microsecond of part time (the model's choice, log entries 3 and 4; R27): while
READY the time counter counts, the running timers count down, and each timer that ends puts its expiry into the queue;
while STARTING nothing counts. A new duty reaches DRV_PWM when a period of 50 µs begins (R48). -/
def Obligations.IdleStepIsOneMicrosecond : Prop :=
  ∀ s : State, s.pending = [] →
    (s.ex.life = .starting → step s = .next s) ∧
    (s.ex.life = .ready → ∃ t, step s = .next t ∧
      t.link.timeCounter = s.link.timeCounter + 1 ∧
      t.link.sampleTimer = s.link.sampleTimer.map (fun n => n - 1) ∧
      t.trav.driveTimer = s.trav.driveTimer.map (fun n => n - 1) ∧
      t.trav.dwellTimer = s.trav.dwellTimer.map (fun n => n - 1) ∧
      t.arb.parkTimer = s.arb.parkTimer.map (fun n => n - 1) ∧
      t.arb.inhibitTimer = s.arb.inhibitTimer.map (fun n => n - 1) ∧
      t.brk.lineTimer = s.brk.lineTimer.map (fun n => n - 1) ∧
      t.trav.pwmDuty = (if 50 ≤ s.trav.pwmPhase + 1 then s.trav.duty else s.trav.pwmDuty) ∧
      t.trav.pwmPhase = (if 50 ≤ s.trav.pwmPhase + 1 then 0 else s.trav.pwmPhase + 1) ∧
      t.pending.Perm s.expiries ∧
      t.pins = s.pins ∧ t.ex = s.ex ∧ t.std = s.std ∧ t.bin = s.bin ∧ t.filters = s.filters ∧ t.alarms = s.alarms ∧
      t.mem = s.mem ∧ t.trav.head = s.trav.head ∧ t.trav.position = s.trav.position ∧ t.trav.duty = s.trav.duty)

/-! ## Invariants that every step keeps -/

/-- Every step keeps the memory's canonical form. -/
def Obligations.StepKeepsMemoryCanonical : Prop :=
  ∀ s t : State, s.MemoryOk → step s = .next t → t.MemoryOk

/-- Every step keeps the agreement of the blocks: open work and the head state (R46, R52, R55, R71, R133, Figure 3-2),
the goal by the claims (R73, R74), the head off the sheet while a break or the link demands that it park (section
4.2), and the command word at the demand (R35). -/
def Obligations.StepKeepsSound : Prop := ∀ s t : State, s.Sound → step s = .next t → t.Sound

/-- Every step keeps the active page valid, every duty per mille, and the open work of a size that its record frame
holds (section 3.1, R9, R11, R48, R52, R123). -/
def Obligations.StepKeepsPageOk : Prop := ∀ s t : State, s.PageOk → step s = .next t → t.PageOk

/-- The active page changes only with the generation: a command either leaves both, or raises the generation by one
(R12); the resets apart. -/
def Obligations.ActivePageChangesWithGeneration : Prop :=
  ∀ (c : Instr) (s t : State), c ≠ .coldReset → c ≠ .starting → exec c s = .next t →
    (t.ex.generation = s.ex.generation ∧ SameBytes t.mem s.mem activeBase liveBase)
      ∨ t.ex.generation = s.ex.generation + 1

/-- The direction of the drive changes only while D is 0 (section 3.2). -/
def Obligations.DirectionChangesOnlyAtRest : Prop :=
  ∀ (c : Instr) (s t : State), exec c s = .next t → t.trav.dir ≠ s.trav.dir → t.trav.duty = 0

/-! ## Frames over all commands -/

/-- The staged page and the not-implemented range are written by the host's writes and by STARTING alone (R1, R5). -/
def Obligations.StagedPageFrame : Prop :=
  ∀ (c : Instr) (s t : State), (∀ wa v, c ≠ .exchangeMemoryWrite wa v) → c ≠ .starting → exec c s = .next t →
    SameBytes t.mem s.mem stagedBase activeBase ∧ SameBytes t.mem s.mem 0x09800 storeBase

/-- The part writes no record frame whose state word does not hold FREE: while it does not, every command but the
host's writes and STARTING leaves all of the frame as it was (R21, R22). -/
def Obligations.RecordFramesAreHosts : Prop :=
  ∀ (c : Instr) (s t : State) (k : Fin 8), s.PageOk → (∀ wa v, c ≠ .exchangeMemoryWrite wa v) →
    (∀ j v, c ≠ .stateWordWrite j v) → c ≠ .starting → exec c s = .next t → readWord s.mem (frameBase k.val) ≠ freeCode →
    SameBytes t.mem s.mem (frameBase k.val) (frameBase k.val + frameSize)

/-- The break history (R177 to R180): a command declares at most one break, giving it the number and the entry that
follow; of the entries only the newest before the command and the newest after it may be written; the resets and the
power-up apart. -/
def Obligations.HistoryFrame : Prop :=
  ∀ (c : Instr) (s t : State), c ≠ .coldReset → c ≠ .starting → exec c s = .next t →
    ((t.brk.number = s.brk.number ∧ t.brk.newest = s.brk.newest) ∨
      (t.brk.number = s.brk.number + 1 ∧ t.brk.newest = s.brk.newest + 1)) ∧
    (∀ i : Fin 32, i ≠ s.brk.newest → i ≠ t.brk.newest →
      SameBytes t.mem s.mem (historyBase + 64 * i.val) (historyBase + 64 * i.val + 64))

/-- What a command leaves as it was, register by register: the queue always; the pins but for the commands of the pins
and the resets; the counters and the host's registers but for the commands that own them; the position but for the
encoder and a homing at the front switch; the fault cause but where HEADFAULT is set; references, edges in use and
filters but for an accepted apply and the events that may end a standardize, close a scan or end a break. -/
def Obligations.RegisterFrames : Prop :=
  ∀ (c : Instr) (s t : State), exec c s = .next t →
    (t.pending = s.pending ∧ t.tieIndex = s.tieIndex) ∧
    ((match c with
      | .coldReset | .starting | .encoderStep _ _ | .frontLimActive | .backLimActive | .drvFaultActive
      | .fieldInputInactive _ | .panelInputChange _ _ | .breakInChange _ => False
      | _ => True) → t.pins = s.pins) ∧
    (c ≠ .coldReset → c ≠ .starting →
      t.link.timeCounter = s.link.timeCounter ∧
      (c ≠ .startUpCompletion → t.ex.life = s.ex.life) ∧
      (c ≠ .restart → t.ex.cause = s.ex.cause) ∧
      ((∀ v, c ≠ .noticeMaskWrite v) → t.ex.mask = s.ex.mask) ∧
      (c ≠ .frameStart → t.link.frameCounter = s.link.frameCounter) ∧
      (c ≠ .mode → (∀ r h, c ≠ .modeReq r h) → t.ex.reqMode = s.ex.reqMode ∧ t.ex.holdPos = s.ex.holdPos) ∧
      (c ≠ .mode → (∀ v, c ≠ .arm v) → t.brk.armed = s.brk.armed) ∧
      (c ≠ .lineDebounceExpiry → c ≠ .startUpCompletion → t.brk.line = s.brk.line) ∧
      ((∀ i, c ≠ .panelDebounceExpiry i) → c ≠ .startUpCompletion → c ≠ .restart →
        t.arb.panelPark = s.arb.panelPark ∧ t.arb.panelInhibit = s.arb.panelInhibit) ∧
      ((∀ a b, c ≠ .encoderStep a b) → c ≠ .frontLimActive →
        t.trav.position = s.trav.position ∨ t.trav.frontLim = true) ∧
      (t.trav.faultCause = s.trav.faultCause ∨ t.noticeSet .headFault = true) ∧
      (t.ex.generation = s.ex.generation → c ≠ .measureEnd → (∀ slots, c ≠ .frameReceived slots) →
        t.std.refs = s.std.refs) ∧
      (t.ex.generation = s.ex.generation → c ≠ .arrival → c ≠ .driveIntervalExpiry → c ≠ .mode →
        (∀ v, c ≠ .breakAck v) → c ≠ .lineDebounceExpiry → c ≠ .breakResume →
        t.bin.edgeFront = s.bin.edgeFront ∧ t.bin.edgeBack = s.bin.edgeBack ∧
        (c ≠ .restart → t.filters = s.filters)))

/-! ## Resets -/

/-- COLD_RESET and STARTING (R25). COLD_RESET: every block takes its cold-reset state with RESET_L active; the other
pins, the memory and the queue are not the reset's (log entry 20). STARTING: the same with RESET_L inactive, the
default page in both pages, FREE in every state word, 0 in the live area and the history, and the other words of the
record frames not written. -/
def Obligations.ColdResetAndStarting : Prop :=
  (∀ s : State, exec .coldReset s = .next
    { State.reset with pins := { s.pins with resetActive := true }, mem := s.mem, tieIndex := s.tieIndex,
                       pending := s.pending }) ∧
  (∀ s : State, s.MemoryOk → ∃ m, exec .starting s = .next
      { State.reset with pins := { s.pins with resetActive := false }, mem := m, tieIndex := s.tieIndex,
                         pending := s.pending } ∧
    Memory.wf m ∧
    (∀ off, off < 0x4000 → off % 4 = 0 →
      readWord m (stagedBase + off) = defaultPageWord off ∧ readWord m (activeBase + off) = defaultPageWord off) ∧
    (∀ a, liveBase ≤ a → a < storeBase → readByte m a = 0) ∧
    (∀ k : Fin 8, readWord m (frameBase k.val) = freeCode) ∧
    (∀ a, storeBase ≤ a → isStateWord (a - a % 4) = false → readByte m a = readByte s.mem a))

/-- START_UP_COMPLETION (R26, R42, R71, R87, R169): from a cold-reset state with RESET_L inactive, READY; the timers
run, the levels are taken, LINK_DOWN stands with value 3, RESTARTED and ALARM are set and no other notice, the goal is
PARK with cause ABORTED, and the head is HOMING. -/
def Obligations.StartUpCompletion : Prop :=
  ∀ s : State, s = { State.reset with pins := s.pins, mem := s.mem, pending := s.pending, tieIndex := s.tieIndex } →
    s.pins.resetActive = false → s.page.samplePeriod = 1000 → s.page.homeMargin = 100 →
    Completes .startUpCompletion s (fun t =>
      t.ex.life = .ready ∧ t.ex.cause = .cold ∧ t.link.sampleTimer = some 1000 ∧ t.trav.driveTimer = some 1000 ∧
      t.trav.frontLim = s.pins.frontLim ∧ t.trav.backLim = s.pins.backLim ∧ t.trav.drvFault = s.pins.drvFault ∧
      t.arb.panelPark = s.pins.panelPark ∧ t.arb.panelInhibit = s.pins.panelInhibit ∧ t.brk.line = s.pins.breakIn ∧
      t.link.up = false ∧
      t.alarms[linkDownAlarm].active = true ∧ t.alarms[linkDownAlarm].lastValue = 3 ∧
      t.alarms[linkDownAlarm].timesRaised = 1 ∧
      t.ex.notice = Notice.restarted.maskBit ||| Notice.alarm.maskBit ∧
      t.arb.goal = .park ∧ t.arb.cause = .aborted ∧ t.arb.granted = (!s.pins.panelInhibit) ∧
      t.trav.head = .homing ∧ t.trav.homed = s.pins.frontLim ∧
      t.trav.position = (if s.pins.frontLim then Word.ofSigned (-100) else 0) ∧
      t.liveWord 0x000 = 1 ∧ t.liveWord 0x014 = 3 ∧ t.liveWord 0x018 = 500 ∧ t.liveWord 0x038 = 1 ∧
      t.liveWord 0x060 = 1000 ∧ t.liveWord 0x064 = 9000)

/-- RESTART (R17, R43, R72, R88, R120, R140, R158, R184): a warm reset from every READY state. -/
def Obligations.WarmReset : Prop :=
  ∀ s : State, s.Sound → s.ex.life = .ready → Completes .restart s (fun t =>
    t.ex.life = .ready ∧ t.ex.cause = .warm ∧ t.ex.applyPending = false ∧ t.ex.gateResult = .none ∧
    t.noticeSet .restarted = true ∧ t.ex.generation = s.ex.generation ∧ t.ex.mask = s.ex.mask ∧
    t.ex.lastRecord = s.ex.lastRecord ∧ t.ex.skipped = s.ex.skipped ∧ t.ex.nextFrame = s.ex.nextFrame ∧
    t.ex.reqMode = s.ex.reqMode ∧ t.ex.holdPos = s.ex.holdPos ∧
    t.bin.scan = none ∧ t.bin.batch = none ∧ t.std.ctx = none ∧ t.std.refs = s.std.refs ∧
    t.std.untried = s.std.untried ∧ t.std.scanCount = s.std.scanCount ∧ t.std.stdNow = s.std.stdNow ∧
    t.bin.edgeFront = s.bin.edgeFront ∧ t.bin.edgeBack = s.bin.edgeBack ∧ t.bin.missFront = s.bin.missFront ∧
    t.bin.missBack = s.bin.missBack ∧ (∀ c : Fin 9, t.filters[c].seeded = false) ∧
    t.link.up = false ∧ t.link.lossCount = 0 ∧ t.link.goodRun = 0 ∧ t.link.echoCount = 0 ∧ t.link.inFlight = none ∧
    t.link.sampleTimer = some s.page.samplePeriod ∧ t.link.timeCounter = s.link.timeCounter ∧
    t.link.frameCounter = s.link.frameCounter ∧ t.link.shutter = false ∧ t.link.ref = false ∧
    t.trav.duty = 0 ∧ t.trav.dir = s.trav.dir ∧ t.trav.driveTimer = some 1000 ∧ t.trav.dwellTimer = none ∧
    t.trav.faultCause = s.trav.faultCause ∧
    t.trav.head = (match s.trav.head with
      | .unhomed | .homing | .faulted => HeadState.homing
      | _ => HeadState.returning) ∧
    t.arb.goal = .park ∧ t.arb.panelPark = s.pins.panelPark ∧ t.arb.panelInhibit = s.pins.panelInhibit ∧
    t.brk.state = s.brk.state ∧ t.brk.armed = s.brk.armed ∧ t.brk.number = s.brk.number ∧ t.brk.latch = s.brk.latch ∧
    t.brk.lowCount = 0 ∧ t.brk.openCount = 0 ∧ t.brk.line = s.brk.line ∧
    t.brk.lineTimer = s.brk.lineTimer.map (fun _ => s.page.debounceMs * 1000) ∧
    (s.link.up = true → t.alarms[linkDownAlarm].active = true ∧ t.alarms[linkDownAlarm].lastValue = 3 ∧
      t.noticeSet .link = true) ∧
    (s.link.up = false → t.alarms = s.alarms) ∧
    SameBytes t.mem s.mem 0 liveBase ∧ SameBytes t.mem s.mem historyBase 0x40000)

/-- While life is STARTING the host's writes and the gate's commands are discarded (R1, R3, R18). -/
def Obligations.StartingDiscardsHostWrites : Prop :=
  ∀ s : State, s.ex.life = .starting →
    exec .apply s = .next s ∧ exec .mode s = .next s ∧ exec .restart s = .next s ∧
    (∀ code, exec (.unknownCode code) s = .next s) ∧
    (∀ v, exec (.noticeWrite v) s = .next s) ∧ (∀ v, exec (.noticeMaskWrite v) s = .next s) ∧
    (∀ r v, exec (.otherRegisterWrite r v) s = .next s) ∧
    (∀ wa v, exec (.exchangeMemoryWrite wa v) s = .next s) ∧ (∀ k v, exec (.stateWordWrite k v) s = .next s)

/-! ## Host writes and reads -/

/-- R18: an unknown code, while READY, is refused with BAD CODE and REFUSED, and nothing else changes; while STARTING
it is discarded, as is every GATE write. -/
def Obligations.UnknownCodeRefused : Prop :=
  ∀ (code : Word) (s : State), code ≠ 1 → code ≠ 2 → code ≠ 3 →
    (s.ex.life = .ready → exec (.unknownCode code) s = .next { s with ex := { s.ex with
      gateResult := .badCode, notice := s.ex.notice ||| 64#13 } }) ∧
    (s.ex.life = .starting → exec (.unknownCode code) s = .next s ∧ exec .apply s = .next s ∧ exec .mode s = .next s ∧
      exec .restart s = .next s)

/-- A write of NOTICE clears the flags written with a one and leaves the others; a write of NOTICE MASK stores the
thirteen bits; nothing else changes; NOTICE_L is asserted exactly while some flag and its mask bit are both set (R19,
R20). A write of PART STATE or of an unused offset changes nothing (R4, R185). -/
def Obligations.NoticeRegisters : Prop :=
  ∀ (v : Word) (s : State), s.ex.life = .ready →
    Completes (.noticeWrite v) s (fun t =>
      (∀ n : Notice, t.noticeSet n = (s.noticeSet n && !v.getLsbD n.bit)) ∧
      t = { s with ex := { s.ex with notice := t.ex.notice } } ∧
      (t.noticeLine = true ↔ ∃ n : Notice, t.noticeSet n = true ∧ t.ex.mask.getLsbD n.bit = true)) ∧
    Completes (.noticeMaskWrite v) s (fun t =>
      (∀ n : Notice, t.ex.mask.getLsbD n.bit = v.getLsbD n.bit) ∧
      t = { s with ex := { s.ex with mask := t.ex.mask } } ∧
      (t.noticeLine = true ↔ ∃ n : Notice, t.noticeSet n = true ∧ t.ex.mask.getLsbD n.bit = true)) ∧
    (∀ sel, exec (.otherRegisterWrite sel v) s = .next s)

/-- A host write of the exchange memory while READY (R1, R21): the staged page and the state word of a frame store the
word as written, whatever they held; every other write is discarded; every other word reads as before, and nothing but
the memory changes. A write that reaches the state word of frame k is the command STATE_WORD_WRITE of k. -/
def Obligations.ExchangeMemoryWrite : Prop :=
  (∀ (wa : BitVec 16) (v : Word) (s : State), s.ex.life = .ready →
    Completes (.exchangeMemoryWrite wa v) s (fun t =>
      (4 * wa.toNat < 0x4000 ∨ (∃ k : Fin 8, 4 * wa.toNat = 0x10000 + k.val * 0x6000) → t.hostReadMem wa = v) ∧
      (¬ (4 * wa.toNat < 0x4000 ∨ ∃ k : Fin 8, 4 * wa.toNat = 0x10000 + k.val * 0x6000) → t = s) ∧
      (∀ wb, wb ≠ wa → t.hostReadMem wb = s.hostReadMem wb) ∧
      t = { s with mem := t.mem })) ∧
  (∀ (k : Fin 8) (v : Word) (s : State), s.ex.life = .ready →
    Completes (.stateWordWrite k v) s (fun t =>
      readWord t.mem (0x10000 + k.val * 0x6000) = v ∧
      (∀ wb : BitVec 16, 4 * wb.toNat ≠ 0x10000 + k.val * 0x6000 → t.hostReadMem wb = s.hostReadMem wb) ∧
      t = { s with mem := t.mem }))

/-- What the host reads (R1, R3, R4, R185, Table 11-1). While READY: each field of GATE, NOTICE, NOTICE MASK and PART
STATE at its place and 0 at every other bit, IDENT, 0 at the unused offsets; every word of the exchange memory as held,
and 0 in the not-implemented range. While STARTING: 0 at GATE, NOTICE, NOTICE MASK and the unused offsets and at every
word of the exchange memory, while PART STATE reads its content with LIFE STARTING. -/
def Obligations.RegisterReads : Prop :=
  (∀ s : State, s.ex.life = .ready →
    (s.hostReadRegister 0).setWidth 8 = s.ex.gateResult.code.setWidth 8 ∧
    (s.hostReadRegister 0).getLsbD 8 = s.ex.applyPending ∧
    (∀ n : Notice, (s.hostReadRegister 1).getLsbD n.bit = s.noticeSet n) ∧
    (∀ n : Notice, (s.hostReadRegister 2).getLsbD n.bit = s.ex.mask.getLsbD n.bit) ∧
    (s.hostReadRegister 3).getLsbD 0 = true ∧
    (s.hostReadRegister 3).getLsbD 1 = decide (s.ex.cause = .warm) ∧
    (s.hostReadRegister 3).getLsbD 2 = s.link.up ∧
    (s.hostReadRegister 3).extractLsb' 4 2 = s.brk.state.code.setWidth 2 ∧
    (s.hostReadRegister 3).extractLsb' 8 4 = s.trav.head.code.setWidth 4 ∧
    s.hostReadRegister 4 = 0x50580C01 ∧
    s.hostReadRegister 5 = 0 ∧ s.hostReadRegister 6 = 0 ∧ s.hostReadRegister 7 = 0 ∧
    (∀ i, 9 ≤ i → (s.hostReadRegister 0).getLsbD i = false) ∧
    (∀ i, 13 ≤ i → (s.hostReadRegister 1).getLsbD i = false ∧ (s.hostReadRegister 2).getLsbD i = false) ∧
    (∀ i, i = 3 ∨ i = 6 ∨ i = 7 ∨ 12 ≤ i → (s.hostReadRegister 3).getLsbD i = false) ∧
    (∀ wa : BitVec 16, s.hostReadMem wa =
      (if 0x09800 ≤ 4 * wa.toNat ∧ 4 * wa.toNat < 0x10000 then 0 else readWord s.mem (4 * wa.toNat)))) ∧
  (∀ s : State, s.ex.life = .starting →
    s.hostReadRegister 0 = 0 ∧ s.hostReadRegister 1 = 0 ∧ s.hostReadRegister 2 = 0 ∧
    (s.hostReadRegister 3).getLsbD 0 = false ∧ (s.hostReadRegister 3).getLsbD 2 = s.link.up ∧
    (s.hostReadRegister 3).extractLsb' 8 4 = s.trav.head.code.setWidth 4 ∧
    s.hostReadRegister 4 = 0x50580C01 ∧
    s.hostReadRegister 5 = 0 ∧ s.hostReadRegister 6 = 0 ∧ s.hostReadRegister 7 = 0 ∧
    ∀ wa, s.hostReadMem wa = 0) ∧
  State.reset.hostReadRegister 3 = 0

/-- Reading the bus write that carries a host command gives the command again, with every operand at every value. -/
def Obligations.BusWriteRoundTrip : Prop :=
  ∀ (c : Instr) (b : BusWrite), c.wf = true → busWriteOf c = some b → decodeBusWrite b = c

/-! ## The gate -/

/-- APPLY by the gate state (R7): BUSY while pending; taken at an apply point; otherwise APPLY PENDING with no result
and no notice. The apply point is judged as the event finds the machine: an apply that makes a standardize start in its
own event counts as taken at one (the model's choice, log entry 27). -/
def Obligations.ApplyByGateState : Prop :=
  ∀ s : State, s.Sound → s.ex.life = .ready →
    (s.ex.applyPending = true → exec .apply s = .next { s with ex := { s.ex with
      gateResult := .busy, notice := s.ex.notice ||| 64#13 } }) ∧
    (s.ex.applyPending = false → s.bin.scan = none → s.trav.head ≠ .standardizing →
      Completes .apply s (fun t => t.ex.applyPending = false ∧ t.ex.gateResult ≠ .busy ∧ t.ex.gateResult ≠ .none ∧
        t.liveWord 0x008 = t.ex.gateResult.code)) ∧
    (s.ex.applyPending = false → s.bin.scan ≠ none ∨ s.trav.head = .standardizing →
      Completes .apply s (fun t => t = { s with ex := { s.ex with applyPending := true }, mem := t.mem } ∧
        t.liveWord 0x004 = 1 ∧ SameBytes t.mem s.mem 0 0x08004 ∧ SameBytes t.mem s.mem 0x08008 0x40000))

/-- A refused apply (R10): of every apply taken, and in the commands APPLY and PENDING_APPLY_TAKEN. The active page,
the generation, the flags and every block keep their values; the gate result and the live apply result are the failing
code, the live offset the offending field's (never 0), the gate IDLE, REFUSED set. -/
def Obligations.RefusedApply : Prop :=
  (∀ (s : State) (code : Result) (off : Nat), validatePage s.staged = some (code, off) →
    off ≠ 0 ∧ s.applyTake.changed = false ∧
    s.applyTake.state = { s with mem := s.applyTake.state.mem, ex := { s.ex with
      applyPending := false, gateResult := code, notice := s.ex.notice ||| 64#13 } } ∧
    s.applyTake.state.liveWord 0x008 = code.code ∧ s.applyTake.state.liveWord 0x00C = BitVec.ofNat 32 off ∧
    SameBytes s.applyTake.state.mem s.mem 0 0x08004 ∧ SameBytes s.applyTake.state.mem s.mem 0x08010 0x40000) ∧
  (∀ (c : Instr) (s : State) (code : Result) (off : Nat), s.Sound → s.ex.life = .ready →
    s.bin.scan = none → s.trav.head ≠ .standardizing →
    (c = .apply ∧ s.ex.applyPending = false) ∨ (c = .pendingApplyTaken ∧ s.ex.applyPending = true) →
    validatePage s.staged = some (code, off) →
    Completes c s (fun t =>
      t = { s with mem := t.mem, ex := { s.ex with
              applyPending := false, gateResult := code, notice := s.ex.notice ||| 64#13 } } ∧
      t.liveWord 0x008 = code.code ∧ t.liveWord 0x00C = BitVec.ofNat 32 off ∧
      (s.ex.applyPending = true → t.liveWord 0x004 = 0) ∧
      SameBytes t.mem s.mem 0 0x08004 ∧ SameBytes t.mem s.mem 0x08010 0x40000))

/-- An accepted apply (R11, R12), in the commands APPLY and PENDING_APPLY_TAKEN: every field of the active page holds
the clamped staged value and every other word of it its old value; the generation is one more, result ACCEPTED, offset
0, gate IDLE, APPLIED set; a running batch is discarded. The changed-group flags PLAN, LINK, STD, FIXED, CHANNELS,
TABLES, LIMITS, BREAK (bits 0 to 7) say whether any word of the group differs from before, the changed mask whether any
word of the channel's record does, and every other bit of both is 0. This holds too of an apply that makes a standardize start in its
own event, which the model takes at an apply point (log entry 27). -/
def Obligations.AcceptedApply : Prop :=
  ∀ (c : Instr) (s : State), s.ex.life = .ready → s.bin.scan = none → s.trav.head ≠ .standardizing →
    (c = .apply ∧ s.ex.applyPending = false) ∨ (c = .pendingApplyTaken ∧ s.ex.applyPending = true) →
    validatePage s.staged = none →
    Completes c s (fun t =>
      (∀ off kind, (off, kind) ∈ pageFields → t.page off = clampField s.staged off kind) ∧
      (∀ off, off < 0x4000 → off % 4 = 0 → (∀ kind, (off, kind) ∉ pageFields) → t.page off = s.page off) ∧
      t.ex.generation = s.ex.generation + 1 ∧ t.ex.gateResult = .accepted ∧ t.ex.applyPending = false ∧
      t.noticeSet .applied = true ∧
      t.liveWord 0x008 = 1 ∧ t.liveWord 0x00C = 0 ∧ t.liveWord 0x024 = s.ex.generation + 1 ∧
      t.liveWord 0x01C = Changes.groupWord ((pageDiffs s.staged s.page).map Prod.fst) ∧
      t.liveWord 0x020 = Changes.channelMask ((pageDiffs s.staged s.page).map Prod.fst) ∧
      (s.trav.head = .holding → t.bin.batch = none) ∧
      let differs := fun lo hi : Nat => ∃ off, lo ≤ off ∧ off < hi ∧ off % 4 = 0 ∧ t.page off ≠ s.page off
      ((t.liveWord 0x01C).getLsbD 0 = true ↔ differs 0x020 0x080) ∧
      ((t.liveWord 0x01C).getLsbD 1 = true ↔ differs 0x080 0x088) ∧
      ((t.liveWord 0x01C).getLsbD 2 = true ↔ differs 0x088 0x094) ∧
      ((t.liveWord 0x01C).getLsbD 3 = true ↔ differs 0x094 0x098) ∧
      ((t.liveWord 0x01C).getLsbD 4 = true ↔ differs 0x100 0x300) ∧
      ((t.liveWord 0x01C).getLsbD 5 = true ↔ differs 0x600 0xE40) ∧
      ((t.liveWord 0x01C).getLsbD 6 = true ↔ differs 0x300 0x540) ∧
      ((t.liveWord 0x01C).getLsbD 7 = true ↔ differs 0x540 0x558) ∧
      (∀ k : Fin 8, (t.liveWord 0x020).getLsbD k.val = true ↔ differs (chanOff k.val 0) (chanOff k.val 64)) ∧
      (∀ i, 8 ≤ i → (t.liveWord 0x01C).getLsbD i = false ∧ (t.liveWord 0x020).getLsbD i = false))

/-- What the blocks do with an accepted apply outside BROKEN (Table 1-5), in the commands APPLY and PENDING_APPLY_TAKEN,
where `differs` says that some word of a range of the active page changed. The link's counts are 0 after a change of the
LINK group (R44). A change of ENCODER_SENSE unhomes a homed head, which takes the goal (R70); otherwise a homed head
outside the new bounds faults with OVERTRAVEL (R66; the order of the two is log entry 31). A channel that leaves the
channel set gets live value 0 and validity DISABLED, the others keep theirs (R103). A change of ENABLE, SLOT, ROLE or FORM
gives the reference NONE, the untried mark by ENABLE and no STD_FAULT; the other channels keep theirs (R107). A change of
the PLAN group gives the plan's edges and miss counts 0 (R138). Filters are unseeded as R142 lists, the others kept. Scan
entries of a changed limit record, or of a channel that left the set, lose their streaks, and are cleared where the kind
is disabled or the channel left; the others keep their content (R168). The break monitor takes the state of the new
enables, counts 0 where the BREAK group or the cue's channel changed, and LINE fires where R173 calls for it (R182). In
BROKEN with the latch set and the LINE condition clear after the apply the monitor resumes. All of it is stated also of
an apply that makes a standardize start in its own event, which the model takes at an apply point (log entry 27). -/
def Obligations.ApplyReactions : Prop :=
  ∀ (c : Instr) (s : State), s.Sound → s.ex.life = .ready → s.bin.scan = none → s.trav.head ≠ .standardizing →
    (c = .apply ∧ s.ex.applyPending = false) ∨ (c = .pendingApplyTaken ∧ s.ex.applyPending = true) →
    validatePage s.staged = none →
    (s.brk.state ≠ .broken → Completes c s (fun t =>
      let differs := fun lo hi : Nat => ∃ off, lo ≤ off ∧ off < hi ∧ off % 4 = 0 ∧ t.page off ≠ s.page off
      let left := fun k : Fin 9 => k ∈ s.page.channelSet ∧ k ∉ t.page.channelSet
      let rereferenced := fun k : Fin 8 => ∃ r ∈ [0x00, 0x04, 0x08, 0x0C], t.page (chanOff k.val r) ≠ s.page (chanOff k.val r)
      let reseeded := differs 0x038 0x03C ∨ differs 0x044 0x048
      let recalibrated := fun k : Fin 8 => differs (chanOff k.val 0) (chanOff k.val 64) ∨
        (t.page.table k.val < 16 ∧ differs (tableOff (t.page.table k.val) 0) (tableOff (t.page.table k.val) 33))
      let dryUnseeded := s.page.dryConfigured ≠ t.page.dryConfigured ∨
        ∃ k, recalibrated k ∧ ∃ role ∈ [roleBw, roleMoist],
          s.page.roleChannel role = some k ∨ t.page.roleChannel role = some k
      let cueMoved := fun role : Word => s.page.roleChannel role ≠ t.page.roleChannel role ∨
        ∃ k, t.page.roleChannel role = some k ∧ differs (chanOff k.val 0) (chanOff k.val 64)
      let outside := s.pos < -(t.page.homeMargin : Int) - 1000 ∨ t.page.pEnd < s.pos
      let watches := s.brk.armed = true ∧ t.page.cueEnables ≠ 0
      let fires := watches ∧ t.page.cueLine = true ∧ s.brk.line = true ∧
        (s.brk.state = .disarmed ∨ s.page.cueLine = false)
      (t.link.up = s.link.up ∧ (differs 0x080 0x088 → t.link.lossCount = 0 ∧ t.link.goodRun = 0) ∧
        (¬ differs 0x080 0x088 → t.link.lossCount = s.link.lossCount ∧ t.link.goodRun = s.link.goodRun)) ∧
      (s.trav.homed = true → t.page 0x058 ≠ s.page 0x058 →
        t.trav.head = (if t.arb.goal = .stop then .unhomed else .homing) ∧ t.trav.duty = 0) ∧
      (s.trav.homed = true → t.page 0x058 = s.page 0x058 → differs 0x020 0x080 → outside →
        t.trav.head = .faulted ∧ t.trav.faultCause = .overtravel ∧ t.trav.duty = 0 ∧ t.trav.homed = false) ∧
      (∀ k : Fin 9,
        (left k → t.liveWord (0x080 + 4 * k.val) = 0 ∧ t.liveWord (0x0C0 + 4 * k.val) = 0) ∧
        (¬ left k → t.liveWord (0x080 + 4 * k.val) = s.liveWord (0x080 + 4 * k.val) ∧
          t.liveWord (0x0C0 + 4 * k.val) = s.liveWord (0x0C0 + 4 * k.val))) ∧
      (∀ k : Fin 8,
        (rereferenced k → t.std.refs[k] = { value := 0, check := 0, accepted := false } ∧
          t.std.untried[k] = t.page.enabled k.val ∧ t.alarms[stdFaultAlarm k].active = false) ∧
        (¬ rereferenced k → t.std.refs[k] = s.std.refs[k] ∧ t.std.untried[k] = s.std.untried[k] ∧
          t.alarms[stdFaultAlarm k] = s.alarms[stdFaultAlarm k])) ∧
      (differs 0x020 0x080 → t.bin.edgeFront = t.page.eFront ∧ t.bin.edgeBack = t.page.eBack ∧
        t.bin.missFront = 0 ∧ t.bin.missBack = 0 ∧ ∀ side, t.alarms[edgeLostAlarm side].active = false) ∧
      (¬ differs 0x020 0x080 → t.bin.edgeFront = s.bin.edgeFront ∧ t.bin.edgeBack = s.bin.edgeBack ∧
        t.bin.missFront = s.bin.missFront ∧ t.bin.missBack = s.bin.missBack) ∧
      (∀ k : Fin 8,
        (reseeded ∨ recalibrated k → t.filters[k.castSucc] = { }) ∧
        (¬ reseeded → ¬ recalibrated k → t.filters[k.castSucc] = s.filters[k.castSucc])) ∧
      (reseeded ∨ dryUnseeded → t.filters[dryChannel] = { }) ∧
      (¬ reseeded → ¬ dryUnseeded → t.filters[dryChannel] = s.filters[dryChannel]) ∧
      (∀ (k : Fin 9) (kind : Fin 4),
        let e := s.alarms[scanAlarm k kind]
        let e' := t.alarms[scanAlarm k kind]
        let changed := differs (limitOff k.val 0) (limitOff k.val 64)
        (changed ∨ left k → e'.violationStreak = 0 ∧ e'.clearStreak = 0 ∧ e'.timesRaised = e.timesRaised ∧
          e'.lastValue = e.lastValue ∧
          (left k ∨ t.page.kindEnabled k.val kind.val = false → e'.active = false) ∧
          (¬ left k → t.page.kindEnabled k.val kind.val = true → e'.active = e.active)) ∧
        (¬ changed → ¬ left k → e' = e)) ∧
      (differs 0x540 0x558 ∨ cueMoved roleBw → t.brk.lowCount = 0) ∧
      (differs 0x540 0x558 ∨ cueMoved roleLight → t.brk.openCount = 0) ∧
      (¬ fires → t.brk.number = s.brk.number ∧ (watches → t.brk.state = .watch) ∧ (¬ watches → t.brk.state = .disarmed) ∧
        (s.brk.state = t.brk.state → ¬ differs 0x540 0x558 →
          (¬ cueMoved roleBw → t.brk.lowCount = s.brk.lowCount) ∧
          (¬ cueMoved roleLight → t.brk.openCount = s.brk.openCount))) ∧
      (fires → t.brk.state = .broken ∧ t.brk.number = s.brk.number + 1 ∧ t.brk.newest = s.brk.newest + 1 ∧
        t.noticeSet .brk = true ∧ t.arb.goal = .park ∧
        readWord t.mem (historyBase + 64 * (s.brk.newest + 1).val + 20) = 4))) ∧
    (s.brk.state = .broken → Completes c s (fun t =>
      (s.brk.latch = true → t.page.cueLine = false ∨ s.brk.line = false →
        t.brk.state = (if s.brk.armed = true ∧ t.page.cueEnables ≠ 0 then .watch else .disarmed) ∧
        t.noticeSet .resumed = true) ∧
      (s.brk.latch = false ∨ (t.page.cueLine = true ∧ s.brk.line = true) →
        t.brk.state = .broken ∧ t.brk.number = s.brk.number ∧ t.brk.latch = s.brk.latch)))

/-- What an apply checks and clamps. The structural checks (R9): the first that fails in the order PLAN, BINS, PERIOD,
SLOTS, ROLES, TABLE, CUE, EDGE gives the result, with the byte offset of the offending field; SLOT, ROLE and TABLE are
looked at in enabled channels only, the lowest-numbered offender first. Clamping (R11, R186): the fields of a page with
the range of each (Table 1-4; the distances and HYST unsigned, log entry 9); a value in the range is kept, one below it
becomes the lower end and one above it the upper end, an unlisted code of an enumerated field becomes the default page's,
which is 0, a bit set keeps its listed bits alone, and DRIFT_LIMIT is clamped by the FORM that is taken. -/
def Obligations.ClampedFields : Prop :=
  (∀ p : Page,
    let on := fun k : Fin 8 => p (chanOff k.val 0x00) = 1
    let slot := fun k : Fin 8 => (p (chanOff k.val 0x04)).toNat
    let role := fun k : Fin 8 => p (chanOff k.val 0x08)
    let table := fun k : Fin 8 => (p (chanOff k.val 0x10)).toNat
    let badPlan := p.pEnd < 2000 ∨ 150000 < p.pEnd ∨ p.fTurn < 0 ∨ p.eFront ≤ p.fTurn ∨ p.eBack ≤ p.eFront ∨
      p.bTurn ≤ p.eBack ∨ p.pEnd < p.bTurn
    let badBins := p.nBins < 16 ∨ 512 < p.nBins ∨ p.eBack - p.eFront < 2 * (p.nBins : Int)
    let badPeriod := p.samplePeriod < 250 ∨ 10000 < p.samplePeriod ∨ p.samplePeriod % 50 ≠ 0
    let outOfRange := fun k : Fin 8 => on k ∧ (slot k < 1 ∨ 8 < slot k)
    let sameSlot := fun k : Fin 8 => on k ∧ ∃ j, j < k ∧ on j ∧ slot j = slot k
    let sameRole := fun k : Fin 8 => on k ∧ (role k = 1 ∨ role k = 2 ∨ role k = 3) ∧ ∃ j, j < k ∧ on j ∧ role j = role k
    let badTable := fun k : Fin 8 => on k ∧ 15 < table k
    let noRole := fun w : Word => ∀ k, on k → role k ≠ w
    let badCue := (p.cueLow = true ∧ noRole 1) ∨ (p.cueOpen = true ∧ noRole 3)
    let badEdge := p 0x044 = 1 ∧ noRole 1
    let first := fun (bad : Fin 8 → Prop) (k : Fin 8) => bad k ∧ ∀ j, j < k → ¬ bad j
    let slotsOk := (∀ k, ¬ outOfRange k) ∧ ∀ k, ¬ sameSlot k
    (p.pEnd < 2000 ∨ 150000 < p.pEnd → validatePage p = some (.badPlan, 0x020)) ∧
    (2000 ≤ p.pEnd → p.pEnd ≤ 150000 →
      (p.fTurn < 0 → validatePage p = some (.badPlan, 0x028)) ∧
      (0 ≤ p.fTurn → p.eFront ≤ p.fTurn → validatePage p = some (.badPlan, 0x02C)) ∧
      (0 ≤ p.fTurn → p.fTurn < p.eFront → p.eBack ≤ p.eFront → validatePage p = some (.badPlan, 0x030)) ∧
      (0 ≤ p.fTurn → p.fTurn < p.eFront → p.eFront < p.eBack → p.bTurn ≤ p.eBack →
        validatePage p = some (.badPlan, 0x034)) ∧
      (0 ≤ p.fTurn → p.fTurn < p.eFront → p.eFront < p.eBack → p.eBack < p.bTurn → p.pEnd < p.bTurn →
        validatePage p = some (.badPlan, 0x020))) ∧
    (¬ badPlan → badBins → validatePage p = some (.badBins, 0x038)) ∧
    (¬ badPlan → ¬ badBins → badPeriod → validatePage p = some (.badPeriod, 0x080)) ∧
    (¬ badPlan → ¬ badBins → ¬ badPeriod →
      (∀ k, first outOfRange k → validatePage p = some (.badSlots, chanOff k.val 0x04)) ∧
      (∀ k, (∀ j, ¬ outOfRange j) → first sameSlot k → validatePage p = some (.badSlots, chanOff k.val 0x04)) ∧
      (∀ k, slotsOk → first sameRole k → validatePage p = some (.badRoles, chanOff k.val 0x08)) ∧
      (∀ k, slotsOk → (∀ j, ¬ sameRole j) → first badTable k → validatePage p = some (.badTable, chanOff k.val 0x10)) ∧
      (slotsOk → (∀ j, ¬ sameRole j) → (∀ j, ¬ badTable j) →
        (badCue → validatePage p = some (.badCue, 0x540)) ∧
        (¬ badCue → badEdge → validatePage p = some (.badEdge, 0x044)) ∧
        (¬ badCue → ¬ badEdge → validatePage p = none)))) ∧
  (∀ (p : Page) (off lo hi : Nat), lo ≤ hi → hi < 2 ^ 32 →
    lo ≤ (clampField p off (.unsignedRange lo hi)).toNat ∧ (clampField p off (.unsignedRange lo hi)).toNat ≤ hi ∧
    (lo ≤ (p off).toNat → (p off).toNat ≤ hi → clampField p off (.unsignedRange lo hi) = p off) ∧
    ((p off).toNat < lo → clampField p off (.unsignedRange lo hi) = BitVec.ofNat 32 lo) ∧
    (hi < (p off).toNat → clampField p off (.unsignedRange lo hi) = BitVec.ofNat 32 hi)) ∧
  (∀ (p : Page) (off : Nat) (lo hi : Int), lo ≤ hi → -2 ^ 31 ≤ lo → hi < 2 ^ 31 →
    lo ≤ (clampField p off (.signedRange lo hi)).toInt ∧ (clampField p off (.signedRange lo hi)).toInt ≤ hi ∧
    (lo ≤ (p off).toInt → (p off).toInt ≤ hi → clampField p off (.signedRange lo hi) = p off) ∧
    ((p off).toInt < lo → clampField p off (.signedRange lo hi) = BitVec.ofInt 32 lo) ∧
    (hi < (p off).toInt → clampField p off (.signedRange lo hi) = BitVec.ofInt 32 hi)) ∧
  (∀ (p : Page) (off : Nat), clampField p off .asWritten = p off ∧
    (∀ n, (off, FieldKind.enumBelow n) ∈ pageFields →
      clampField p off (.enumBelow n) = (if (p off).toNat < n then p off else 0)) ∧
    (∀ (mask : Word) (i : Nat),
      (clampField p off (.bitSet mask)).getLsbD i = ((p off).getLsbD i && mask.getLsbD i)) ∧
    (∀ c : Fin 8, let form := 0x100 + 64 * c.val + 0x0C
      clampField p off (.driftLimit form) = clampField p off (.unsignedRange 1
        (if clampField p form (.enumBelow 2) = 1 then 1048575 else 1000)))) ∧
  (∀ (off : Nat) (kind : FieldKind),
    (off, kind) ∈ pageFields ↔
      (off, kind) ∈ ([
        (0x020, .asWritten), (0x024, .unsignedRange 0 10000), (0x028, .asWritten), (0x02C, .asWritten),
        (0x030, .asWritten), (0x034, .asWritten), (0x038, .asWritten), (0x03C, .unsignedRange 1 255),
        (0x040, .unsignedRange 0 100), (0x044, .enumBelow 2), (0x048, .unsignedRange 0 150000),
        (0x04C, .signedRange (-8388608) 8388607), (0x050, .unsignedRange 1 15), (0x054, .enumBelow 2),
        (0x058, .enumBelow 2), (0x05C, .unsignedRange 0 1000), (0x060, .unsignedRange 0 1000),
        (0x064, .unsignedRange 0 1000), (0x068, .unsignedRange 0 1000), (0x06C, .unsignedRange 0 1000),
        (0x070, .unsignedRange 1 100), (0x074, .unsignedRange 0 150000), (0x078, .unsignedRange 0 5000),
        (0x07C, .unsignedRange 10 2000), (0x080, .asWritten), (0x084, .unsignedRange 4 255),
        (0x088, .unsignedRange 0 255), (0x08C, .unsignedRange 0 4095), (0x090, .unsignedRange 16 4096),
        (0x094, .unsignedRange 10 65535), (0x540, .bitSet 0xF), (0x544, .signedRange (-8388608) 8388607),
        (0x548, .signedRange (-8388608) 8388607), (0x54C, .unsignedRange 1 255), (0x550, .unsignedRange 1 255),
        (0x554, .unsignedRange 1 250)] : List (Nat × FieldKind)) ∨
      (∃ c : Fin 8, ∃ r, off = 0x100 + 64 * c.val + r ∧ (r, kind) ∈ ([
        (0x00, .enumBelow 2), (0x04, .asWritten), (0x08, .enumBelow 4), (0x0C, .enumBelow 2), (0x10, .asWritten),
        (0x14, .unsignedRange 1 256), (0x18, .enumBelow 2), (0x1C, .driftLimit (0x100 + 64 * c.val + 0x0C)),
        (0x20, .signedRange (-1048575) 1048575), (0x24, .unsignedRange 0 1048575)] : List (Nat × FieldKind))) ∨
      (∃ k : Fin 9, ∃ r, off = 0x300 + 64 * k.val + r ∧ (r, kind) ∈ ([
        (0x00, .bitSet 0xF), (0x04, .signedRange (-8388608) 8388607), (0x08, .signedRange (-8388608) 8388607),
        (0x0C, .signedRange (-8388608) 8388607), (0x10, .signedRange (-8388608) 8388607),
        (0x14, .unsignedRange 0 8388607), (0x18, .unsignedRange 1 512), (0x1C, .unsignedRange 1 15),
        (0x20, .unsignedRange 1 15), (0x24, .bitSet (if k = 8 then 0xFF else 0x1F))] : List (Nat × FieldKind))) ∨
      (∃ (b : Fin 16) (i : Fin 33), off = 0x600 + 132 * b.val + 4 * i.val ∧ kind = .signedRange (-8388608) 8388607))

/-- A MODE write while READY (R13 to R16). The gate result and the live mode result are the first problem in the order
of the fields, and REFUSED is set when there is one; where the write brings about a pending apply in its event, that the
mode result is the later one is log entry 30. A write that repeats the requested mode PARK, STOP or HOME, with no
STD_NOW, no acknowledgement and the armed flag held, concludes ACCEPTED and changes nothing else but the live request. -/
def Obligations.ModeWrite : Prop :=
  (∀ s : State, s.ex.life = .ready →
    let p := s.staged
    let s1 := s.takeRequests p.modeReq p.modeHoldPos p.modeStdNow
    let s2 := s1.takeBreakAck p.modeBreakAck
    let r : Result :=
      if s.modeReqResult p.modeReq ≠ .accepted then s.modeReqResult p.modeReq
      else if p.modeBreakAck ≠ 0 ∧ p.modeBreakAck ≠ s1.brk.number then .staleAck
      else if p.modeFaultAck ≠ 0 ∧ s2.trav.head = .faulted ∧ s2.trav.drvFault = true then .faultPersists
      else .accepted
    Completes .mode s (fun t => t.ex.gateResult = r ∧ t.liveWord 0x010 = r.code ∧
      (r ≠ .accepted → t.noticeSet .refused = true))) ∧
  (∀ s : State, s.Sound → s.ex.life = .ready → s.arb.granted = (!s.arb.panelInhibit) →
    (s.ex.reqMode = .park ∨ s.ex.reqMode = .stop ∨ s.ex.reqMode = .home) →
    s.staged.modeReq = s.ex.reqMode.code → s.staged.modeStdNow = 0 → s.staged.modeBreakAck = 0 →
    s.staged.modeFaultAck = 0 → decide (s.staged.modeArm ≠ 0) = s.brk.armed →
    Completes .mode s (fun t =>
      t = { s with mem := t.mem, ex := { s.ex with gateResult := .accepted }, arb := t.arb } ∧
      t.arb = { s.arb with holdPos := t.arb.holdPos } ∧
      SameBytes t.mem s.mem 0 0x08010 ∧ SameBytes t.mem s.mem 0x08018 0x40000))

/-- MODE_REQ (R14; the field by itself, log entry 2): a value that is no request is refused with BAD MODE; SCAN and
HOLD with no enabled channel are refused with NO CHANNELS; a refusal changes nothing but the result. An accepted
request is held and shown, with HOLD_POS clamped and taken for HOLD alone (its result stands in the gate result also where
the request brings about a pending apply: log entry 30). The head takes an accepted request in the event, where no park
demand stands, no standardize is due and the panel permits departure: from PARKED under SCAN it departs OUTBOUND, under
HOLD it goes MOVING_TO_HOLD; from STANDING under SCAN it departs by the side of the middle it is on, under PARK it goes
RETURNING (R57, R58); a traverse is aborted with one record of outcome ABORTED that carries the direction, start time,
edges, N_BINS and first-after-break flag of its context (R61, R152, R154); a batch is discarded without a record (R63,
R135). The goal HOME ends a standardize: its STDZ record has outcome ABORTED with every channel ABANDONED, the references
stay, and the head goes HOMING (R62, R118, R119, `StdEndedEarly`). -/
def Obligations.ModeReq : Prop :=
  (∀ (holdPos : Word) (s : State), s.Sound → s.ex.life = .ready → s.brk.state ≠ .broken → s.link.up = true →
    s.arb.panelPark = false → s.arb.panelInhibit = false → s.std.due = false → s.std.stdNow = false →
    s.ex.applyPending = false → s.page.enabledChannels ≠ [] →
    let opens := fun (d : ScanDir) (t : State) => ∃ ctx, t.bin.scan = some ctx ∧ ctx.dir = d ∧
      ctx.startTime = s.link.timeCounter ∧ ctx.startPos = s.trav.position ∧ t.liveWord 0x058 = 1
    (s.trav.head = .parked → s.arb.goal = .park →
      Completes (.modeReq 1 holdPos) s (fun t => t.trav.head = .outbound ∧ t.arb.goal = .scan ∧ opens .outbound t) ∧
      Completes (.modeReq 2 holdPos) s (fun t => t.trav.head = .movingToHold ∧ t.arb.goal = .hold ∧ t.bin = s.bin ∧
        t.link.shutter = true)) ∧
    (s.trav.head = .standing → s.arb.goal = .stop →
      Completes (.modeReq 1 holdPos) s (fun t =>
        if s.pos ≤ (s.page.fTurn + s.page.bTurn) / 2 then t.trav.head = .outbound ∧ opens .outbound t
        else t.trav.head = .inbound ∧ opens .inbound t) ∧
      Completes (.modeReq 3 holdPos) s (fun t => t.trav.head = .returning ∧ t.arb.goal = .park ∧ t.bin = s.bin)) ∧
    (s.trav.head = .outbound ∨ s.trav.head = .inbound → s.arb.goal = .scan →
      ∀ p ∈ [((2 : Word), HeadState.movingToHold), (3, .returning), (4, .stopping), (5, .homing)],
        Completes (.modeReq p.1 holdPos) s (fun t =>
          t.trav.head = p.2 ∧ t.bin.scan = none ∧ t.liveWord 0x058 = 0 ∧ t.ex.lastRecord = s.ex.lastRecord + 1 ∧
          t.filters = s.filters ∧ t.std.scanCount = s.std.scanCount ∧
          ∀ k, findFree s.mem s.ex.nextFrame = some k →
            let word := fun i => readWord t.mem (frameBase k.val + 4 * i)
            word 0 = readyCode ∧ word 1 = 1 ∧ word 2 = s.ex.lastRecord + 1 ∧ word 4 = 6 ∧ word 6 = s.ex.generation ∧
            word 8 = s.link.timeCounter ∧ word 12 = 0 ∧ word 14 = 0 ∧ word 15 = 16 ∧
            ∀ ctx, s.bin.scan = some ctx →
              word 5 = (if ctx.dir = .outbound then 1 else 2) ∧ word 7 = ctx.startTime ∧
              word 9 = BitVec.ofInt 32 ctx.front ∧ word 10 = BitVec.ofInt 32 ctx.back ∧
              word 11 = BitVec.ofNat 32 ctx.nBins ∧ word 13 = (if ctx.firstAfterBreak = true then 1 else 0))) ∧
    (s.trav.head = .holding → s.arb.goal = .hold →
      Completes (.modeReq 3 holdPos) s (fun t =>
        t.trav.head = .returning ∧ t.bin.batch = none ∧ t.ex.lastRecord = s.ex.lastRecord))) ∧
  (∀ (holdPos : Word) (s : State) (ctx : StdCtx), s.Sound → s.ex.life = .ready → s.brk.state ≠ .broken →
    s.link.up = true → s.arb.panelPark = false → s.arb.goal ≠ .home → s.std.ctx = some ctx →
    Completes (.modeReq 5 holdPos) s (fun t =>
      StdEndedEarly ctx 6 6 s t ∧
      (s.ex.applyPending = false → t.arb.goal = .home ∧ t.trav.head = .homing ∧ t.link.shutter = false ∧
        t.link.ref = false))) ∧
  ∀ (req holdPos : Word) (s : State), s.Sound → s.ex.life = .ready →
    ((req = 0 ∨ 5 < req.toNat) → Completes (.modeReq req holdPos) s (fun t =>
      t = { s with mem := t.mem, ex := { s.ex with gateResult := .badMode, notice := s.ex.notice ||| 64#13 } } ∧
      t.liveWord 0x010 = 11 ∧ SameBytes t.mem s.mem 0 0x08010 ∧ SameBytes t.mem s.mem 0x08014 0x40000)) ∧
    ((req = 1 ∨ req = 2) → s.page.enabledChannels = [] → Completes (.modeReq req holdPos) s (fun t =>
      t = { s with mem := t.mem, ex := { s.ex with gateResult := .noChannels, notice := s.ex.notice ||| 64#13 } } ∧
      t.liveWord 0x010 = 12 ∧ SameBytes t.mem s.mem 0 0x08010 ∧ SameBytes t.mem s.mem 0x08014 0x40000)) ∧
    (1 ≤ req.toNat → req.toNat ≤ 5 → (req.toNat ≤ 2 → s.page.enabledChannels ≠ []) →
      Completes (.modeReq req holdPos) s (fun t =>
        t.ex.reqMode.code = req ∧ t.liveWord 0x014 = req ∧ t.ex.gateResult = .accepted ∧ t.liveWord 0x010 = 1 ∧
        t.ex.holdPos = (if req = 2 then clampInt s.page.fTurn s.page.bTurn holdPos.toInt else s.ex.holdPos) ∧
        t.arb.goal = t.claimedGoal))

/-- STD_NOW (R15, R110, R74; the field by itself, log entry 2): a nonzero value makes STD_NOW pending, which gives the
goal STANDARDIZE under PARK, SCAN and HOLD where no park demand stands, and with the head PARKED the standardize starts
in the event (R111); 0 hands nothing. The premise on the departure permission is the invariant that GoalByClaims states:
a run keeps it. -/
def Obligations.StdNow : Prop :=
  ∀ (v : Word) (s : State), s.Sound → s.ex.life = .ready →
    (v ≠ 0 → s.arb.granted = !s.arb.panelInhibit → Completes (.stdNow v) s (fun t =>
      t.std.stdNow = true ∧ t.ex.gateResult = .accepted ∧ t.ex.reqMode = s.ex.reqMode ∧
      (s.brk.state ≠ .broken → s.link.up = true → s.arb.panelPark = false → s.ex.reqMode ≠ .stop →
        s.ex.reqMode ≠ .home → t.arb.goal = .standardize ∧
          (s.trav.head = .parked → t.trav.head = .standardizing ∧ t.link.shutter = true ∧ t.link.ref = false ∧
            ∃ ctx, t.std.ctx = some ctx ∧ ctx.phase = .settleOpen ∧ ctx.count = 0 ∧
              ctx.startTime = s.link.timeCounter ∧ ctx.chans.map StdChan.chan = s.page.enabledChannels)))) ∧
    (v = 0 → Completes (.stdNow v) s (fun t =>
      t = { s with mem := t.mem, ex := { s.ex with gateResult := .accepted } } ∧ t.liveWord 0x010 = 1 ∧
      SameBytes t.mem s.mem 0 0x08010 ∧ SameBytes t.mem s.mem 0x08014 0x40000))

/-- FAULT_ACK (R15, R55, R68, R85; the field by itself, log entry 2): with the head not FAULTED, or the value 0,
nothing is handed; with DRV_FAULT_L active it is ignored with FAULT PERSISTS; otherwise the head leaves FAULTED for
UNHOMED, where it stays under STOP, and else begins homing in the same event. -/
def Obligations.FaultAck : Prop :=
  ∀ (v : Word) (s : State), s.Sound → s.ex.life = .ready →
    ((v = 0 ∨ s.trav.head ≠ .faulted) → Completes (.faultAck v) s (fun t =>
      t = { s with mem := t.mem, ex := { s.ex with gateResult := .accepted } } ∧ t.liveWord 0x010 = 1 ∧
      SameBytes t.mem s.mem 0 0x08010 ∧ SameBytes t.mem s.mem 0x08014 0x40000)) ∧
    (v ≠ 0 → s.trav.head = .faulted → s.trav.drvFault = true → Completes (.faultAck v) s (fun t =>
      t = { s with mem := t.mem, ex := { s.ex with gateResult := .faultPersists, notice := s.ex.notice ||| 64#13 } } ∧
      t.liveWord 0x010 = 14 ∧ SameBytes t.mem s.mem 0 0x08010 ∧ SameBytes t.mem s.mem 0x08014 0x40000)) ∧
    (v ≠ 0 → s.trav.head = .faulted → s.trav.drvFault = false → Completes (.faultAck v) s (fun t =>
      t.trav.head = (if s.arb.goal = .stop then .unhomed else .homing) ∧ t.trav.duty = 0 ∧
      t.trav.homed = (decide (s.arb.goal ≠ .stop) && s.trav.frontLim) ∧
      t.trav.position = (if s.arb.goal ≠ .stop ∧ s.trav.frontLim = true
        then Word.ofSigned (-(s.page.homeMargin : Int)) else s.trav.position) ∧
      t.trav.faultCause = s.trav.faultCause ∧ t.arb = s.arb ∧ t.ex.gateResult = .accepted ∧
      t.ex.notice = s.ex.notice ∧ t.liveWord 0x010 = 1 ∧ t.liveWord 0x038 = t.trav.head.code ∧
      SameBytes t.mem s.mem 0 0x08010 ∧ SameBytes t.mem s.mem 0x08014 0x08038 ∧ SameBytes t.mem s.mem 0x0803C 0x40000))

/-- BREAK_ACK (R15, R179; the field by itself, log entry 2): 0 hands nothing; a value that is not the break number is
ignored with STALE ACK; a matching one outside BROKEN or with the latch set changes nothing, so ACK_TIME keeps the first
acknowledgement; in BROKEN with the latch clear it sets the latch and writes ACK_TIME of the newest entry, and with the
LINE condition clear the monitor leaves BROKEN and writes RESUME_TIME (R180; where no pending apply is taken in the same
event). ARM (R15, R175, R173; the same): the armed flag takes the value. The value held changes nothing; in BROKEN the
state stands; from WATCH the flag 0 gives DISARMED; from DISARMED with a cue enabled the flag 1 gives WATCH, unless LINE
is enabled with its level active, which declares a break (where the break brings about a pending apply, that the mode
result is the later one is log entry 30); with no cue enabled the flag alone changes. What is said to
change nothing leaves every byte of memory but the live mode result. -/
def Obligations.BreakAckAndArm : Prop :=
  ∀ (v : Word) (s : State), s.Sound → s.ex.life = .ready →
    let ackTime := historyAddr s.brk.newest + 36
    let resultOnly := fun t : State => SameBytes t.mem s.mem 0 0x08010 ∧ SameBytes t.mem s.mem 0x08014 0x40000
    let stateToo := fun t : State => SameBytes t.mem s.mem 0 0x08010 ∧ SameBytes t.mem s.mem 0x08014 0x0804C ∧
      SameBytes t.mem s.mem 0x08050 0x40000
    ((v = 0 ∨ (v = s.brk.number ∧ (s.brk.state ≠ .broken ∨ s.brk.latch = true))) →
      Completes (.breakAck v) s (fun t =>
        t = { s with mem := t.mem, ex := { s.ex with gateResult := .accepted } } ∧ t.liveWord 0x010 = 1 ∧
        resultOnly t ∧ readWord t.mem ackTime = readWord s.mem ackTime)) ∧
    (v ≠ 0 → v ≠ s.brk.number → Completes (.breakAck v) s (fun t =>
      t = { s with mem := t.mem, ex := { s.ex with gateResult := .staleAck, notice := s.ex.notice ||| 64#13 } } ∧
      t.liveWord 0x010 = 13 ∧ resultOnly t)) ∧
    (v ≠ 0 → v = s.brk.number → s.brk.state = .broken → s.brk.latch = false → s.page.cueLine = true →
      s.brk.line = true → Completes (.breakAck v) s (fun t =>
        t = { s with mem := t.mem, ex := { s.ex with gateResult := .accepted }, brk := { s.brk with latch := true } } ∧
        t.liveWord 0x010 = 1 ∧ readWord t.mem ackTime = s.link.timeCounter ∧ SameBytes t.mem s.mem 0 0x08010 ∧
        SameBytes t.mem s.mem 0x08014 ackTime ∧ SameBytes t.mem s.mem (ackTime + 4) 0x40000)) ∧
    (v ≠ 0 → v = s.brk.number → s.brk.state = .broken → s.brk.latch = false →
      (s.page.cueLine = false ∨ s.brk.line = false) → (s.ex.applyPending = false ∨ s.trav.head ≠ .standardizing) →
      Completes (.breakAck v) s (fun t =>
        t.brk.latch = true ∧
        t.brk.state = (if s.brk.armed = true ∧ s.page.cueEnables ≠ 0 then .watch else .disarmed) ∧
        readWord t.mem ackTime = s.link.timeCounter ∧ readWord t.mem (ackTime + 4) = s.link.timeCounter ∧
        t.noticeSet .resumed = true ∧ t.ex.gateResult = .accepted ∧ t.liveWord 0x010 = 1 ∧
        SameBytes t.mem s.mem 0 liveBase ∧ SameBytes t.mem s.mem historyBase ackTime ∧
        SameBytes t.mem s.mem (ackTime + 8) storeBase)) ∧
    (s.brk.armed = decide (v ≠ 0) → Completes (.arm v) s (fun t =>
      t = { s with mem := t.mem, ex := { s.ex with gateResult := .accepted } } ∧ t.liveWord 0x010 = 1 ∧
      resultOnly t)) ∧
    (s.brk.armed ≠ decide (v ≠ 0) → s.brk.state = .broken ∨ (s.brk.state = .disarmed ∧ s.page.cueEnables = 0) →
      Completes (.arm v) s (fun t =>
        t = { s with mem := t.mem, ex := { s.ex with gateResult := .accepted }, brk := { s.brk with
                armed := !s.brk.armed } } ∧ t.liveWord 0x010 = 1 ∧ resultOnly t)) ∧
    (s.brk.armed = true → v = 0 → s.brk.state = .watch → Completes (.arm v) s (fun t =>
      t = { s with mem := t.mem, ex := { s.ex with gateResult := .accepted }, brk := { s.brk with
              armed := false, state := .disarmed, lowCount := 0, openCount := 0 } } ∧
      t.liveWord 0x010 = 1 ∧ t.liveWord 0x04C = 0 ∧ stateToo t)) ∧
    (s.brk.armed = false → v ≠ 0 → s.brk.state = .disarmed → s.page.cueEnables ≠ 0 →
      (s.page.cueLine = false ∨ s.brk.line = false) → Completes (.arm v) s (fun t =>
        t = { s with mem := t.mem, ex := { s.ex with gateResult := .accepted }, brk := { s.brk with
                armed := true, state := .watch, lowCount := 0, openCount := 0 } } ∧
        t.liveWord 0x010 = 1 ∧ t.liveWord 0x04C = 1 ∧ stateToo t)) ∧
    (s.brk.armed = false → v ≠ 0 → s.brk.state = .disarmed → s.page.cueLine = true → s.brk.line = true →
      Completes (.arm v) s (fun t =>
        t.brk.armed = true ∧ t.brk.state = .broken ∧ t.brk.number = s.brk.number + 1 ∧ t.brk.newest = s.brk.newest + 1 ∧
        t.arb.goal = .park ∧ t.noticeSet .brk = true ∧ t.ex.gateResult = .accepted ∧
        readWord t.mem (historyBase + 64 * (s.brk.newest + 1).val + 20) = 4))

/-! ## The head link -/

/-- A frame start while READY (R27, R28, R29): the timer restarts with the active page's period, the frame is numbered
and latched, and the live counters and position are written; nothing else changes. While STARTING no frame starts. -/
def Obligations.FrameStart : Prop :=
  ∀ s : State,
    (s.ex.life = .ready → Completes .frameStart s (fun t =>
      t = { s with mem := t.mem, link := { s.link with
            sampleTimer := some s.page.samplePeriod, frameCounter := s.link.frameCounter + 1
            inFlight := some {
              number := s.link.frameCounter + 1, startTime := s.link.timeCounter, position := s.trav.position
              head := s.trav.head, slotCount := s.page.slotCount, seq := s.link.seq, shutter := s.link.shutter
              ref := s.link.ref, sinceCommand := true, sinceScanOpen := true, sinceBatchStart := true } } } ∧
      t.liveWord 0x030 = s.link.timeCounter ∧ t.liveWord 0x034 = s.link.frameCounter + 1 ∧
      t.liveWord 0x044 = s.trav.position ∧ SameBytes t.mem s.mem 0 0x08030 ∧ SameBytes t.mem s.mem 0x08038 0x08044 ∧
      SameBytes t.mem s.mem 0x08048 0x40000)) ∧
    (s.ex.life = .starting → exec .frameStart s = .next s)

/-- A frame-received event (R31, R38, R41): the frame is no longer in flight; with a received status word, no apply
pending and no echo timeout due, the loss count is 0, the good-frame run one more up to 255, and the last TEMP_ALARM
the word's; where that value is new, the HEAD_TEMP entry is raised with value 1 or cleared with value 0, else it stands;
a link that was DOWN is UP when the run reaches 8. With an ABSENT status word, on the same terms, the good-frame run is 0,
the last TEMP_ALARM and the entry stand, and the loss count is one more up to 255; an UP link whose count reaches
LINK_LOSS goes DOWN with cause LOSS, with its counts 0, the alarm entry, the notice and the goal PARK (R38, R40). -/
def Obligations.FrameReceivedCounts : Prop :=
  (∀ (slots : List SlotRx) (s : State) (f : Frame), s.Sound → s.ex.life = .ready →
    s.link.inFlight = some f → slotWord slots f.slotCount 0 = none → s.ex.applyPending = false →
    s.link.echoCount + 1 < 200 → 1 ≤ s.page.linkLoss →
    let losses := min 255 (s.link.lossCount + 1)
    Completes (.frameReceived slots) s (fun t =>
      t.link.inFlight = none ∧ t.link.goodRun = 0 ∧ t.link.lastTempAlarm = s.link.lastTempAlarm ∧
      t.alarms[headTempAlarm] = s.alarms[headTempAlarm] ∧
      (s.link.up = true ∧ s.page.linkLoss ≤ losses → t.link.up = false ∧ t.link.lossCount = 0 ∧
        t.alarms[linkDownAlarm].active = true ∧ t.alarms[linkDownAlarm].lastValue = 1 ∧ t.noticeSet .link = true ∧
        t.liveWord 0x02C = 0 ∧ t.arb.goal = .park) ∧
      (s.link.up = false ∨ losses < s.page.linkLoss → t.link.up = s.link.up ∧ t.link.lossCount = losses))) ∧
  ∀ (slots : List SlotRx) (s : State) (f : Frame) (w : SlotWord), s.Sound → s.ex.life = .ready →
    s.link.inFlight = some f → slotWord slots f.slotCount 0 = some w → s.ex.applyPending = false →
    s.link.echoCount + 1 < 200 → 1 ≤ s.page.linkLoss →
    Completes (.frameReceived slots) s (fun t =>
      t.link.inFlight = none ∧ t.link.lossCount = 0 ∧ t.link.goodRun = min 255 (s.link.goodRun + 1) ∧
      t.link.lastTempAlarm = w.getLsbD 7 ∧
      t.link.up = (s.link.up || decide (8 ≤ min 255 (s.link.goodRun + 1))) ∧
      (s.link.up = true → t.noticeSet .link = s.noticeSet .link) ∧
      let old := s.alarms[headTempAlarm]
      let new := t.alarms[headTempAlarm]
      (w.getLsbD 7 = s.link.lastTempAlarm → new = old) ∧
      (w.getLsbD 7 ≠ s.link.lastTempAlarm → new.active = w.getLsbD 7 ∧
        new.lastValue = (if w.getLsbD 7 = true then 1 else 0) ∧
        new.timesRaised = (if w.getLsbD 7 = true ∧ old.active = false then min 65535 (old.timesRaised + 1)
          else old.timesRaised) ∧
        (old.active ≠ w.getLsbD 7 → new.lastChange = s.link.timeCounter ∧ t.noticeSet .alarm = true)))

/-- The echo check (R36): a received ECHO equal to SEQ clears the echo and its count; any other frame that started
after the last change counts one; while no echo is pending nothing is done. A frame is measurement-valid exactly when
its status word is received with READY 1 and SHUTTER_OPEN 1 and no echo is pending, and for a frame latched
STANDARDIZING REF_IN equals the command word's REF (R37). -/
def Obligations.EchoAndValidity : Prop :=
  (∀ (f : Frame) (status : Option SlotWord) (s : State),
    (s.link.echoPending = false → s.echoCheck f status = s) ∧
    (∀ w, s.link.echoPending = true → status = some w → w.setWidth 4 = s.link.seq →
      s.echoCheck f status = { s with link := { s.link with echoPending := false, echoCount := 0 } }) ∧
    (s.link.echoPending = true → (∀ w, status = some w → w.setWidth 4 ≠ s.link.seq) →
      s.echoCheck f status = { s with link := { s.link with
        echoCount := s.link.echoCount + (if f.sinceCommand then 1 else 0) } })) ∧
  (∀ (f : Frame) (status : Option SlotWord) (s : State),
    s.frameValid f status = true ↔
      ∃ w, status = some w ∧ w.getLsbD 6 = true ∧ w.getLsbD 4 = true ∧ s.link.echoPending = false ∧
        (f.head = .standardizing → w.getLsbD 5 = s.link.ref))

/-- The sample of a channel (R91): the first cause that applies in the order ABSENT, NOT_MEASURING, STALE (bit 20), SAT
(bit 21), UNREFERENCED, else USABLE; it is converted exactly when its slot was received and its reference is ACCEPTED
(R92). The live validity of every enabled channel after a frame-received event with no apply pending is the code of the
channel's sample, judged after the event's echo check, and its live value the converted value, or what it was where the
sample was not converted (R102). -/
def Obligations.FrameWritesLiveValidity : Prop :=
  (∀ (p : Page) (refs : Vector RefRecord 8) (slots : List SlotRx) (n : Nat) (valid : Bool) (c : Fin 8),
    let x := sampleOf p refs slots n valid c
    x.chan = c.castSucc ∧
    (slotWord slots n (p.slot c.val) = none → x.validity = .absent ∧ x.value = none) ∧
    (∀ w, slotWord slots n (p.slot c.val) = some w →
      (valid = false → x.validity = .notMeasuring) ∧
      (valid = true → w.getLsbD 20 = true → x.validity = .stale) ∧
      (valid = true → w.getLsbD 20 = false → w.getLsbD 21 = true → x.validity = .sat) ∧
      (valid = true → w.getLsbD 20 = false → w.getLsbD 21 = false → refs[c].accepted = false →
        x.validity = .unreferenced) ∧
      (valid = true → w.getLsbD 20 = false → w.getLsbD 21 = false → refs[c].accepted = true → x.validity = .usable) ∧
      x.value = (if refs[c].accepted = true then some (convertRaw p c refs[c].value (w.setWidth 20 : BitVec 20).toNat)
        else none))) ∧
  ∀ (slots : List SlotRx) (s : State) (f : Frame) (c : Fin 8), s.Sound → s.ex.life = .ready →
    s.link.inFlight = some f → s.ex.applyPending = false → s.page.enabled c = true →
    Completes (.frameReceived slots) s (fun t =>
      let status := slotWord slots f.slotCount 0
      let valid := ((({ s with link.inFlight := none } : State).echoCheck f status).countFrame
        status.isSome).frameValid f status
      let x := sampleOf s.page s.std.refs slots f.slotCount valid c
      t.liveWord (0x0C0 + 4 * c.val) = x.validity.code ∧
      t.liveWord (0x080 + 4 * c.val) = (match x.value with
        | some v => BitVec.ofInt 32 v
        | none => s.liveWord (0x080 + 4 * c.val)))

/-- The link rows. Echo timeout (R36): the count returns to 0 and the echo stays pending; an UP link goes DOWN with
cause NO ECHO, a DOWN link stays as it is. Loss (R38, R40): the counts, the alarm entry, the notice, the live word,
the goal PARK; a scan, a batch and a standardize end with one record, and the head leaves the sheet. The link going UP
(R38, R39): the live word, the alarm entry cleared with its last value kept, the notice, the goal by the claims. A
standardize that the link ends leaves its STDZ record with outcome LINK and every channel NODATA, its references as they
were, and the head PARKED (R118, R119, `StdEndedEarly`). -/
def Obligations.LinkStateRows : Prop :=
  ∀ s : State, s.Sound → s.ex.life = .ready →
    let stdEnds := fun t : State => ∀ ctx, s.std.ctx = some ctx → StdEndedEarly ctx 4 2 s t ∧
      (s.ex.applyPending = false → t.trav.head = .parked ∧ t.link.shutter = false ∧ t.link.ref = false)
    (s.link.echoPending = true → 200 ≤ s.link.echoCount →
      (s.link.up = true → Completes .echoTimeout s (fun t =>
      t.link.up = false ∧ t.link.echoPending = true ∧ t.link.echoCount = 0 ∧ t.link.lossCount = 0 ∧ t.link.goodRun = 0 ∧
      t.alarms[linkDownAlarm].active = true ∧ t.alarms[linkDownAlarm].lastValue = 2 ∧ t.noticeSet .link = true ∧
      t.arb.goal = .park ∧ t.bin.scan = none ∧ t.bin.batch = none ∧ t.std.ctx = none ∧ stdEnds t)) ∧
      (s.link.up = false → exec .echoTimeout s = .next { s with link := { s.link with echoCount := 0 } })) ∧
    (s.link.up = true → s.page.linkLoss ≤ s.link.lossCount →
      Completes .linkGoesDown s (fun t =>
      t.link.up = false ∧ t.link.lossCount = 0 ∧ t.link.goodRun = 0 ∧ t.link.echoCount = 0 ∧ t.liveWord 0x02C = 0 ∧
      t.alarms[linkDownAlarm].active = true ∧ t.alarms[linkDownAlarm].lastValue = 1 ∧ t.noticeSet .link = true ∧
      t.arb.goal = .park ∧ t.bin.scan = none ∧ t.bin.batch = none ∧ t.std.ctx = none ∧
      t.trav.head.shutterOpen = false ∧ t.trav.head ≠ .standardizing ∧
      t.ex.lastRecord = s.ex.lastRecord
        + (if s.bin.scan.isSome || s.bin.batch.isSome || s.std.ctx.isSome then 1 else 0) ∧ stdEnds t)) ∧
    (s.link.up = false → 8 ≤ s.link.goodRun →
      Completes .linkGoesUp s (fun t =>
      t.link.up = true ∧ t.liveWord 0x02C = 1 ∧ t.alarms[linkDownAlarm].active = false ∧
      t.alarms[linkDownAlarm].lastValue = s.alarms[linkDownAlarm].lastValue ∧ t.noticeSet .link = true ∧
      t.arb.goal = t.claimedGoal ∧ t.link.timeCounter = s.link.timeCounter))

/-- The rows that stand for a threshold leave the state as it is while their condition does not hold, as do
FRAME_RECEIVED with no frame in flight and START_UP_COMPLETION outside STARTING (the model's choice, log entry 1). -/
def Obligations.ThresholdRowsWait : Prop :=
  ∀ s : State, s.Sound →
    (s.echoDue = false → exec .echoTimeout s = .next s) ∧
    (s.lossDue = false → exec .linkGoesDown s = .next s) ∧
    (s.upDue = false → exec .linkGoesUp s = .next s) ∧
    ((∀ b, s.bin.batch = some b → b.frames < s.page.fpFrames) → exec .batchFull s = .next s) ∧
    (s.gaugeCues = 0 → ∀ p, exec (.gaugeCueFire p) s = .next s) ∧
    (s.settleDue = false → exec .settleEnd s = .next s) ∧
    (s.measureDue = false → exec .measureEnd s = .next s) ∧
    (s.arrivalDue s.targetDuty.2 = false → exec .arrival s = .next s) ∧
    (s.stallDue = false → exec .stall s = .next s) ∧
    (s.resumeDue = false → exec .breakResume s = .next s) ∧
    (s.ex.applyPending = false → exec .pendingApplyTaken s = .next s) ∧
    exec .standardizeStart s = .next s ∧
    (s.link.inFlight = none → ∀ slots, exec (.frameReceived slots) s = .next s) ∧
    (s.ex.life = .ready ∨ s.pins.resetActive = true → exec .startUpCompletion s = .next s)

/-! ## Standardize -/

/-- A standardize starts (R111, R35): with the goal STANDARDIZE, the head PARKED and the link UP. -/
def Obligations.StandardizeStart : Prop :=
  ∀ s : State, s.ex.life = .ready → s.arb.goal = .standardize → s.trav.head = .parked → s.link.up = true →
    Completes .standardizeStart s (fun t =>
      t.trav.head = .standardizing ∧ t.liveWord 0x038 = 4 ∧ t.link.shutter = true ∧ t.link.ref = false ∧
      (s.link.shutter = false → t.link.seq = s.link.seq + 1 ∧ t.link.echoPending = true ∧ t.link.echoCount = 0) ∧
      (∃ ctx, t.std.ctx = some ctx ∧ ctx.phase = .settleOpen ∧ ctx.count = 0 ∧ ctx.startTime = s.link.timeCounter ∧
        ctx.chans.map StdChan.chan = s.page.enabledChannels ∧
        ∀ x ∈ ctx.chans, x.inCheck = decide (s.page.checkExpect x.chan ≠ 0) ∧ x.old = s.std.refs[x.chan] ∧
          x.airSum = 0 ∧ x.airCount = 0 ∧ x.checkSum = 0 ∧ x.checkCount = 0) ∧
      t.arb = s.arb ∧ t.bin = s.bin ∧ t.ex = s.ex ∧ t.std.refs = s.std.refs)

/-- A settle phase ends (R113): the measuring phase begins with its count at 0, and nothing else changes. MEASURE_AIR
ends with a check set (R114, R35): SETTLE_REF begins with its count at 0 and REF is demanded in. Without a check set,
or at the end of MEASURE_REF, the standardize concludes (R117): one STDZ record, STDZ, the counts, and the head is no
longer STANDARDIZING, when no apply is pending and no channel outside the channel set is untried. The record, where a
frame is FREE, is of kind STDZ and outcome COMPLETE, with the channel set and four words for each of its channels: old
reference, new reference, check, result (R118, R152, R156); its alarm mask holds STD_FAULT where an entry was raised. A
channel of result ACCEPTED takes its candidate as reference and has its STD_FAULT entry cleared, every other result keeps
the reference and raises the entry with its code (R116, `StdActed`).
A frame-received event with the link staying UP and no apply pending (R112 to R114): a frame latched STANDARDIZING counts
once in a settle phase unless the echo is pending after the event's check, and always in a measuring phase, where each
collecting channel with a VALID word adds its raw value; the frame that reaches the phase's length makes the phase end as
above. A frame latched in another state leaves the standardize, and one that finds no context is discarded. -/
def Obligations.StandardizePhases : Prop :=
  (∀ (s : State) (ctx : StdCtx), s.Sound → s.ex.life = .ready → s.std.ctx = some ctx →
    (s.link.echoPending = false →
      s.page.stdSettle ≤ ctx.count → 1 ≤ ctx.count →
      (ctx.phase = .settleOpen → exec .settleEnd s = .next
        { s with std := { s.std with ctx := some { ctx with phase := .measureAir, count := 0 } } }) ∧
      (ctx.phase = .settleRef → exec .settleEnd s = .next
        { s with std := { s.std with ctx := some { ctx with phase := .measureRef, count := 0 } } })) ∧
    (s.page.stdFrames ≤ ctx.count →
      (ctx.phase = .measureAir → ctx.chans.any StdChan.inCheck = true → Completes .measureEnd s (fun t =>
        t.std.ctx = some { ctx with phase := .settleRef, count := 0 } ∧ t.link.ref = true ∧ t.link.shutter = true ∧
        t.link.seq = s.link.seq + 1 ∧ t.link.echoPending = true ∧ t.link.echoCount = 0 ∧ t.trav = s.trav ∧
        t.arb = s.arb ∧ t.ex = s.ex ∧ t.mem = s.mem)) ∧
      ((ctx.phase = .measureAir ∧ ctx.chans.any StdChan.inCheck = false) ∨ ctx.phase = .measureRef →
        s.ex.applyPending = false → (∀ c : Fin 8, s.std.untried[c] = true → ∃ x ∈ ctx.chans, x.chan = c) →
        Completes .measureEnd s (fun t =>
          t.std.ctx = none ∧ t.trav.head ≠ .standardizing ∧ t.noticeSet .stdz = true ∧ t.std.scanCount = 0 ∧
          t.std.stdNow = false ∧ t.std.due = false ∧ t.ex.lastRecord = s.ex.lastRecord + 1 ∧
          t.arb.goal ≠ .standardize ∧ t.ex.generation = s.ex.generation ∧
          ((ctx.chans.map StdChan.chan).Nodup → StdActed ctx s t) ∧
          ∀ k, findFree s.mem s.ex.nextFrame = some k →
            let word := fun i => readWord t.mem (frameBase k.val + 4 * i)
            word 0 = readyCode ∧ word 1 = 3 ∧ word 2 = s.ex.lastRecord + 1 ∧ word 4 = 1 ∧ word 5 = 0 ∧
            word 6 = s.ex.generation ∧ word 7 = ctx.startTime ∧ word 8 = s.link.timeCounter ∧
            word 12 = presentMask (ctx.chans.map (fun x => x.chan.val)) ∧
            ((ctx.chans.map StdChan.chan).Nodup →
              word 14 = (if ∃ x ∈ ctx.chans, (stdEntry s.page x).result ≠ .accepted ∧
                s.alarms[stdFaultAlarm x.chan].active = false then 0x10 else 0)) ∧
            word 15 = BitVec.ofNat 32 (16 + 4 * ctx.chans.length) ∧
            ∀ i, (hi : i < ctx.chans.length) →
              let e := stdEntry s.page ctx.chans[i]
              word (16 + 4 * i) = BitVec.ofNat 32 e.oldRef ∧ word (17 + 4 * i) = BitVec.ofNat 32 e.newRef ∧
              word (18 + 4 * i) = BitVec.ofInt 32 e.check ∧ word (19 + 4 * i) = e.result.code)))) ∧
  (∀ (slots : List SlotRx) (s : State) (f : Frame) (ctx : StdCtx), s.QuietFrame slots f → s.std.ctx = some ctx →
    f.head = .standardizing →
    let xs := s.frameResult slots f
    let echoClear := (s.judgedFrame slots f).link.echoPending = false
    let settling := ctx.phase = .settleOpen ∨ ctx.phase = .settleRef
    let collect := fun c : StdChan => match findSample xs c.chan.castSucc with
      | none => c
      | some x =>
        if x.stdValid = false then c
        else if ctx.phase = .measureAir then { c with airSum := c.airSum + x.raw, airCount := c.airCount + 1 }
        else if c.inCheck = true then { c with checkSum := c.checkSum + x.raw, checkCount := c.checkCount + 1 }
        else c
    let taken : StdCtx := { ctx with count := ctx.count + 1, chans := ctx.chans.map collect }
    let settle := max 1 s.page.stdSettle
    (settling → ¬ echoClear → Completes (.frameReceived slots) s (fun t => t.std = s.std)) ∧
    (settling → echoClear → Completes (.frameReceived slots) s (fun t =>
      (ctx.count + 1 < settle → t.std = { s.std with ctx := some { ctx with count := ctx.count + 1 } }) ∧
      (settle ≤ ctx.count + 1 → t.std = { s.std with ctx := some { ctx with
        count := 0, phase := if ctx.phase = .settleOpen then .measureAir else .measureRef } }))) ∧
    (¬ settling → ctx.count + 1 < s.page.stdFrames → Completes (.frameReceived slots) s (fun t =>
      t.std = { s.std with ctx := some taken })) ∧
    (¬ settling → s.page.stdFrames ≤ ctx.count + 1 →
      (ctx.phase = .measureAir → ctx.chans.any StdChan.inCheck = true → Completes (.frameReceived slots) s (fun t =>
        t.std = { s.std with ctx := some { taken with phase := .settleRef, count := 0 } } ∧ t.link.ref = true)) ∧
      (ctx.phase = .measureRef ∨ ctx.chans.any StdChan.inCheck = false →
        (∀ c : Fin 8, s.std.untried[c] = true → ∃ x ∈ ctx.chans, x.chan = c) →
        Completes (.frameReceived slots) s (fun t =>
          t.std.ctx = none ∧ t.trav.head ≠ .standardizing ∧ t.noticeSet .stdz = true ∧
          t.ex.lastRecord = s.ex.lastRecord + 1 ∧
          ((ctx.chans.map StdChan.chan).Nodup → StdActed taken s t))))) ∧
  (∀ (slots : List SlotRx) (s : State) (f : Frame), s.QuietFrame slots f →
    (f.head ≠ .standardizing → (s.moveCounts f (s.frameResult slots f)).gaugeCues = 0 →
      Completes (.frameReceived slots) s (fun t => t.std = s.std)) ∧
    (f.head = .standardizing → s.std.ctx = none → Completes (.frameReceived slots) s (fun t =>
      t.std = s.std ∧ t.bin = s.bin ∧ t.brk = s.brk ∧ t.trav = s.trav ∧ t.ex.lastRecord = s.ex.lastRecord)))

/-- The results of a conclusion (R115): the first test that fails, in the order NODATA, LOWREF, DRIFT, CHECK. The
candidate and the check mean are the sums over their counts to the nearest integer, halves up. The drift is
|candidate − o|, for RATIO in per mille of o; the check is the check mean over the candidate in 1/65,536 held at 65,535,
for OFFSET their difference. What the record carries of it (R118): the old reference or 0, the candidate unless NODATA,
the check where test 4 was reached for a channel of the check set, and else 0. -/
def Obligations.StandardizeResults : Prop :=
  ∀ (p : Page) (c : StdChan),
    let h := p.stdFrames / 2
    let off := p.offsetForm c.chan
    let cand := c.candidate
    let noData := c.airCount < h ∨ (c.inCheck = true ∧ c.checkCount < h)
    let low := off = false ∧ cand < 64
    let away := ((cand : Int) - c.old.value).natAbs
    let drift := c.old.accepted = true ∧ p.driftLimit c.chan < (if off = true then away else away * 1000 / c.old.value)
    let check : Int := if off = true then (c.checkMean : Int) - cand else min 65535 (c.checkMean * 65536 / cand)
    let outside := c.inCheck = true ∧
      (check < p.checkExpect c.chan - p.checkTol c.chan ∨ p.checkExpect c.chan + p.checkTol c.chan < check)
    let e := stdEntry p c
    (0 < c.airCount → 2 * c.airCount * cand ≤ 2 * c.airSum + c.airCount ∧
      2 * c.airSum + c.airCount < 2 * c.airCount * (cand + 1)) ∧
    (0 < c.checkCount → 2 * c.checkCount * c.checkMean ≤ 2 * c.checkSum + c.checkCount ∧
      2 * c.checkSum + c.checkCount < 2 * c.checkCount * (c.checkMean + 1)) ∧
    (e.result = .nodata ↔ noData) ∧
    (e.result = .lowref ↔ ¬noData ∧ low) ∧
    (e.result = .drift ↔ ¬noData ∧ ¬low ∧ drift) ∧
    (e.result = .check ↔ ¬noData ∧ ¬low ∧ ¬drift ∧ outside) ∧
    (e.result = .accepted ↔ ¬noData ∧ ¬low ∧ ¬drift ∧ ¬outside) ∧
    e.chan = c.chan ∧ e.oldRef = (if c.old.accepted = true then c.old.value else 0) ∧
    e.newRef = (if noData then 0 else cand) ∧
    e.check = (if c.inCheck = true ∧ ¬noData ∧ ¬low ∧ ¬drift then check else 0)

/-! ## Samples, bins, batches, records -/

/-- The conversion of a raw value: RATIO normalisation with an air reference of at least 64 (R93), OFFSET
normalisation with a zero reference (R94), and the interpolation of Stage 2 with the floor toward minus infinity,
between its two entries, with f = 0 the entry itself (R95). -/
def Obligations.Conversion : Prop :=
  (∀ a r : Nat, 64 ≤ a → a ≤ 1048575 → r ≤ 1048575 →
    normalise false a r = (if 65535 < r * 65536 / a then 65535 else r * 65536 / a) ∧
    normalise false a 0 = 0 ∧ (a ≤ r → normalise false a r = 65535) ∧ (r < a → r * 65536 / a ≤ 65535) ∧ normalise false a r ≤ 65535) ∧
  (∀ z r : Nat, z ≤ 1048575 → r ≤ 1048575 →
    (r + 32768 < z → normalise true z r = 0) ∧
    (z ≤ r + 32768 → r + 32768 - z ≤ 65535 → normalise true z r = r + 32768 - z) ∧
    (65535 < r + 32768 - z → normalise true z r = 65535) ∧
    normalise true z z = 32768 ∧ normalise true z z / 2048 = 16 ∧ normalise true z z % 2048 = 0 ∧
    (r + 32768 ≤ z → normalise true z r = 0) ∧ (z + 32768 ≤ r → normalise true z r = 65535)) ∧
  (∀ (t : Nat → Int) (x : Nat), x ≤ 65535 →
    interpolate t x = t (x / 2048) + Int.fdiv ((t (x / 2048 + 1) - t (x / 2048)) * ((x % 2048 : Nat) : Int)) 2048 ∧
    x / 2048 ≤ 31 ∧ x % 2048 ≤ 2047 ∧ (x % 2048 = 0 → interpolate t x = t (x / 2048)) ∧
    min (t (x / 2048)) (t (x / 2048 + 1)) ≤ interpolate t x ∧
    interpolate t x ≤ max (t (x / 2048)) (t (x / 2048 + 1)))

/-- The DRY sample (R97, R98): where channels of role BW and MOIST are enabled, a frame's samples end with it, derived
from their samples, which stay as they are. With both samples usable it is usable with b × (100,000 − m) / 100,000, m clamped: the
nearest number, halves away from zero, of the sign of b and never beyond it, 0 at a moisture of 100,000 or more and b
at 0 or less. Otherwise it has no value and the reject cause of the BW sample, or of the MOIST sample where that of BW
is usable. -/
def Obligations.DryWeight : Prop :=
  (∀ b m : Int,
    let k := 100000 - max 0 (min 100000 m)
    2 * |100000 * dryValue b m - b * k| ≤ 100000 ∧
    (2 * |100000 * dryValue b m - b * k| = 100000 → |b * k| ≤ |100000 * dryValue b m|) ∧
    |dryValue b m| ≤ |b| ∧ (0 ≤ b → 0 ≤ dryValue b m) ∧ (b ≤ 0 → dryValue b m ≤ 0) ∧
    (100000 ≤ m → dryValue b m = 0) ∧ (m ≤ 0 → dryValue b m = b)) ∧ dryValue (-3) 50000 = -2 ∧
  (∀ (p : Page) (refs : Vector RefRecord 8) (slots : List SlotRx) (n : Nat) (valid : Bool) (b m : Fin 8),
    p.roleChannel roleBw = some b → p.roleChannel roleMoist = some m →
    frameSamples p refs slots n valid = p.enabledChannels.map (sampleOf p refs slots n valid) ++
      [drySample (sampleOf p refs slots n valid b) (sampleOf p refs slots n valid m)]) ∧
  (∀ b m : Sample, (drySample b m).chan = dryChannel ∧
    (∀ bv mv, b.usableValue = some bv → m.usableValue = some mv →
      (drySample b m).validity = .usable ∧ (drySample b m).value = some (dryValue bv mv)) ∧
    (b.usableValue = none → (drySample b m).validity = b.validity ∧ (drySample b m).value = none) ∧
    (b.usableValue ≠ none → m.usableValue = none →
      (drySample b m).validity = m.validity ∧ (drySample b m).value = none))

/-- The profile unit. The bin of a position (R126): for front ≤ p < back below N_BINS, bin 0 at the front edge, never
falling as the position rises. One sample of an open scan (R125): each reject cause raises its own count, a usable sample
outside the edges OFF_SHEET, one in a full bin FULL, another is added to its bin and accepted; all else stands, so exactly
one of the eight counts rises while none is at its bound. At a close a bin with MIN_COUNT samples is data with its mean,
nearest and halves away from zero; one with fewer is HELD in a filled bin and VOID else (R144). A channel is thin with no
data bin or too few; the outcome is COMPLETE exactly when the set is not empty and no channel is thin (R145); the average
is over the data bins, absent without one (R146). The filter of a data bin starts at 256 times its mean, then moves
toward it by K/256, never past it, R its rounded value; a HELD or VOID bin keeps its filter (R147). Then the array value
(R148), the record order (R151), the statistics over the bins that are not VOID, the extremes in their lowest record bin
(R149), and the word of a bin entry (R153). A close hands a PROFILE record with this body and updates the filters when
COMPLETE, not when THIN; an abort hands the header alone, and either header carries the direction, start time, edges,
N_BINS and first-after-break flag of the scan's context and the time counter as its end time (Table 8-1, R152 to R154). At a COMPLETE close the enabled kinds of each
channel are judged, their entries move, and the record's mask holds the kinds raised at this close with those handed
(R150, R162). A frame received while a scan is open, with the link staying UP, no apply pending and no gauge cue: the scan
takes it when it started after the scan opened and is latched in the scan's direction (R124): each channel's sample is
disposed of once and the edge search takes the frame; any other frame leaves the scan. -/
def Obligations.ScanProfile : Prop :=
  (∀ (front back p q : Int) (n : Nat), 1 ≤ n → front ≤ p → p ≤ q → q < back →
    binIndex front back n p < n ∧ binIndex front back n front = 0 ∧
    binIndex front back n p ≤ binIndex front back n q ∧
    (binIndex front back n p : Int) = ((p - front) * n) / (back - front)) ∧
  (∀ (a : ChanAcc) (front back pos : Int) (n : Nat) (x : Sample), front < back → 1 ≤ n → a.bins.length = n →
    let b := a.dispose front back n pos x
    let up := fun k : Nat => min 4294967295 (k + 1)
    (x.validity = .absent → b = { a with rejAbsent := up a.rejAbsent }) ∧
    (x.validity = .notMeasuring → b = { a with rejNotMeasuring := up a.rejNotMeasuring }) ∧
    (x.validity = .stale → b = { a with rejStale := up a.rejStale }) ∧
    (x.validity = .sat → b = { a with rejSat := up a.rejSat }) ∧
    (x.validity = .unreferenced → b = { a with rejUnreferenced := up a.rejUnreferenced }) ∧
    (∀ v, x.validity = .usable → x.value = some v →
      (pos < front ∨ back ≤ pos → b = { a with rejOffSheet := up a.rejOffSheet }) ∧
      (front ≤ pos → pos < back → ∃ h : binIndex front back n pos < a.bins.length,
        let old := a.bins[binIndex front back n pos]
        (65535 ≤ old.count → b = { a with rejFull := up a.rejFull }) ∧
        (old.count < 65535 → b = { a with
          accepted := up a.accepted
          bins := a.bins.set (binIndex front back n pos) { sum := old.sum + v, count := old.count + 1 } })))) ∧
  (∀ (a : ChanAcc) (front back pos : Int) (n : Nat) (x : Sample), front < back → 1 ≤ n → a.bins.length = n →
    x.validity ≠ .disabled → (x.validity = .usable → x.value ≠ none) →
    (∀ k ∈ [a.accepted, a.rejAbsent, a.rejNotMeasuring, a.rejStale, a.rejSat, a.rejUnreferenced, a.rejOffSheet,
      a.rejFull], k < 4294967295) →
    let b := a.dispose front back n pos x
    b.accepted + b.rejAbsent + b.rejNotMeasuring + b.rejStale + b.rejSat + b.rejUnreferenced + b.rejOffSheet + b.rejFull
      = a.accepted + a.rejAbsent + a.rejNotMeasuring + a.rejStale + a.rejSat + a.rejUnreferenced + a.rejOffSheet
        + a.rejFull + 1 ∧
    (b.accepted = a.accepted + 1 → x.validity = .usable ∧ front ≤ pos ∧ pos < back) ∧
    ((b.bins.map BinAcc.count).sum = (a.bins.map BinAcc.count).sum + (b.accepted - a.accepted)) ∧
    b.bins.length = n) ∧
  (∀ (n : Int) (d : Nat), 0 < d →
    2 * |(d : Int) * roundAway n d - n| ≤ d ∧
    (2 * |(d : Int) * roundAway n d - n| = d → |n| ≤ |(d : Int) * roundAway n d|)) ∧
  (∀ (minCount : Nat) (accs : List BinAcc) (fs : List FilterBin),
    (classBins minCount accs fs).length = accs.length ∧
    ∀ i, (hi : i < accs.length) → ∃ b, (classBins minCount accs fs)[i]? = some b ∧
      b.old = fs.getD i { filled := false, f := 0, r := 0 } ∧
      (b.cls = .data ↔ minCount ≤ accs[i].count) ∧
      (b.cls = .held ↔ accs[i].count < minCount ∧ b.old.filled = true) ∧
      (b.cls = .data → b.mean = roundAway accs[i].sum accs[i].count)) ∧
  (∀ (minCount n : Nat) (fs : Vector Filter 9) (a : ChanAcc),
    let c := chanProfile minCount n fs a
    let f := fs[a.chan]
    c.acc = a ∧ c.bins = classBins minCount a.bins (if f.seeded = true ∧ f.binCount = n then f.bins else []) ∧
    c.nData = c.bins.countP (fun b => decide (b.cls = .data)) ∧
    (c.nData = 0 → c.avg = none) ∧
    (c.nData ≠ 0 → c.avg = some (roundAway
      ((c.bins.map (fun b => if b.cls = .data then b.mean else 0)).sum) c.nData))) ∧
  (∀ (cs : List ChanProfile) (n cover : Nat),
    (scanOutcome cs n cover = .complete ↔ cs ≠ [] ∧ ∀ c ∈ cs, c.nData ≠ 0 ∧ n * cover ≤ c.nData * 100) ∧
    (scanOutcome cs n cover = .complete ∨ scanOutcome cs n cover = .thin)) ∧
  (∀ (k : Nat) (b : ClassedBin), 1 ≤ k → k ≤ 256 →
    let u := updateBin k b
    (b.cls ≠ .data → u = b.old) ∧
    (b.cls = .data → u.filled = true ∧ u.r = (u.f + 128) / 256 ∧
      (b.old.filled = false ∨ k = 256 → u.f = 256 * b.mean ∧ u.r = b.mean) ∧
      (b.old.filled = true → u.f = b.old.f + ((256 * b.mean - b.old.f) * k) / 256 ∧
        min b.old.f (256 * b.mean) ≤ u.f ∧ u.f ≤ max b.old.f (256 * b.mean)))) ∧
  (∀ (raw complete : Bool) (k : Nat) (b : ClassedBin),
    (b.cls = .data → arrayValue raw complete k b = (if raw = false ∧ complete = true then (updateBin k b).r else b.mean)) ∧
    (b.cls = .held → arrayValue raw complete k b = b.old.r) ∧ (b.cls = .void → arrayValue raw complete k b = 0)) ∧
  (∀ (p : Page) (complete : Bool) (c : ChanProfile),
    (profBins p complete c).map ProfBin.cls = c.bins.map ClassedBin.cls ∧
    (profBins p complete c).map ProfBin.value = c.bins.map
      (arrayValue (p.reportRaw9 c.acc.chan) complete (p.filterK9 c.acc.chan))) ∧
  (∀ (p : Page) (bins : List ProfBin) (j : Nat), j < bins.length →
    (recordOrder p bins)[j]? = (if p 0x054 = 1 then bins[bins.length - 1 - j]? else bins[j]?)) ∧
  (∀ (c : ChanProfile) (bins : List ProfBin),
    let block := summaryBlock c bins
    let shown := fun (i : Nat) (b : ProfBin) => bins[i]? = some b ∧ b.cls ≠ .void
    block.length = 16 ∧
    block[0]? = some (valueWord c.avg) ∧
    ((∀ b ∈ bins, b.cls = .void) → (block.drop 1).take 5 = [absentValue, absentBin, absentValue, absentBin, absentValue]) ∧
    (∀ lo hi b d, shown lo b → (∀ i e, shown i e → b.value ≤ e.value ∧ (i < lo → b.value < e.value)) →
      shown hi d → (∀ i e, shown i e → e.value ≤ d.value ∧ (i < hi → e.value < d.value)) →
      (block.drop 1).take 5 = [BitVec.ofInt 32 b.value, BitVec.ofNat 32 lo, BitVec.ofInt 32 d.value, BitVec.ofNat 32 hi,
        BitVec.ofInt 32 (d.value - b.value)]) ∧
    block.drop 6 = [BitVec.ofNat 32 (bins.countP (fun b => decide (b.cls = .held))),
      BitVec.ofNat 32 (bins.countP (fun b => decide (b.cls = .void))), BitVec.ofNat 32 c.acc.accepted,
      BitVec.ofNat 32 c.acc.rejAbsent, BitVec.ofNat 32 c.acc.rejNotMeasuring, BitVec.ofNat 32 c.acc.rejStale,
      BitVec.ofNat 32 c.acc.rejSat, BitVec.ofNat 32 c.acc.rejUnreferenced, BitVec.ofNat 32 c.acc.rejOffSheet,
      BitVec.ofNat 32 c.acc.rejFull]) ∧
  (∀ (p : Page) (k : Nat) (b : ProfBin),
    let w := binEntry p k b
    w.setWidth 24 = BitVec.ofInt 24 (if b.cls = .void then 0 else b.value) ∧
    w.getLsbD 24 = decide (b.cls = .held) ∧ w.getLsbD 25 = decide (b.cls = .void) ∧
    w.getLsbD 26 = (binFlags p k b).1 ∧ w.getLsbD 27 = (binFlags p k b).2 ∧ ∀ i, 28 ≤ i → w.getLsbD i = false) ∧
  (∀ (ctx : ScanCtx) (kinds : Word) (s : State), (ctx.chans.map ChanAcc.chan).Nodup →
    let cs := ctx.chans.map (chanProfile s.page.minCount ctx.nBins s.filters)
    let outcome := scanOutcome cs ctx.nBins s.page.minCover
    let headerOf := fun (o : RecOutcome) (present mask : Word) => ({
      kind := .profile, outcome := o, direction := if ctx.dir = .outbound then 1 else 2, startTime := ctx.startTime
      endTime := s.link.timeCounter, front := BitVec.ofInt 32 ctx.front, back := BitVec.ofInt 32 ctx.back
      nBins := BitVec.ofNat 32 ctx.nBins, present := present, firstAfterBreak := ctx.firstAfterBreak
      alarmRaised := mask } : RecHeader)
    let header := headerOf outcome (presentMask (ctx.chans.map (fun a => a.chan.val)))
    let body := profileBody s.page (decide (outcome = .complete)) cs
    (s.profileClose ctx kinds).1 = outcome ∧
    (∀ bs : List ProfBin, ∀ c ∈ cs, bs = recordOrder s.page (profBins s.page (decide (outcome = .complete)) c) →
      bs.length = c.acc.bins.length) ∧
    body = cs.flatMap (fun c => summaryBlock c (recordOrder s.page (profBins s.page (decide (outcome = .complete)) c))) ++
      cs.flatMap (fun c => (recordOrder s.page (profBins s.page (decide (outcome = .complete)) c)).map
        (binEntry s.page c.acc.chan.val)) ∧
    (outcome = .thin → (s.profileClose ctx kinds).2 = s.produce (header kinds) body) ∧
    (outcome = .complete →
      (∃ (u : State) (mask : Word), (s.profileClose ctx kinds).2 = u.produce (header (mask ||| kinds)) body ∧
        u.ex.generation = s.ex.generation ∧ u.ex.lastRecord = s.ex.lastRecord ∧ u.ex.nextFrame = s.ex.nextFrame ∧
        u.ex.skipped = s.ex.skipped ∧ u.link = s.link ∧ SameBytes u.mem s.mem storeBase 0x40000 ∧
        let judged := fun (c : ChanProfile) (kind : Fin 4) =>
          judgeKind s.page c.acc.chan.val kind (c.avg.getD 0) (profBins s.page true c)
        let moved := fun (c : ChanProfile) (kind : Fin 4) =>
          (s.moveEntry (scanAlarm c.acc.chan kind) (judged c kind).1 (judged c kind).2
            (s.page.raiseScans c.acc.chan.val) (s.page.clearScans c.acc.chan.val)).2.alarms[scanAlarm c.acc.chan kind]
        (∀ i, mask.getLsbD i = true ↔ ∃ c ∈ cs, ∃ kind : Fin 4, kind.val = i ∧
          s.page.kindEnabled c.acc.chan.val kind.val = true ∧ (judged c kind).1 = .violating ∧
          s.alarms[scanAlarm c.acc.chan kind].active = false ∧
          s.page.raiseScans c.acc.chan.val ≤ s.alarms[scanAlarm c.acc.chan kind].violationStreak + 1) ∧
        (∀ c ∈ cs, ∀ kind : Fin 4, u.alarms[scanAlarm c.acc.chan kind] =
          (if s.page.kindEnabled c.acc.chan.val kind.val = true then moved c kind
            else s.alarms[scanAlarm c.acc.chan kind])) ∧
        (∀ a : Fin 48, (∀ c ∈ cs, ∀ kind, scanAlarm c.acc.chan kind ≠ a) → u.alarms[a] = s.alarms[a])) ∧
      (∀ c ∈ cs, (s.profileClose ctx kinds).2.filters[c.acc.chan] =
        { seeded := true, binCount := ctx.nBins, bins := c.bins.map (updateBin (s.page.filterK9 c.acc.chan)) }) ∧
      (∀ k : Fin 9, (∀ a ∈ ctx.chans, a.chan ≠ k) → (s.profileClose ctx kinds).2.filters[k] = s.filters[k])) ∧
    (∀ o, s.profileAbort ctx o = s.produce (headerOf o 0 0) [])) ∧
  (∀ (slots : List SlotRx) (s : State) (f : Frame) (ctx : ScanCtx), s.QuietFrame slots f → s.bin.scan = some ctx →
    (s.moveCounts f (s.frameResult slots f)).gaugeCues = 0 →
    let xs := s.frameResult slots f
    let pos := f.position.toInt
    let takes := f.sinceScanOpen = true ∧
      ((ctx.dir = .outbound ∧ f.head = .outbound) ∨ (ctx.dir = .inbound ∧ f.head = .inbound))
    Completes (.frameReceived slots) s (fun t =>
      t.trav = s.trav ∧ t.ex.lastRecord = s.ex.lastRecord ∧
      (takes → t.bin = { s.bin with scan := some { ctx.edgeSearch s.page pos xs with
        chans := ctx.chans.map (fun a => match findSample xs a.chan with
          | some x => a.dispose ctx.front ctx.back ctx.nBins pos x
          | none => a) } }) ∧
      (¬ takes → t.bin = s.bin)))

/-- A full batch (R134): it is handed with a record, and a new batch starts with its counts at 0 in the same event,
with the position counter as its hold position (log entry 16). The record, where a frame is FREE, is of kind FIXED and
outcome COMPLETE, with no direction, edges 0, the batch's set, mark and start time, and an empty alarm mask (R152); its
body is the hold position, the frame count, and for each channel the average (or the absent mark), minimum, maximum and
count (R155). A frame received with the link staying UP, no apply pending and no gauge cue (R133, R134): a running batch
takes it when it started after the batch and is latched HOLDING: the frame count rises whatever the frame's validity, and
each channel with a usable sample adds its value, count, minimum and maximum; at FP_FRAMES the batch is full as above, and
the new one has not taken the frame. While HOLDING with no batch, a frame latched HOLDING starts one and is its first.
Every other frame leaves the batch, and the absence of one. -/
def Obligations.BatchFull : Prop :=
  (∀ (s : State) (b : Batch), s.Sound → s.ex.life = .ready → s.bin.batch = some b → s.page.fpFrames ≤ b.frames →
    Completes .batchFull s (fun t =>
      t.ex.lastRecord = s.ex.lastRecord + 1 ∧ t.trav = s.trav ∧ t.arb = s.arb ∧ t.std = s.std ∧ t.brk = s.brk ∧
      ∃ b', t.bin.batch = some b' ∧ b'.frames = 0 ∧ b'.startTime = s.link.timeCounter ∧
        b'.holdPos = s.trav.position ∧ b'.chans.map BatchChan.chan = s.page.channelSet ∧
        (∀ c ∈ b'.chans, c.count = 0 ∧ c.sum = 0 ∧ c.minMax = none) ∧
        b'.firstAfterBreak = s.bin.firstAfterBreak ∧ t.bin.firstAfterBreak = false ∧
        ∀ k, findFree s.mem s.ex.nextFrame = some k →
          let word := fun i => readWord t.mem (frameBase k.val + 4 * i)
          word 0 = readyCode ∧ word 1 = 2 ∧ word 2 = s.ex.lastRecord + 1 ∧ word 4 = 1 ∧ word 5 = 0 ∧
          word 6 = s.ex.generation ∧ word 7 = b.startTime ∧ word 8 = s.link.timeCounter ∧ word 9 = 0 ∧ word 10 = 0 ∧
          word 11 = 0 ∧ word 12 = presentMask (b.chans.map (fun c => c.chan.val)) ∧
          word 13 = (if b.firstAfterBreak = true then 1 else 0) ∧ word 14 = 0 ∧
          word 15 = BitVec.ofNat 32 (18 + 4 * b.chans.length) ∧ word 16 = b.holdPos ∧
          word 17 = BitVec.ofNat 32 b.frames ∧
          ∀ i, (hi : i < b.chans.length) →
            let c := b.chans[i]
            word (18 + 4 * i) = (if c.count = 0 then 0x80000000 else BitVec.ofInt 32 (roundAway c.sum c.count)) ∧
            (∀ lo up, c.minMax = some (lo, up) →
              word (19 + 4 * i) = BitVec.ofInt 32 lo ∧ word (20 + 4 * i) = BitVec.ofInt 32 up) ∧
            (c.minMax = none → word (19 + 4 * i) = 0x80000000 ∧ word (20 + 4 * i) = 0x80000000) ∧
            word (21 + 4 * i) = BitVec.ofNat 32 c.count)) ∧
  (∀ (slots : List SlotRx) (s : State) (f : Frame), s.QuietFrame slots f → f.head ≠ .standardizing →
    (s.moveCounts f (s.frameResult slots f)).gaugeCues = 0 →
    let xs := s.frameResult slots f
    let add := fun c : BatchChan => match (findSample xs c.chan).bind Sample.usableValue with
      | none => c
      | some v =>
        let both := match c.minMax with
          | none => (v, v)
          | some (lo, up) => (min lo v, max up v)
        { c with sum := c.sum + v, count := c.count + 1, minMax := some both }
    let starts := s.trav.head = .holding ∧ f.head = .holding
    Completes (.frameReceived slots) s (fun t =>
      t.trav = s.trav ∧
      (∀ b, s.bin.batch = some b → f.head = .holding → f.sinceBatchStart = true →
        (b.frames + 1 < s.page.fpFrames → t.ex.lastRecord = s.ex.lastRecord ∧
          t.bin = { s.bin with batch := some { b with frames := b.frames + 1, chans := b.chans.map add } }) ∧
        (s.page.fpFrames ≤ b.frames + 1 → t.ex.lastRecord = s.ex.lastRecord + 1 ∧
          (∃ b', t.bin.batch = some b' ∧ b'.frames = 0 ∧ b'.startTime = s.link.timeCounter ∧
            b'.holdPos = s.trav.position ∧ ∀ c ∈ b'.chans, c.count = 0) ∧
          ∀ k, findFree s.mem s.ex.nextFrame = some k →
            readWord t.mem (frameBase k.val + 4) = 2 ∧ readWord t.mem (frameBase k.val + 16) = 1 ∧
            readWord t.mem (frameBase k.val + 68) = BitVec.ofNat 32 (b.frames + 1))) ∧
      (∀ b, s.bin.batch = some b → f.head ≠ .holding ∨ f.sinceBatchStart = false →
        t.bin.batch = some b ∧ t.ex.lastRecord = s.ex.lastRecord) ∧
      (s.bin.batch = none → starts → 1 < s.page.fpFrames → t.ex.lastRecord = s.ex.lastRecord ∧
        t.bin = { s.bin with firstAfterBreak := false, batch := some {
          startTime := s.link.timeCounter, holdPos := s.trav.position, firstAfterBreak := s.bin.firstAfterBreak
          frames := 1, chans := s.page.channelSet.map (fun c => add { chan := c }) } }) ∧
      (s.bin.batch = none → ¬ starts → t.bin.batch = none ∧ t.ex.lastRecord = s.ex.lastRecord)))

/-- Producing a record (R22, R23): it takes the next number. With a FREE frame it is stored in the first one in cyclic
order from the pointer, READY, and the pointer moves on and the skipped counter returns to 0; the header holds each
field of Table 8-1 at its word, SKIPPED the counter before and GENERATION the state's (R152), and the words of the frame
beyond the record keep their content. Without a FREE frame it is lost, the memory of the store keeps its content, the
skipped counter rises and is shown, and LOST is set. PRESENT has bit c for channel c. -/
def Obligations.RecordStore : Prop :=
  (∀ (cs : List (Fin 9)) (i : Nat), (presentMask (cs.map Fin.val)).getLsbD i = true ↔ ∃ c ∈ cs, c.val = i) ∧
  ∀ (h : RecHeader) (body : List Word) (s : State), body.length ≤ 6000 →
    let t := s.produce h body
    let free := fun k : Fin 8 => readWord s.mem (frameBase k.val) = freeCode
    t.ex.lastRecord = s.ex.lastRecord + 1 ∧
    (∀ d : Fin 8, free (s.ex.nextFrame + d) → (∀ e : Fin 8, e < d → ¬ free (s.ex.nextFrame + e)) →
      let k := s.ex.nextFrame + d
      readWord t.mem (frameBase k.val) = readyCode ∧ readWord t.mem (frameBase k.val + 4) = h.kind.code ∧
      readWord t.mem (frameBase k.val + 8) = s.ex.lastRecord + 1 ∧
      (∀ i, (hi : i < body.length) → readWord t.mem (frameBase k.val + 64 + 4 * i) = body[i]) ∧
      readWord t.mem (frameBase k.val + 60) = BitVec.ofNat 32 (16 + body.length) ∧
      (s.ex.skipped < 4294967296 → readWord t.mem (frameBase k.val + 12) = BitVec.ofNat 32 s.ex.skipped) ∧
      (let word := fun i => readWord t.mem (frameBase k.val + 4 * i)
       word 4 = h.outcome.code ∧ word 5 = h.direction ∧ word 6 = s.ex.generation ∧ word 7 = h.startTime ∧
       word 8 = h.endTime ∧ word 9 = h.front ∧ word 10 = h.back ∧ word 11 = h.nBins ∧ word 12 = h.present ∧
       word 13 = (if h.firstAfterBreak = true then 1 else 0) ∧ word 14 = h.alarmRaised) ∧
      SameBytes t.mem s.mem (frameBase k.val + 64 + 4 * body.length) (frameBase k.val + frameSize) ∧
      t.ex.nextFrame = k + 1 ∧ t.ex.skipped = 0 ∧ t.liveWord 0x028 = 0 ∧
      (if h.outcome = .complete ∧ h.alarmRaised = 0 then t.noticeSet .record = true else t.noticeSet .recordX = true) ∧
      (∀ j : Fin 8, j ≠ k → SameBytes t.mem s.mem (frameBase j.val) (frameBase j.val + frameSize))) ∧
    ((∀ k : Fin 8, ¬ free k) → SameBytes t.mem s.mem storeBase 0x40000 ∧ t.ex.nextFrame = s.ex.nextFrame ∧
      t.ex.skipped = s.ex.skipped + 1 ∧ t.noticeSet .lost = true ∧
      (s.ex.skipped + 1 < 4294967296 → t.liveWord 0x028 = BitVec.ofNat 32 (s.ex.skipped + 1)))

/-! ## The traverse controller -/

/-- The motion of each head state and the target duty it gives (R50, R51): 0 against DRV_DIR; HOME_DUTY in HOMING before
the front switch; toward a stop point 0 at or beyond it, CREEP_DUTY within SLOW_ZONE of it and the state's cruise figure
before, for HOMING after the switch (to 0), OUTBOUND (to B_TURN), INBOUND (to F_TURN), MOVING_TO_HOLD (to the hold
position) and RETURNING (to 0); a nonzero target is raised to MIN_DUTY; in STOPPING and in the states at rest 0. RETURNING
and MOVING_TO_HOLD fix their direction at entry, toward the stop point. An arrival is due with D at 0 and the stillness
count at 5, at or beyond the stop point in its direction or in STOPPING (R53). One expiry of the drive interval with
neither a stall nor an arrival due after it (R49, R52, R53, R66; the stall time judges the D before this expiry's ramp
step, which is log entry 10): D has moved toward the target by at most RAMP; the
direction changes only to the motion's and only with D at 0; the interval restarts; nothing but the drive changes. -/
def Obligations.DriveInterval : Prop :=
  (∀ s : State,
    let p := s.page
    let raised := fun t : Nat => if t = 0 then 0 else max t p.minDuty
    let left := fun (want : Dir) (stop : Int) => if want = .out then stop - s.pos else s.pos - stop
    let moves := fun (want : Dir) (stop : Int) (cruise : Nat) =>
      s.motion.dir = want ∧
      s.targetDuty.1 = (if s.trav.dir ≠ want then 0 else if left want stop ≤ 0 then 0
        else if left want stop ≤ p.slowZone then raised p.creepDuty else raised cruise) ∧
      (s.arrivalDue s.targetDuty.2 = true ↔
        s.trav.dir = want ∧ left want stop ≤ 0 ∧ s.trav.duty = 0 ∧ 5 ≤ s.trav.stillness)
    (s.trav.head = .homing → s.trav.homed = false → s.motion.dir = .inn ∧
      s.targetDuty.1 = (if s.trav.dir = .inn then raised p.homeDuty else 0) ∧ s.arrivalDue s.targetDuty.2 = false) ∧
    (s.trav.head = .homing → s.trav.homed = true → moves .out 0 p.homeDuty) ∧
    (s.trav.head = .outbound → moves .out p.bTurn p.cruiseDuty) ∧
    (s.trav.head = .inbound → moves .inn p.fTurn p.cruiseDuty) ∧
    (s.trav.head = .movingToHold → moves s.trav.motionDir s.ex.holdPos p.cruiseDuty) ∧
    (s.trav.head = .returning → moves s.trav.motionDir 0 p.returnDuty) ∧
    (s.trav.head = .stopping → s.motion.dir = s.trav.dir ∧ s.targetDuty.1 = 0 ∧
      (s.arrivalDue s.targetDuty.2 = true ↔ s.trav.duty = 0 ∧ 5 ≤ s.trav.stillness)) ∧
    (s.trav.head.atRest = true → s.motion.dir = s.trav.dir ∧ s.targetDuty.1 = 0 ∧
      s.arrivalDue s.targetDuty.2 = false) ∧
    (let toward := fun stop : Int => if s.pos < stop then Dir.out else if stop < s.pos then .inn else s.trav.dir
     s.enterReturning.trav.motionDir = toward 0 ∧ s.enterReturning.trav.head = .returning ∧
     s.enterMovingToHold.trav.motionDir = toward s.ex.holdPos ∧ s.enterMovingToHold.trav.head = .movingToHold)) ∧
  (∀ s : State, s.Sound → s.ex.life = .ready → s.driveStep.stallDue = false →
    s.driveStep.arrivalDue s.targetDuty.2 = false →
    Completes .driveIntervalExpiry s (fun t =>
      (s.trav.duty < s.targetDuty.1 → t.trav.duty = min (s.trav.duty + s.page.ramp) s.targetDuty.1) ∧
      (s.targetDuty.1 ≤ s.trav.duty → t.trav.duty = max (s.trav.duty - s.page.ramp) s.targetDuty.1) ∧
      t.trav.dir = (if t.trav.duty = 0 then s.motion.dir else s.trav.dir) ∧
      t.trav.driveTimer = some 1000 ∧
      t.trav.stillness = (if s.trav.position = s.trav.prevPosition then min 255 (s.trav.stillness + 1) else 0) ∧
      t.trav.stallTime = (if s.trav.duty ≠ 0 ∧ s.page.minDuty ≤ s.trav.duty ∧ s.trav.position = s.trav.prevPosition
        then s.trav.stallTime + 1 else 0) ∧
      t.trav.prevPosition = s.trav.position ∧
      t = { s with trav := { s.trav with
              duty := t.trav.duty, dir := t.trav.dir, driveTimer := t.trav.driveTimer, stillness := t.trav.stillness
              stallTime := t.trav.stallTime, prevPosition := t.trav.prevPosition } }))

/-- Arrivals (R53, R57, R59, R60, R63, R64) with the arrival conditions of R53 met and no apply pending: HOMING under
the goal PARK or HOME, RETURNING under PARK end PARKED; STOPPING under STOP ends STANDING; MOVING_TO_HOLD under HOLD
ends HOLDING with a batch started; a traverse, its scan closed, ends TURNING with the dwell timer running,
under STANDARDIZE at F_TURN RETURNING (R59), and with DWELL 0 departs in the event on the next traverse (R60). The scan is
counted, a count that reaches STD_INTERVAL or an untried channel makes the standardize due, and the goal follows (R108,
R109). Where the edge judgement hands the EDGE cue in WATCH with EDGE enabled, the break is declared after the head has
taken its goal: its history entry shows that head state and the cue, a scan that opened in the event is aborted with a
record, and the head returns (R131, R174, R177). -/
def Obligations.Arrival : Prop :=
  ∀ s : State, s.Sound → s.ex.life = .ready → s.ex.applyPending = false → s.arrivalDue s.targetDuty.2 = true →
    (s.trav.head = .homing → s.arb.goal = .park ∨ s.arb.goal = .home → Completes .arrival s (fun t =>
      t.trav.head = .parked ∧ t.trav.homed = true ∧ t.trav.position = s.trav.position ∧ t.liveWord 0x038 = 2 ∧
      t.arb = s.arb ∧ t.bin = s.bin ∧ t.ex = s.ex)) ∧
    (s.trav.head = .returning → s.arb.goal = .park → Completes .arrival s (fun t =>
      t.trav.head = .parked ∧ t.trav.position = s.trav.position ∧ t.arb = s.arb ∧ t.bin = s.bin ∧ t.ex = s.ex)) ∧
    (s.trav.head = .stopping → s.arb.goal = .stop → Completes .arrival s (fun t =>
      t.trav.head = .standing ∧ t.trav.position = s.trav.position ∧ t.arb = s.arb ∧ t.bin = s.bin ∧ t.ex = s.ex)) ∧
    (s.trav.head = .movingToHold → s.arb.goal = .hold → Completes .arrival s (fun t =>
      t.trav.head = .holding ∧ t.link.shutter = true ∧
      ∃ b, t.bin.batch = some b ∧ b.frames = 0 ∧ b.startTime = s.link.timeCounter ∧ b.holdPos = s.trav.position ∧
        b.firstAfterBreak = s.bin.firstAfterBreak)) ∧
    (s.trav.head = .outbound ∨ s.trav.head = .inbound →
      let count := min 255 (s.std.scanCount + 1)
      let due := (1 ≤ s.page.stdInterval ∧ s.page.stdInterval ≤ 255 ∧ s.page.stdInterval ≤ count) ∨
        ∃ c : Fin 8, s.std.untried[c] = true
      let wanted := due ∨ s.std.stdNow = true
      let side : Side := if s.trav.head = .outbound then .back else .front
      let turned : HeadState := if s.trav.head = .inbound ∧ wanted then .returning
        else if s.page.dwellMs ≠ 0 then .turning else if s.trav.head = .outbound then .inbound else .outbound
      let departs := turned = .outbound ∨ turned = .inbound
      let fires := s.page.edgeTrack = true ∧ s.page.cueEdge = true ∧ s.brk.state = .watch ∧
        ∃ ctx, s.bin.scan = some ctx ∧ (s.judgeEdges ctx).cue = true
      s.ex.reqMode = .scan ∨ (s.arb.goal = .standardize ∧ wanted) →
      (¬ fires → Completes .arrival s (fun t =>
        t.trav.head = turned ∧ t.std.scanCount = count ∧ (t.std.due = true ↔ due) ∧
        t.arb.goal = (if wanted then .standardize else .scan) ∧ t.ex.lastRecord = s.ex.lastRecord + 1 ∧
        t.brk = s.brk ∧ (t.link.shutter = true ↔ turned ≠ .returning) ∧
        (turned = .turning → t.trav.turn = side ∧ t.trav.dwellTimer = some (s.page.dwellMs * 1000)) ∧
        (¬ departs → t.bin.scan = none ∧ t.liveWord 0x058 = 0) ∧
        (departs → t.liveWord 0x058 = 1 ∧ ∃ ctx, t.bin.scan = some ctx ∧
          ctx.dir = (if s.trav.head = .outbound then .inbound else .outbound) ∧
          ctx.startTime = s.link.timeCounter ∧ ctx.startPos = s.trav.position ∧ ctx.front = t.bin.edgeFront ∧
          ctx.back = t.bin.edgeBack ∧ ctx.nBins = s.page.nBins ∧ ctx.firstAfterBreak = s.bin.firstAfterBreak ∧
          ctx.chans.map ChanAcc.chan = s.page.channelSet))) ∧
      (fires → Completes .arrival s (fun t =>
        let a := historyBase + 64 * (s.brk.newest + 1).val
        t.trav.head = .returning ∧ t.arb.goal = .park ∧ t.brk.state = .broken ∧ t.brk.number = s.brk.number + 1 ∧
        t.brk.latch = false ∧ t.brk.newest = s.brk.newest + 1 ∧ t.noticeSet .brk = true ∧ t.bin.scan = none ∧
        t.std.scanCount = count ∧ (t.std.due = true ↔ due) ∧ t.link.shutter = false ∧
        (departs → t.ex.lastRecord = s.ex.lastRecord + 2 ∧ readWord t.mem (a + 24) = 1 ∧
          readWord t.mem (a + 28) = s.ex.lastRecord + 2) ∧
        (¬ departs → t.ex.lastRecord = s.ex.lastRecord + 1 ∧ readWord t.mem (a + 24) = 0 ∧
          readWord t.mem (a + 28) = 0) ∧
        readWord t.mem a = s.brk.number + 1 ∧ readWord t.mem (a + 4) = s.link.timeCounter ∧
        readWord t.mem (a + 8) = s.trav.position ∧ readWord t.mem (a + 12) = s.trav.position ∧
        readWord t.mem (a + 16) = turned.code ∧ readWord t.mem (a + 20) = 8)))

/-- A fault is taken (R65, R66, R67): D 0, FAULTED, not homed, the cause live, HEADFAULT set, no scan, batch or
standardize left, one record for the work that was open; by STALL, LIMIT, DRIVE and OVERTRAVEL in the states of Table
3-1, OVERTRAVEL at every encoder step that leaves the position outside either bound. A standardize that a DRIVE fault ends
leaves its STDZ record with outcome FAULT and every channel ABANDONED, and its references as they were (R118, R119,
`StdEndedEarly`). -/
def Obligations.FaultTaken : Prop :=
  ∀ (c : Instr) (s : State) (cause : FaultCause), s.Sound → s.ex.life = .ready →
    (c = .stall ∧ cause = .stall ∧ s.page.stallTimeMs ≤ s.trav.stallTime ∧
        (s.trav.head = .homing ∨ s.trav.head = .outbound ∨ s.trav.head = .inbound ∨ s.trav.head = .movingToHold ∨
          s.trav.head = .returning ∨ s.trav.head = .stopping)) ∨
    (c = .backLimActive ∧ cause = .limit ∧ s.pins.backLim = false ∧ s.trav.head ≠ .unhomed ∧
      s.trav.head ≠ .standardizing ∧ s.trav.head ≠ .faulted) ∨
    (c = .frontLimActive ∧ cause = .limit ∧ s.pins.frontLim = false ∧ s.trav.head ≠ .unhomed ∧
      s.trav.head ≠ .standardizing ∧ s.trav.head ≠ .faulted ∧ s.trav.head ≠ .homing) ∨
    (c = .drvFaultActive ∧ cause = .drive ∧ s.pins.drvFault = false ∧ s.trav.head ≠ .unhomed ∧
      s.trav.head ≠ .faulted) ∨
    (∃ a b, c = .encoderStep a b ∧ cause = .overtravel ∧ s.trav.homed = true ∧ s.trav.head ≠ .standardizing ∧
      s.encoderCount a b ≠ 0 ∧
      let moved := (s.trav.position + BitVec.ofInt 32 (s.encoderCount a b)).toInt
      (moved < -(s.page.homeMargin : Int) - 1000 ∨ s.page.pEnd < moved)) →
    Completes c s (fun t =>
      t.trav.head = .faulted ∧ t.trav.duty = 0 ∧ t.trav.homed = false ∧ t.trav.faultCause = cause ∧
      t.trav.dwellTimer = none ∧ t.liveWord 0x048 = cause.code ∧ t.liveWord 0x038 = 12 ∧
      t.noticeSet .headFault = true ∧ t.bin.scan = none ∧ t.bin.batch = none ∧ t.std.ctx = none ∧
      t.link.shutter = false ∧ t.link.ref = false ∧
      t.ex.lastRecord = s.ex.lastRecord
        + (if s.bin.scan.isSome || s.bin.batch.isSome || s.std.ctx.isSome then 1 else 0) ∧
      ∀ ctx, s.std.ctx = some ctx → StdEndedEarly ctx 5 6 s t)

/-- The field inputs where no fault is taken (R47, R56, R65): an active edge in a state that does not check it keeps
the level alone; FRONT_LIM_L in HOMING before the position is set makes the head homed at −HOME_MARGIN; an input
becoming inactive changes its level alone; while STARTING only the pin changes; an active edge at an active pin
changes nothing (log entry 25). -/
def Obligations.FieldInputs : Prop :=
  ∀ s : State, s.Sound →
    (s.ex.life = .ready → s.pins.frontLim = false → s.trav.head = .homing → s.trav.homed = false →
      exec .frontLimActive s = .next { s with pins := { s.pins with frontLim := true }, trav := { s.trav with
        frontLim := true, homed := true, position := Word.ofSigned (-(s.page.homeMargin : Int)) } }) ∧
    (s.ex.life = .ready → s.pins.frontLim = false →
      (s.trav.head = .unhomed ∨ s.trav.head = .standardizing ∨ s.trav.head = .faulted ∨
        (s.trav.head = .homing ∧ s.trav.homed = true)) →
      exec .frontLimActive s = .next
        { s with pins := { s.pins with frontLim := true }, trav := { s.trav with frontLim := true } }) ∧
    (s.ex.life = .ready → s.pins.backLim = false →
      (s.trav.head = .unhomed ∨ s.trav.head = .standardizing ∨ s.trav.head = .faulted) →
      exec .backLimActive s = .next
        { s with pins := { s.pins with backLim := true }, trav := { s.trav with backLim := true } }) ∧
    (s.ex.life = .ready → s.pins.drvFault = false → (s.trav.head = .unhomed ∨ s.trav.head = .faulted) →
      exec .drvFaultActive s = .next
        { s with pins := { s.pins with drvFault := true }, trav := { s.trav with drvFault := true } }) ∧
    (s.ex.life = .starting → s.pins.frontLim = false → exec .frontLimActive s = .next
      { s with pins := { s.pins with frontLim := true } }) ∧
    (s.ex.life = .starting → s.pins.backLim = false → exec .backLimActive s = .next
      { s with pins := { s.pins with backLim := true } }) ∧
    (s.ex.life = .starting → s.pins.drvFault = false → exec .drvFaultActive s = .next
      { s with pins := { s.pins with drvFault := true } }) ∧
    (s.pins.frontLim = true → exec .frontLimActive s = .next s) ∧
    (s.pins.backLim = true → exec .backLimActive s = .next s) ∧
    (s.pins.drvFault = true → exec .drvFaultActive s = .next s) ∧
    (∀ i, Completes (.fieldInputInactive i) s (fun t =>
      t.pins = (match i with
        | .frontLim => { s.pins with frontLim := false }
        | .backLim => { s.pins with backLim := false }
        | .drvFault => { s.pins with drvFault := false }) ∧
      t.trav = (if s.ex.life = .ready then (match i with
        | .frontLim => { s.trav with frontLim := false }
        | .backLim => { s.trav with backLim := false }
        | .drvFault => { s.trav with drvFault := false }) else s.trav) ∧
      t = { s with pins := t.pins, trav := t.trav }))

/-- The dwell timer expires in TURNING (R58, R60, R123): the head departs INBOUND from the back turn, OUTBOUND from
the front turn, and a scan opens with the edges in use, N_BINS, the channel set and the first-after-break mark;
elsewhere, or with no timer running, nothing happens (log entry 1). -/
def Obligations.DwellExpiry : Prop :=
  ∀ s : State, s.Sound →
    (s.ex.life = .ready → s.trav.head = .turning → s.trav.dwellTimer ≠ none → Completes .dwellExpiry s (fun t =>
      t.trav.head = (if s.trav.turn = .back then .inbound else .outbound) ∧ t.trav.dwellTimer = none ∧
      t.link.shutter = true ∧ t.bin.firstAfterBreak = false ∧ t.liveWord 0x058 = 1 ∧
      t.liveWord 0x05C = s.link.timeCounter ∧ t.liveWord 0x038 = t.trav.head.code ∧
      (∃ ctx, t.bin.scan = some ctx ∧ ctx.dir = (if s.trav.turn = .back then .inbound else .outbound) ∧
        ctx.startTime = s.link.timeCounter ∧ ctx.startPos = s.trav.position ∧ ctx.front = s.bin.edgeFront ∧
        ctx.back = s.bin.edgeBack ∧ ctx.nBins = s.page.nBins ∧ ctx.chans.map ChanAcc.chan = s.page.channelSet ∧
        ctx.firstAfterBreak = s.bin.firstAfterBreak ∧ ctx.frontFinding = none ∧ ctx.backFinding = none ∧
        ctx.search = none ∧
        ∀ a ∈ ctx.chans, a.bins = List.replicate s.page.nBins { sum := 0, count := 0 } ∧ a.accepted = 0 ∧
          a.rejOffSheet = 0 ∧ a.rejFull = 0) ∧
      t.trav.position = s.trav.position ∧ t.arb = s.arb ∧ t.ex = s.ex ∧ t.alarms = s.alarms ∧ t.brk = s.brk)) ∧
    (s.trav.head ≠ .turning ∨ s.trav.dwellTimer = none → exec .dwellExpiry s = .next s)

/-- The encoder (R45): a step in the order (0,0), (1,0), (1,1), (0,1) adds 1 with ENCODER_SENSE NORMAL and subtracts 1
with REVERSED, a step in the reverse order the other way, and a change of both inputs counts nothing
(`State.encoderCount`); the levels become the reference. A step that leaves a homed head, not STANDARDIZING, below
−HOME_MARGIN − 1,000 or above P_END faults it with OVERTRAVEL at the new position (R66, R67); every other changes nothing
else. While STARTING only the levels are kept. -/
def Obligations.EncoderStep : Prop :=
  ∀ (a b : Bool) (s : State), s.Sound →
    let d := s.encoderCount a b
    let moved : State := { s with pins := { s.pins with encA := a, encB := b }, trav := { s.trav with
      position := s.trav.position + BitVec.ofInt 32 d } }
    let outside := d ≠ 0 ∧ s.trav.homed = true ∧ s.trav.head ≠ .standardizing ∧
      (moved.trav.position.toInt < -(s.page.homeMargin : Int) - 1000 ∨ s.page.pEnd < moved.trav.position.toInt)
    (s.ex.life = .ready → ¬ outside → exec (.encoderStep a b) s = .next moved) ∧
    (s.ex.life = .ready → outside → Completes (.encoderStep a b) s (fun t =>
      t.trav.position = moved.trav.position ∧ t.pins = moved.pins ∧ t.trav.head = .faulted ∧
      t.trav.faultCause = .overtravel ∧ t.trav.duty = 0 ∧ t.trav.homed = false ∧ t.liveWord 0x048 = 3)) ∧
    (s.ex.life = .starting →
      exec (.encoderStep a b) s = .next { s with pins := { s.pins with encA := a, encB := b } })

/-! ## Panel, alarms, breaks -/

/-- A raw level change of a panel input (R77) or of BREAK_IN_L (R172): while READY the debounce timer starts, with 20
ms or with DEBOUNCE, where the level now differs from the debounced level, and stops where it equals it; while
STARTING only the pin changes; the level held is no change (log entry 25). -/
def Obligations.DebouncedInputChange : Prop :=
  (∀ (active : Bool) (s : State), s.Sound →
    (s.ex.life = .ready → s.pins.panelPark ≠ active → exec (.panelInputChange .park active) s = .next
      { s with pins := { s.pins with panelPark := active }, arb := { s.arb with
        parkTimer := if active = s.arb.panelPark then none else some 20000 } }) ∧
    (s.ex.life = .ready → s.pins.panelInhibit ≠ active → exec (.panelInputChange .inhibit active) s = .next
      { s with pins := { s.pins with panelInhibit := active }, arb := { s.arb with
        inhibitTimer := if active = s.arb.panelInhibit then none else some 20000 } }) ∧
    (s.ex.life = .starting → exec (.panelInputChange .park active) s = .next
      { s with pins := { s.pins with panelPark := active } }) ∧
    (s.ex.life = .starting → exec (.panelInputChange .inhibit active) s = .next
      { s with pins := { s.pins with panelInhibit := active } }) ∧
    (s.pins.panelPark = active → exec (.panelInputChange .park active) s = .next s) ∧
    (s.pins.panelInhibit = active → exec (.panelInputChange .inhibit active) s = .next s)) ∧
  (∀ (active : Bool) (s : State), s.Sound →
    (s.ex.life = .ready → s.pins.breakIn ≠ active → exec (.breakInChange active) s = .next
      { s with pins := { s.pins with breakIn := active }, brk := { s.brk with
        lineTimer := if active = s.brk.line then none else some (s.page.debounceMs * 1000) } }) ∧
    (s.ex.life = .starting → exec (.breakInChange active) s = .next
      { s with pins := { s.pins with breakIn := active } }) ∧
    (s.pins.breakIn = active → exec (.breakInChange active) s = .next s))

/-- A panel debounce expiry (R77 to R80): the debounced level takes the raw level, the timer stops, the goal and the
permission follow, and PANEL is set exactly when the goal or the permission changed: at every change of the inhibit, at
a park applied under another goal, and at a park released to another goal; with no timer running nothing happens (log
entry 1). -/
def Obligations.PanelDebounceExpiry : Prop :=
  ∀ (i : PanelInput) (s : State), s.Sound → s.arb.granted = (!s.arb.panelInhibit) →
    (s.arb.goal = .hold → s.arb.holdPos = s.ex.holdPos) →
    (s.ex.life = .ready → s.arb.timer i ≠ none → Completes (.panelDebounceExpiry i) s (fun t =>
      t.arb.timer i = none ∧
      t.arb.panelPark = (if i = .park then s.pins.panelPark else s.arb.panelPark) ∧
      t.arb.panelInhibit = (if i = .inhibit then s.pins.panelInhibit else s.arb.panelInhibit) ∧
      t.arb.granted = (!t.arb.panelInhibit) ∧ t.arb.goal = t.claimedGoal ∧
      (i = .inhibit → (t.noticeSet .panel = true ↔
        s.noticeSet .panel = true ∨ s.pins.panelInhibit ≠ s.arb.panelInhibit)) ∧
      (i = .park → s.pins.panelPark = true → t.arb.goal = .park ∧ t.trav.head.shutterOpen = false ∧
        (t.noticeSet .panel = true ↔ s.noticeSet .panel = true ∨ s.arb.goal ≠ .park)) ∧
      (i = .park → s.pins.panelPark = false → (t.noticeSet .panel = true ↔ s.noticeSet .panel = true ∨
        ({ s with arb := { s.arb with panelPark := false } } : State).claimedGoal ≠ s.arb.goal)))) ∧
    (s.arb.timer i = none → exec (.panelDebounceExpiry i) s = .next s)

/-- Raising and clearing an alarm entry (R160): a raise of a NORMAL entry makes it ACTIVE with TIMES_RAISED one more
up to 65,535, LAST_CHANGE the time counter, both streaks 0 and ALARM set, and says so; a clear does the same but for
TIMES_RAISED; on an entry already there only a handed value is taken. A judged scan entry moves (R162): a NORMAL entry
counts violating scans and is raised at RAISE_SCANS, an ACTIVE one counts clear scans and is cleared at CLEAR_SCANS;
every other finding sets its streak to 0. The judgements: AVG_HIGH and AVG_LOW by the average (R163), PROFILE_HIGH and
PROFILE_LOW by how many data bins are beyond the limit, clear only with none within HYST of it (R164). The flags HIGH and
LOW of a bin: a data bin of an enabled kind beyond its limit (R165). -/
def Obligations.AlarmEntries : Prop :=
  (∀ (p : Page) (k : Nat) (avg : Int) (bins : List ProfBin),
    let h : Int := p.hyst k
    let nHigh := bins.countP (fun b => decide (b.cls = .data) && decide (p.binHigh k < b.value))
    let nLow := bins.countP (fun b => decide (b.cls = .data) && decide (b.value < p.binLow k))
    let j := fun kind => judgeKind p k kind avg bins
    ((j 0).2 = avg ∧ (p.avgHigh k < avg → (j 0).1 = .violating) ∧ (avg ≤ p.avgHigh k - h → (j 0).1 = .clear) ∧
      (p.avgHigh k - h < avg → avg ≤ p.avgHigh k → (j 0).1 = .neither)) ∧
    ((j 1).2 = avg ∧ (avg < p.avgLow k → (j 1).1 = .violating) ∧ (p.avgLow k + h ≤ avg → (j 1).1 = .clear) ∧
      (avg < p.avgLow k + h → p.avgLow k ≤ avg → (j 1).1 = .neither)) ∧
    ((j 2).2 = nHigh ∧ ((j 2).1 = .violating ↔ p.binAlarmCount k ≤ nHigh) ∧
      ((j 2).1 = .clear ↔ nHigh < p.binAlarmCount k ∧ ∀ b ∈ bins, b.cls = .data → b.value ≤ p.binHigh k - h)) ∧
    ((j 3).2 = nLow ∧ ((j 3).1 = .violating ↔ p.binAlarmCount k ≤ nLow) ∧
      ((j 3).1 = .clear ↔ nLow < p.binAlarmCount k ∧ ∀ b ∈ bins, b.cls = .data → p.binLow k + h ≤ b.value)) ∧
    (∀ b : ProfBin,
      ((binFlags p k b).1 = true ↔ b.cls = .data ∧ p.kindEnabled k 2 = true ∧ p.binHigh k < b.value) ∧
      ((binFlags p k b).2 = true ↔ b.cls = .data ∧ p.kindEnabled k 3 = true ∧ b.value < p.binLow k))) ∧
  (∀ (i : Fin 48) (v : Option Int) (s : State),
    let e := s.alarms[i]
    let value := v.getD e.lastValue
    (e.active = false →
      (s.raiseAlarm i v).1 = true ∧ (s.raiseAlarm i v).2.alarms = s.alarms.set i.val
        { active := true, violationStreak := 0, clearStreak := 0, timesRaised := min 65535 (e.timesRaised + 1),
          lastChange := s.link.timeCounter, lastValue := value } i.isLt ∧
      (s.raiseAlarm i v).2.noticeSet .alarm = true ∧
      (s.clearAlarm i v).alarms = s.alarms.set i.val { e with lastValue := value } i.isLt ∧
      (s.clearAlarm i v).ex = s.ex) ∧
    (e.active = true →
      (s.raiseAlarm i v).1 = false ∧
      (s.raiseAlarm i v).2.alarms = s.alarms.set i.val { e with lastValue := value } i.isLt ∧
      (s.raiseAlarm i v).2.ex = s.ex ∧
      (s.clearAlarm i v).alarms = s.alarms.set i.val
        { active := false, violationStreak := 0, clearStreak := 0, timesRaised := e.timesRaised,
          lastChange := s.link.timeCounter, lastValue := value } i.isLt ∧
      (s.clearAlarm i v).noticeSet .alarm = true)) ∧
  (∀ (i : Fin 48) (j : Judgement) (v : Int) (raise clear : Nat) (s : State), 1 ≤ raise → raise ≤ 15 → 1 ≤ clear →
    clear ≤ 15 →
    let e := s.alarms[i]
    let t := (s.moveEntry i j v raise clear).2
    t.alarms[i].lastValue = v ∧
    (e.active = false → j = .violating → e.violationStreak + 1 < raise →
      t.alarms[i].active = false ∧ t.alarms[i].violationStreak = e.violationStreak + 1) ∧
    (e.active = false → j = .violating → raise ≤ e.violationStreak + 1 →
      t.alarms[i].active = true ∧ t.alarms[i].violationStreak = 0 ∧ t.noticeSet .alarm = true ∧
        (s.moveEntry i j v raise clear).1 = true) ∧
    (e.active = false → j ≠ .violating → t.alarms[i].active = false ∧ t.alarms[i].violationStreak = 0) ∧
    (e.active = true → j = .clear → e.clearStreak + 1 < clear →
      t.alarms[i].active = true ∧ t.alarms[i].clearStreak = e.clearStreak + 1) ∧
    (e.active = true → j = .clear → clear ≤ e.clearStreak + 1 →
      t.alarms[i].active = false ∧ t.alarms[i].clearStreak = 0 ∧ t.noticeSet .alarm = true) ∧
    (e.active = true → j ≠ .clear → t.alarms[i].active = true ∧ t.alarms[i].clearStreak = 0))

/-- The edge search of an open scan (R127, R128): under TRACK a usable BW sample between the turn positions becomes the
search memory and forms a rise or a fall with the one before; a rise or fall near an edge in use is recorded by the
direction of the scan; any other sample changes nothing. The judgement at a close (R130): a pair at least two bins' widths
apart is adopted as the edges in use with both miss counts 0; otherwise the edges stand, a side whose finding is absent,
or both sides of a narrow pair, count a miss up to 15, and a found side returns to 0; a side whose count becomes the
limit has its entry raised with the count and hands the EDGE cue, and a count of 0 clears the side's entry with value 0.
The EDGE cue at the break monitor (R131, R174, R178): in DISARMED or with EDGE disabled nothing; in BROKEN it is added to
CUES_AFTER of the newest entry and nothing else changes; in WATCH it declares the break at the position counter (what
becomes of the head and its scan: Arrival).
The alarm rows by themselves (R130, R162): a miss count at EDGE_MISS_LIMIT raises the side's entry with the count;
a violation streak at RAISE_SCANS raises its NORMAL entry, a clear streak at CLEAR_SCANS clears its ACTIVE one; below
the limit nothing changes (log entries 1 and 26). ALARM_L is asserted exactly while some ACTIVE entry has its
ALARM_OUT enabled (R161): the scan kinds in bits 0 to 3 of their own record, STD_FAULT in bit 4 of records 0 to 7, the
device entries in bits 4 to 7 of record 8. -/
def Obligations.AlarmRows : Prop :=
  (∀ (ctx : ScanCtx) (p : Page) (pos : Int) (xs : List Sample),
    let t := ctx.edgeSearch p pos xs
    let bw := (roleSample p xs roleBw).bind Sample.usableValue
    let near := fun edge q : Int => |q - edge| ≤ (p.edgeWindow : Int)
    (p.edgeTrack = false ∨ pos ≤ p.fTurn ∨ p.bTurn ≤ pos ∨ bw = none → t = ctx) ∧
    (∀ v, p.edgeTrack = true → p.fTurn < pos → pos < p.bTurn → bw = some v →
      t = { ctx with search := t.search, frontFinding := t.frontFinding, backFinding := t.backFinding } ∧
      t.search = some { onSheet := decide (p.edgeThreshold ≤ v), position := pos } ∧
      (ctx.search = none → t.frontFinding = ctx.frontFinding ∧ t.backFinding = ctx.backFinding) ∧
      (∀ m, ctx.search = some m →
        let rise := m.onSheet = false ∧ p.edgeThreshold ≤ v
        let fall := m.onSheet = true ∧ v < p.edgeThreshold
        (ctx.dir = .outbound →
          (rise ∧ near ctx.front pos ∧ ctx.frontFinding = none → t.frontFinding = some pos) ∧
          (¬ (rise ∧ near ctx.front pos ∧ ctx.frontFinding = none) → t.frontFinding = ctx.frontFinding) ∧
          (fall ∧ near ctx.back m.position → t.backFinding = some m.position) ∧
          (¬ (fall ∧ near ctx.back m.position) → t.backFinding = ctx.backFinding)) ∧
        (ctx.dir = .inbound →
          (fall ∧ near ctx.front m.position → t.frontFinding = some m.position) ∧
          (¬ (fall ∧ near ctx.front m.position) → t.frontFinding = ctx.frontFinding) ∧
          (rise ∧ near ctx.back pos ∧ ctx.backFinding = none → t.backFinding = some pos) ∧
          (¬ (rise ∧ near ctx.back pos ∧ ctx.backFinding = none) → t.backFinding = ctx.backFinding))))) ∧
  (∀ (ctx : ScanCtx) (s : State),
    let j := s.judgeEdges ctx
    let adopted := ∃ f b, ctx.frontFinding = some f ∧ ctx.backFinding = some b ∧ 2 * (ctx.nBins : Int) ≤ b - f
    let found := fun side : Side => match side with
      | .front => ctx.frontFinding
      | .back => ctx.backFinding
    let missed := fun side => ¬ adopted ∧ (found side = none ∨ (found .front ≠ none ∧ found .back ≠ none))
    let reached := fun side => missed side ∧ min 15 (s.bin.miss side + 1) = s.page.edgeMissLimit ∧
      s.bin.miss side ≠ s.page.edgeMissLimit
    (∀ f b, ctx.frontFinding = some f → ctx.backFinding = some b → 2 * (ctx.nBins : Int) ≤ b - f →
      j.state.bin.edgeFront = f ∧ j.state.bin.edgeBack = b) ∧
    (¬ adopted → j.state.bin.edgeFront = s.bin.edgeFront ∧ j.state.bin.edgeBack = s.bin.edgeBack) ∧
    (j.cue = true ↔ ∃ side, reached side) ∧
    (∀ side,
      let e := s.alarms[edgeLostAlarm side]
      let e' := j.state.alarms[edgeLostAlarm side]
      (missed side → j.state.bin.miss side = min 15 (s.bin.miss side + 1)) ∧
      (¬ missed side → j.state.bin.miss side = 0 ∧ e'.active = false ∧ (e.active = true → e'.lastValue = 0)) ∧
      (reached side → e'.active = true ∧ e'.lastValue = s.page.edgeMissLimit) ∧
      (missed side → ¬ reached side → e' = e)) ∧
    (∀ i, j.kinds.getLsbD i = true ↔
      (i = 5 ∧ reached .front ∧ s.alarms[edgeLostAlarm .front].active = false) ∨
      (i = 6 ∧ reached .back ∧ s.alarms[edgeLostAlarm .back].active = false))) ∧
  (∀ s : State,
    let t := s.edgeCue
    (s.page.cueEdge = false ∨ s.brk.state = .disarmed → t = s) ∧
    (s.page.cueEdge = true → s.brk.state = .broken →
      let after := historyBase + 64 * s.brk.newest.val + 32
      t = { s with mem := t.mem } ∧ readWord t.mem after = readWord s.mem after ||| 8 ∧
      ∀ x, x < after ∨ after + 4 ≤ x → readByte t.mem x = readByte s.mem x) ∧
    (s.page.cueEdge = true → s.brk.state = .watch →
      let a := historyBase + 64 * (s.brk.newest + 1).val
      t.brk.state = .broken ∧ t.brk.number = s.brk.number + 1 ∧ t.brk.latch = false ∧ t.brk.lowCount = 0 ∧
      t.brk.openCount = 0 ∧ t.brk.newest = s.brk.newest + 1 ∧ t.arb.goal = .park ∧ t.noticeSet .brk = true ∧
      readWord t.mem a = s.brk.number + 1 ∧ readWord t.mem (a + 4) = s.link.timeCounter ∧
      readWord t.mem (a + 8) = s.trav.position ∧ readWord t.mem (a + 12) = s.trav.position ∧
      readWord t.mem (a + 16) = s.trav.head.code ∧ readWord t.mem (a + 20) = 8 ∧
      readWord t.mem (a + 32) = 0 ∧ readWord t.mem (a + 36) = 0 ∧ readWord t.mem (a + 40) = 0)) ∧
  (∀ s : State, s.Sound → s.ex.life = .ready →
    (∀ side, s.bin.miss side = s.page.edgeMissLimit → Completes (.edgeMissLimitReached side) s (fun t =>
      t.alarms[edgeLostAlarm side].active = true ∧
      t.alarms[edgeLostAlarm side].lastValue = s.page.edgeMissLimit ∧ t.bin = s.bin ∧ t.trav = s.trav ∧ t.brk = s.brk ∧
      (s.alarms[edgeLostAlarm side].active = false → t.noticeSet .alarm = true))) ∧
    (∀ side, s.bin.miss side ≠ s.page.edgeMissLimit → exec (.edgeMissLimitReached side) s = .next s) ∧
    (∀ (c : Fin 9) (kind : Fin 4),
      let i : Fin 36 := ⟨4 * c.val + kind.val, by omega⟩
      let e := s.alarms[scanAlarm c kind]
      s.page.kindEnabled c.val kind.val = true →
      (e.active = false → s.page.raiseScans c.val ≤ e.violationStreak → Completes (.alarmStreakReached i) s (fun t =>
        t.alarms[scanAlarm c kind].active = true ∧ t.alarms[scanAlarm c kind].violationStreak = 0 ∧
        t.alarms[scanAlarm c kind].timesRaised = min 65535 (e.timesRaised + 1) ∧ t.noticeSet .alarm = true ∧
        t.bin = s.bin ∧ t.trav = s.trav)) ∧
      (e.active = true → s.page.clearScans c.val ≤ e.clearStreak → Completes (.alarmStreakReached i) s (fun t =>
        t.alarms[scanAlarm c kind].active = false ∧ t.alarms[scanAlarm c kind].clearStreak = 0 ∧
        t.alarms[scanAlarm c kind].lastValue = e.lastValue ∧ t.noticeSet .alarm = true ∧ t.bin = s.bin ∧
        t.trav = s.trav))) ∧
    (∀ (c : Fin 9) (kind : Fin 4),
      let i : Fin 36 := ⟨4 * c.val + kind.val, by omega⟩
      let e := s.alarms[scanAlarm c kind]
      s.page.kindEnabled c.val kind.val = false ∨ (e.active = false ∧ e.violationStreak < s.page.raiseScans c.val) ∨
        (e.active = true ∧ e.clearStreak < s.page.clearScans c.val) → exec (.alarmStreakReached i) s = .next s)) ∧
  (∀ s : State, s.ex.life = .ready →
    (s.alarmLine = true ↔
      (∃ (c : Fin 9) (kind : Fin 4), s.alarms[scanAlarm c kind].active = true ∧ s.page.alarmOut c.val kind.val = true) ∨
      (∃ c : Fin 8, s.alarms[stdFaultAlarm c].active = true ∧ s.page.alarmOut c.val 4 = true) ∨
      (∃ d : Fin 4, s.alarms[(⟨44 + d.val, by omega⟩ : Fin 48)].active = true ∧ s.page.alarmOut 8 (4 + d.val) = true)))

/-- A gauge cue fires in WATCH (R171, R176, R177): the next break number, BROKEN, latch clear, counts 0, the goal
PARK, BREAK set, and the history entry after the newest index with number, time, position, cue position, head state
and cues; open work ends with one record. The cue position is the command's operand (log entry 28); the
position is the counter as the event found it (log entry 33, where an apply in the event changes the counter). The counts behind
the cues (R170, R171): in WATCH, on a frame latched OUTBOUND, INBOUND or HOLDING at a position on the sheet, the LOW
count of an enabled cue rises with a usable BW value below BREAK_FLOOR and returns to 0 with one at or above, the OPEN
count with a LIGHT value above OPEN_CEILING; every other frame leaves them, and outside WATCH nothing moves. A cue stands
at PERSIST_A or PERSIST_B, and a frame after which one stands declares the break at the frame's latched position. -/
def Obligations.GaugeCueDeclaresBreak : Prop :=
  (∀ (f : Frame) (xs : List Sample) (s : State),
    let t := s.moveCounts f xs
    let judged := (f.head = .outbound ∨ f.head = .inbound ∨ f.head = .holding) ∧
      s.bin.edgeFront ≤ f.position.toInt ∧ f.position.toInt < s.bin.edgeBack
    let bw := (roleSample s.page xs roleBw).bind Sample.usableValue
    let light := (roleSample s.page xs roleLight).bind Sample.usableValue
    (s.brk.state ≠ .watch → t = s ∧ s.gaugeCues = 0) ∧
    (s.brk.state = .watch →
      t = { s with brk := { s.brk with lowCount := t.brk.lowCount, openCount := t.brk.openCount } } ∧
      (¬ judged ∨ s.page.cueLow = false ∨ bw = none → t.brk.lowCount = s.brk.lowCount) ∧
      (¬ judged ∨ s.page.cueOpen = false ∨ light = none → t.brk.openCount = s.brk.openCount) ∧
      (∀ v, judged → s.page.cueLow = true → bw = some v →
        t.brk.lowCount = (if v < s.page.breakFloor then min 255 (s.brk.lowCount + 1) else 0)) ∧
      (∀ v, judged → s.page.cueOpen = true → light = some v →
        t.brk.openCount = (if s.page.openCeiling < v then min 255 (s.brk.openCount + 1) else 0)) ∧
      (s.gaugeCues.getLsbD 0 = true ↔ s.page.cueLow = true ∧ s.page.persistA ≤ s.brk.lowCount) ∧
      (s.gaugeCues.getLsbD 1 = true ↔ s.page.cueOpen = true ∧ s.page.persistB ≤ s.brk.openCount) ∧
      s.gaugeCues.getLsbD 2 = false ∧ s.gaugeCues.getLsbD 3 = false) ∧
    s.breakFrame f xs = (if t.gaugeCues = 0 then t else t.declare t.gaugeCues f.position)) ∧
  ∀ (cuePos : Word) (s : State), s.Sound → s.ex.life = .ready → s.gaugeCues ≠ 0 →
    Completes (.gaugeCueFire cuePos) s (fun t =>
      let a := historyBase + 64 * (s.brk.newest + 1).val
      t.brk.number = s.brk.number + 1 ∧ t.brk.state = .broken ∧ t.brk.latch = false ∧ t.brk.lowCount = 0 ∧
      t.brk.openCount = 0 ∧ t.brk.newest = s.brk.newest + 1 ∧ t.arb.goal = .park ∧ t.noticeSet .brk = true ∧
      t.trav.head.shutterOpen = false ∧ t.bin.scan = none ∧ t.bin.batch = none ∧
      readWord t.mem a = s.brk.number + 1 ∧ readWord t.mem (a + 4) = s.link.timeCounter ∧
      readWord t.mem (a + 8) = s.trav.position ∧ readWord t.mem (a + 12) = cuePos ∧
      readWord t.mem (a + 16) = s.trav.head.code ∧ readWord t.mem (a + 20) = s.gaugeCues.setWidth 32 ∧
      readWord t.mem (a + 24) = (if s.bin.scan.isSome then 1 else if s.bin.batch.isSome then 2 else 0) ∧
      readWord t.mem (a + 28) = (if s.bin.scan.isSome || s.bin.batch.isSome then s.ex.lastRecord + 1 else 0) ∧
      readWord t.mem (a + 32) = 0 ∧ readWord t.mem (a + 36) = 0 ∧ readWord t.mem (a + 40) = 0 ∧
      t.liveWord 0x04C = 2 ∧ t.liveWord 0x050 = s.brk.number + 1 ∧
      t.liveWord 0x054 = BitVec.ofNat 32 (s.brk.newest + 1).val)

/-- The line debounce expiry (R172, R173, R178, R180): the debounced level takes the raw level and the timer stops.
Becoming active with LINE enabled it declares a break in WATCH and is added to CUES_AFTER in BROKEN; becoming inactive
with the latch set in BROKEN it ends the break; otherwise nothing else changes. With no timer running the command does
nothing (log entry 1). -/
def Obligations.LineDebounceExpiry : Prop :=
  ∀ s : State, s.Sound →
    (s.brk.lineTimer = none ∨ s.ex.life = .starting → exec .lineDebounceExpiry s = .next s) ∧
    (s.ex.life = .ready → s.brk.lineTimer ≠ none →
      let kept : State := { s with brk := { s.brk with lineTimer := none, line := s.pins.breakIn } }
      ((s.pins.breakIn = s.brk.line ∨ (s.pins.breakIn = true ∧ (s.page.cueLine = false ∨ s.brk.state = .disarmed)) ∨
        (s.pins.breakIn = false ∧ (s.brk.state ≠ .broken ∨ s.brk.latch = false))) →
        exec .lineDebounceExpiry s = .next kept) ∧
      (s.pins.breakIn = true → s.brk.line = false → s.page.cueLine = true → s.brk.state = .watch →
        Completes .lineDebounceExpiry s (fun t =>
          t.brk.line = true ∧ t.brk.lineTimer = none ∧ t.brk.state = .broken ∧ t.brk.number = s.brk.number + 1 ∧
          t.arb.goal = .park ∧ t.noticeSet .brk = true ∧
          readWord t.mem (historyBase + 64 * (s.brk.newest + 1).val + 20) = 4)) ∧
      (s.pins.breakIn = true → s.brk.line = false → s.page.cueLine = true → s.brk.state = .broken →
        Completes .lineDebounceExpiry s (fun t =>
          t = { kept with mem := t.mem } ∧
          readWord t.mem (historyBase + 64 * s.brk.newest.val + 32)
            = readWord s.mem (historyBase + 64 * s.brk.newest.val + 32) ||| 4)) ∧
      (s.pins.breakIn = false → s.brk.line = true → s.brk.state = .broken → s.brk.latch = true →
        (s.ex.applyPending = false ∨ s.trav.head ≠ .standardizing) → Completes .lineDebounceExpiry s (fun t =>
          t.brk.line = false ∧ t.brk.lineTimer = none ∧ t.noticeSet .resumed = true ∧
          t.brk.state = (if s.brk.armed = true ∧ s.page.cueEnables ≠ 0 then .watch else .disarmed))))

/-- The monitor leaves BROKEN (R180, R137, R142): WATCH or DISARMED by the armed flag and the enables, counts 0, miss
counts 0, the plan's edges under TRACK, the first-after-break mark set (or taken by the scan that opens in the event),
every channel unseeded, RESUME_TIME written, RESUMED set, the goal by the claims, where no pending apply is taken in
the same event. -/
def Obligations.BreakResume : Prop :=
  ∀ s : State, s.Sound → s.ex.life = .ready → s.brk.state = .broken → s.brk.latch = true →
    (s.page.cueLine = false ∨ s.brk.line = false) → (s.ex.applyPending = false ∨ s.trav.head ≠ .standardizing) →
    Completes .breakResume s (fun t =>
      t.brk.state = (if s.brk.armed = true ∧ s.page.cueEnables ≠ 0 then .watch else .disarmed) ∧
      t.brk.lowCount = 0 ∧ t.brk.openCount = 0 ∧ t.bin.missFront = 0 ∧ t.bin.missBack = 0 ∧
      (s.page.edgeTrack = true → t.bin.edgeFront = s.page.eFront ∧ t.bin.edgeBack = s.page.eBack) ∧
      (t.bin.firstAfterBreak = true ∨ ∃ ctx, t.bin.scan = some ctx ∧ ctx.firstAfterBreak = true) ∧
      (∀ c : Fin 9, t.filters[c].seeded = false) ∧
      readWord t.mem (historyBase + 64 * s.brk.newest.val + 40) = s.link.timeCounter ∧
      t.noticeSet .resumed = true ∧ t.arb.goal = t.claimedGoal ∧ t.brk.number = s.brk.number ∧
      (s.trav.head ≠ .standardizing → t.ex.lastRecord = s.ex.lastRecord))

/-- The goal by the claims (R74): the first claim that holds, read from the top; a recompute gives the record this
goal, and under HOLD the requested hold position. The departure permission of the record is withheld exactly while the
panel inhibit stands (R54, R73, R79): so it is after reset, and every step keeps it. -/
def Obligations.GoalByClaims : Prop :=
  (State.reset.arb.granted = !State.reset.arb.panelInhibit) ∧
  (∀ s t : State, s.arb.granted = (!s.arb.panelInhibit) → step s = .next t →
    t.arb.granted = !t.arb.panelInhibit) ∧
  ∀ s : State, s.ex.life = .ready →
    let demand := s.brk.state = .broken ∨ s.link.up = false ∨ s.arb.panelPark = true
    (demand → s.claimedGoal = .park) ∧
    (¬demand → s.ex.reqMode = .stop → s.claimedGoal = .stop) ∧
    (¬demand → s.ex.reqMode = .park → s.claimedGoal = (if s.std.stdNow then .standardize else .park)) ∧
    (¬demand → s.ex.reqMode = .home → s.claimedGoal = .home) ∧
    (¬demand → s.ex.reqMode = .scan →
      s.claimedGoal = (if s.std.due || s.std.stdNow then .standardize else .scan)) ∧
    (¬demand → s.ex.reqMode = .hold →
      s.claimedGoal = (if s.std.due || s.std.stdNow then .standardize else .hold)) ∧
    (∀ ev, (s.recompute ev).state.arb.goal = s.claimedGoal ∧
      (s.claimedGoal = .hold → (s.recompute ev).state.arb.holdPos = s.ex.holdPos))
end

