-- ==== Sys2Proof/Laws/Memory.lean ====
section
/-!
SUPPORT. Laws of the exchange memory: what a read gives after a write, and that every operation on the memory keeps its
canonical form.
-/

namespace Sys2Proof.Laws

open Sys2Proof.Machine

/-! ## One byte -/

theorem lookup_cons (b k : Nat) (w : Byte) (t : Mem) :
    List.lookup b ((k, w) :: t) = if b = k then some w else List.lookup b t := by
  by_cases h : b = k
  · simp [List.lookup, h]
  · have : (b == k) = false := by simpa using h
    simp only [List.lookup, this, h, if_false]

theorem lookup_insertByte (a b : Nat) (v : Byte) (m : Mem) :
    (insertByte a v m).lookup b = if b = a then some v else m.lookup b := by
  induction m with
  | nil => simp only [insertByte, lookup_cons]
  | cons c t ih =>
    obtain ⟨k, w⟩ := c
    unfold insertByte
    split
    · rw [lookup_cons]
    · split
      · rename_i h2
        simp only at h2
        subst h2
        by_cases h : b = a <;> simp only [lookup_cons, h, if_true, if_false]
      · rename_i h1 h2
        simp only at h1 h2
        rw [lookup_cons, lookup_cons, ih]
        by_cases h : b = k
        · subst h; simp [Ne.symm h2]
        · simp [h]

theorem lookup_filter_ne (a b : Nat) (m : Mem) :
    (m.filter (fun c => decide (c.1 ≠ a))).lookup b = if b = a then none else m.lookup b := by
  induction m with
  | nil => simp
  | cons c t ih =>
    obtain ⟨k, w⟩ := c
    by_cases hk : k = a
    · subst hk
      rw [List.filter_cons_of_neg (by simp), ih, lookup_cons]
      by_cases hb : b = k <;> simp [hb]
    · rw [List.filter_cons_of_pos (by simp [hk]), lookup_cons, lookup_cons, ih]
      by_cases hb : b = k
      · subst hb; simp [hk]
      · simp [hb]

/-- A byte read after a byte is written: the byte written at its address, every other as before. -/
theorem readByte_writeByte (m : Mem) (a b : Nat) (v : Byte) :
    readByte (writeByte m a v) b = if b = a then v else readByte m b := by
  unfold readByte writeByte
  split
  · rename_i h
    rw [lookup_filter_ne]
    by_cases hb : b = a
    · subst hb; simp [h]
    · simp [hb]
  · rw [lookup_insertByte]
    by_cases hb : b = a <;> simp [hb]

/-! ## One word -/

/-- The four bytes of a word, put together again. -/
theorem byteOf_append (w : Word) : byteOf w 3 ++ byteOf w 2 ++ byteOf w 1 ++ byteOf w 0 = w := by
  apply BitVec.eq_of_getLsbD_eq
  intro i hi
  simp only [byteOf, BitVec.getLsbD_append, BitVec.getLsbD_extractLsb']
  by_cases h0 : i < 8
  · simp [h0]
  · by_cases h1 : i - 8 < 8
    · simp only [h0, h1, decide_false, decide_true, Bool.true_and, if_true, if_false]
      congr 1; omega
    · by_cases h2 : i - 8 - 8 < 8
      · simp only [h0, h1, h2, decide_false, decide_true, Bool.true_and, if_true, if_false]
        congr 1; omega
      · have h3 : i - 8 - 8 - 8 < 8 := by omega
        simp only [h0, h1, h2, h3, decide_false, decide_true, Bool.true_and, if_false]
        congr 1; omega

/-- A byte read after a word is written. -/
theorem readByte_writeWord (m : Mem) (a b : Nat) (w : Word) :
    readByte (writeWord m a w) b = if a ≤ b ∧ b < a + 4 then byteOf w (b - a) else readByte m b := by
  unfold writeWord
  simp only [readByte_writeByte]
  by_cases h : a ≤ b ∧ b < a + 4
  · simp only [h, and_self, if_true]
    have hd : b = a ∨ b = a + 1 ∨ b = a + 2 ∨ b = a + 3 := by omega
    rcases hd with hd | hd | hd | hd <;> subst hd <;> simp
  · have h0 : b ≠ a := by omega
    have h1 : b ≠ a + 1 := by omega
    have h2 : b ≠ a + 2 := by omega
    have h3 : b ≠ a + 3 := by omega
    simp [h, h0, h1, h2, h3]

/-- A word reads as it was written. -/
theorem readWord_writeWord_same (m : Mem) (a : Nat) (w : Word) : readWord (writeWord m a w) a = w := by
  unfold readWord
  simp only [readByte_writeWord]
  have := byteOf_append w
  simpa using this

/-- A word that does not touch the one written reads as before. -/
theorem readWord_writeWord_other (m : Mem) (a b : Nat) (w : Word) (h : b + 4 ≤ a ∨ a + 4 ≤ b) :
    readWord (writeWord m a w) b = readWord m b := by
  unfold readWord
  simp only [readByte_writeWord]
  rw [if_neg (by omega), if_neg (by omega), if_neg (by omega), if_neg (by omega)]

/-- A byte outside consecutive words written reads as before. -/
theorem readByte_writeWords_other (ws : List Word) (m : Mem) (a b : Nat) (h : b < a ∨ a + 4 * ws.length ≤ b) :
    readByte (writeWords m a ws) b = readByte m b := by
  induction ws generalizing m a with
  | nil => rfl
  | cons w t ih =>
    simp only [List.length_cons] at h
    rw [writeWords, ih _ _ (by omega), readByte_writeWord, if_neg (by omega)]

/-- A word outside consecutive words written reads as before. -/
theorem readWord_writeWords_other (ws : List Word) (m : Mem) (a b : Nat) (h : b + 4 ≤ a ∨ a + 4 * ws.length ≤ b) :
    readWord (writeWords m a ws) b = readWord m b := by
  unfold readWord
  rw [readByte_writeWords_other _ _ _ _ (by omega), readByte_writeWords_other _ _ _ _ (by omega),
    readByte_writeWords_other _ _ _ _ (by omega), readByte_writeWords_other _ _ _ _ (by omega)]

/-- Word i of consecutive words written reads as it was written. -/
theorem readWord_writeWords_get (ws : List Word) (m : Mem) (a i : Nat) (h : i < ws.length) :
    readWord (writeWords m a ws) (a + 4 * i) = ws[i] := by
  induction ws generalizing m a i with
  | nil => simp at h
  | cons w t ih =>
    cases i with
    | zero =>
      rw [writeWords, readWord_writeWords_other _ _ _ _ (by omega)]
      simpa using readWord_writeWord_same m a w
    | succ n =>
      have := ih (writeWord m a w) (a + 4) n (by simpa using h)
      rw [writeWords]
      rw [show a + 4 * (n + 1) = a + 4 + 4 * n by omega, this]
      simp

/-! ## The canonical form -/

theorem wf_nil : Memory.wf [] := by simp [Memory.wf]

theorem mem_insertByte {a : Nat} {v : Byte} {m : Mem} {c : Host.Cell} (h : c ∈ insertByte a v m) :
    c = (a, v) ∨ c ∈ m := by
  induction m with
  | nil => simpa [insertByte] using h
  | cons d t ih =>
    unfold insertByte at h
    split at h
    · simpa using h
    · split at h
      · rcases List.mem_cons.1 h with h | h
        · exact .inl h
        · exact .inr (List.mem_cons_of_mem _ h)
      · rcases List.mem_cons.1 h with h | h
        · exact .inr (by simp [h])
        · rcases ih h with h | h
          · exact .inl h
          · exact .inr (List.mem_cons_of_mem _ h)

theorem insertByte_sorted (a : Nat) (v : Byte) (m : Mem) (h : m.Pairwise (fun c d => c.1 < d.1)) :
    (insertByte a v m).Pairwise (fun c d => c.1 < d.1) := by
  induction m with
  | nil => simp [insertByte]
  | cons d t ih =>
    have hd := List.pairwise_cons.1 h
    unfold insertByte
    split
    · rename_i hlt
      refine List.pairwise_cons.2 ⟨fun c hc => ?_, h⟩
      rcases List.mem_cons.1 hc with hc | hc
      · exact hc ▸ hlt
      · exact Nat.lt_trans hlt (hd.1 c hc)
    · split
      · rename_i _ heq
        exact List.pairwise_cons.2 ⟨fun c hc => by simpa [heq] using hd.1 c hc, hd.2⟩
      · rename_i h1 h2
        refine List.pairwise_cons.2 ⟨fun c hc => ?_, ih hd.2⟩
        rcases mem_insertByte hc with hc | hc
        · subst hc; simp only; omega
        · exact hd.1 c hc

/-- Storing a byte keeps the canonical form. -/
theorem writeByte_wf {m : Mem} (h : Memory.wf m) (a : Nat) (v : Byte) : Memory.wf (writeByte m a v) := by
  unfold writeByte
  split
  · exact ⟨h.1.filter _, fun c hc => h.2 c (List.mem_of_mem_filter hc)⟩
  · rename_i hne
    refine ⟨insertByte_sorted a v m h.1, fun c hc => ?_⟩
    rcases mem_insertByte hc with hc | hc
    · subst hc; exact hne
    · exact h.2 c hc

/-- Storing a word keeps the canonical form. -/
theorem writeWord_wf {m : Mem} (h : Memory.wf m) (a : Nat) (w : Word) : Memory.wf (writeWord m a w) :=
  writeByte_wf (writeByte_wf (writeByte_wf (writeByte_wf h _ _) _ _) _ _) _ _

/-- Storing words keeps the canonical form. -/
theorem writeWords_wf (ws : List Word) {m : Mem} (h : Memory.wf m) (a : Nat) : Memory.wf (writeWords m a ws) := by
  induction ws generalizing m a with
  | nil => exact h
  | cons w t ih => exact ih (writeWord_wf h a w) _

/-- The writes of STARTING keep the canonical form. -/
theorem startingMem_wf {m : Mem} (h : Memory.wf m) : Memory.wf (startingMem m) :=
  ⟨h.1.filter _, fun c hc => h.2 c (List.mem_of_mem_filter hc)⟩

end Sys2Proof.Laws
end

