-- ==== Sys2Proof/Laws/State.lean ====
section
/-!
SUPPORT. What each update of the state leaves as it was: one lemma per update and per block of State. Later proofs cite
these and unfold no record update.
-/

namespace Sys2Proof.Machine

variable (s : State)

/-! ### State.live -/

@[simp] theorem State.live_pins (off : Nat) (w : Word) : (s.live off w).pins = s.pins := rfl
@[simp] theorem State.live_ex (off : Nat) (w : Word) : (s.live off w).ex = s.ex := rfl
@[simp] theorem State.live_link (off : Nat) (w : Word) : (s.live off w).link = s.link := rfl
@[simp] theorem State.live_trav (off : Nat) (w : Word) : (s.live off w).trav = s.trav := rfl
@[simp] theorem State.live_arb (off : Nat) (w : Word) : (s.live off w).arb = s.arb := rfl
@[simp] theorem State.live_std (off : Nat) (w : Word) : (s.live off w).std = s.std := rfl
@[simp] theorem State.live_bin (off : Nat) (w : Word) : (s.live off w).bin = s.bin := rfl
@[simp] theorem State.live_filters (off : Nat) (w : Word) : (s.live off w).filters = s.filters := rfl
@[simp] theorem State.live_alarms (off : Nat) (w : Word) : (s.live off w).alarms = s.alarms := rfl
@[simp] theorem State.live_brk (off : Nat) (w : Word) : (s.live off w).brk = s.brk := rfl
@[simp] theorem State.live_tieIndex (off : Nat) (w : Word) : (s.live off w).tieIndex = s.tieIndex := rfl
@[simp] theorem State.live_pending (off : Nat) (w : Word) : (s.live off w).pending = s.pending := rfl

/-! ### State.liveWords -/

@[simp] theorem State.liveWords_pins (off : Nat) (ws : List Word) : (s.liveWords off ws).pins = s.pins := rfl
@[simp] theorem State.liveWords_ex (off : Nat) (ws : List Word) : (s.liveWords off ws).ex = s.ex := rfl
@[simp] theorem State.liveWords_link (off : Nat) (ws : List Word) : (s.liveWords off ws).link = s.link := rfl
@[simp] theorem State.liveWords_trav (off : Nat) (ws : List Word) : (s.liveWords off ws).trav = s.trav := rfl
@[simp] theorem State.liveWords_arb (off : Nat) (ws : List Word) : (s.liveWords off ws).arb = s.arb := rfl
@[simp] theorem State.liveWords_std (off : Nat) (ws : List Word) : (s.liveWords off ws).std = s.std := rfl
@[simp] theorem State.liveWords_bin (off : Nat) (ws : List Word) : (s.liveWords off ws).bin = s.bin := rfl
@[simp] theorem State.liveWords_filters (off : Nat) (ws : List Word) : (s.liveWords off ws).filters = s.filters := rfl
@[simp] theorem State.liveWords_alarms (off : Nat) (ws : List Word) : (s.liveWords off ws).alarms = s.alarms := rfl
@[simp] theorem State.liveWords_brk (off : Nat) (ws : List Word) : (s.liveWords off ws).brk = s.brk := rfl
@[simp] theorem State.liveWords_tieIndex (off : Nat) (ws : List Word) : (s.liveWords off ws).tieIndex = s.tieIndex := rfl
@[simp] theorem State.liveWords_pending (off : Nat) (ws : List Word) : (s.liveWords off ws).pending = s.pending := rfl

/-! ### State.liveBool -/

@[simp] theorem State.liveBool_pins (off : Nat) (b : Bool) : (s.liveBool off b).pins = s.pins := rfl
@[simp] theorem State.liveBool_ex (off : Nat) (b : Bool) : (s.liveBool off b).ex = s.ex := rfl
@[simp] theorem State.liveBool_link (off : Nat) (b : Bool) : (s.liveBool off b).link = s.link := rfl
@[simp] theorem State.liveBool_trav (off : Nat) (b : Bool) : (s.liveBool off b).trav = s.trav := rfl
@[simp] theorem State.liveBool_arb (off : Nat) (b : Bool) : (s.liveBool off b).arb = s.arb := rfl
@[simp] theorem State.liveBool_std (off : Nat) (b : Bool) : (s.liveBool off b).std = s.std := rfl
@[simp] theorem State.liveBool_bin (off : Nat) (b : Bool) : (s.liveBool off b).bin = s.bin := rfl
@[simp] theorem State.liveBool_filters (off : Nat) (b : Bool) : (s.liveBool off b).filters = s.filters := rfl
@[simp] theorem State.liveBool_alarms (off : Nat) (b : Bool) : (s.liveBool off b).alarms = s.alarms := rfl
@[simp] theorem State.liveBool_brk (off : Nat) (b : Bool) : (s.liveBool off b).brk = s.brk := rfl
@[simp] theorem State.liveBool_tieIndex (off : Nat) (b : Bool) : (s.liveBool off b).tieIndex = s.tieIndex := rfl
@[simp] theorem State.liveBool_pending (off : Nat) (b : Bool) : (s.liveBool off b).pending = s.pending := rfl

/-! ### State.setNotice -/

@[simp] theorem State.setNotice_pins (n : Notice) : (s.setNotice n).pins = s.pins := rfl
@[simp] theorem State.setNotice_link (n : Notice) : (s.setNotice n).link = s.link := rfl
@[simp] theorem State.setNotice_trav (n : Notice) : (s.setNotice n).trav = s.trav := rfl
@[simp] theorem State.setNotice_arb (n : Notice) : (s.setNotice n).arb = s.arb := rfl
@[simp] theorem State.setNotice_std (n : Notice) : (s.setNotice n).std = s.std := rfl
@[simp] theorem State.setNotice_bin (n : Notice) : (s.setNotice n).bin = s.bin := rfl
@[simp] theorem State.setNotice_filters (n : Notice) : (s.setNotice n).filters = s.filters := rfl
@[simp] theorem State.setNotice_alarms (n : Notice) : (s.setNotice n).alarms = s.alarms := rfl
@[simp] theorem State.setNotice_brk (n : Notice) : (s.setNotice n).brk = s.brk := rfl
@[simp] theorem State.setNotice_mem (n : Notice) : (s.setNotice n).mem = s.mem := rfl
@[simp] theorem State.setNotice_tieIndex (n : Notice) : (s.setNotice n).tieIndex = s.tieIndex := rfl
@[simp] theorem State.setNotice_pending (n : Notice) : (s.setNotice n).pending = s.pending := rfl

/-! ### State.setAlarm -/

@[simp] theorem State.setAlarm_pins (i : Fin 48) (e : AlarmEntry) : (s.setAlarm i e).pins = s.pins := by unfold State.setAlarm; split <;> rfl
@[simp] theorem State.setAlarm_ex (i : Fin 48) (e : AlarmEntry) : (s.setAlarm i e).ex = s.ex := by unfold State.setAlarm; split <;> rfl
@[simp] theorem State.setAlarm_link (i : Fin 48) (e : AlarmEntry) : (s.setAlarm i e).link = s.link := by unfold State.setAlarm; split <;> rfl
@[simp] theorem State.setAlarm_trav (i : Fin 48) (e : AlarmEntry) : (s.setAlarm i e).trav = s.trav := by unfold State.setAlarm; split <;> rfl
@[simp] theorem State.setAlarm_arb (i : Fin 48) (e : AlarmEntry) : (s.setAlarm i e).arb = s.arb := by unfold State.setAlarm; split <;> rfl
@[simp] theorem State.setAlarm_std (i : Fin 48) (e : AlarmEntry) : (s.setAlarm i e).std = s.std := by unfold State.setAlarm; split <;> rfl
@[simp] theorem State.setAlarm_bin (i : Fin 48) (e : AlarmEntry) : (s.setAlarm i e).bin = s.bin := by unfold State.setAlarm; split <;> rfl
@[simp] theorem State.setAlarm_filters (i : Fin 48) (e : AlarmEntry) : (s.setAlarm i e).filters = s.filters := by unfold State.setAlarm; split <;> rfl
@[simp] theorem State.setAlarm_brk (i : Fin 48) (e : AlarmEntry) : (s.setAlarm i e).brk = s.brk := by unfold State.setAlarm; split <;> rfl
@[simp] theorem State.setAlarm_tieIndex (i : Fin 48) (e : AlarmEntry) : (s.setAlarm i e).tieIndex = s.tieIndex := by unfold State.setAlarm; split <;> rfl
@[simp] theorem State.setAlarm_pending (i : Fin 48) (e : AlarmEntry) : (s.setAlarm i e).pending = s.pending := by unfold State.setAlarm; split <;> rfl

/-! ### State.clearAlarm -/

@[simp] theorem State.clearAlarm_pins (i : Fin 48) (v : Option Int) : (s.clearAlarm i v).pins = s.pins := by unfold State.clearAlarm; dsimp only; split <;> simp
@[simp] theorem State.clearAlarm_link (i : Fin 48) (v : Option Int) : (s.clearAlarm i v).link = s.link := by unfold State.clearAlarm; dsimp only; split <;> simp
@[simp] theorem State.clearAlarm_trav (i : Fin 48) (v : Option Int) : (s.clearAlarm i v).trav = s.trav := by unfold State.clearAlarm; dsimp only; split <;> simp
@[simp] theorem State.clearAlarm_arb (i : Fin 48) (v : Option Int) : (s.clearAlarm i v).arb = s.arb := by unfold State.clearAlarm; dsimp only; split <;> simp
@[simp] theorem State.clearAlarm_std (i : Fin 48) (v : Option Int) : (s.clearAlarm i v).std = s.std := by unfold State.clearAlarm; dsimp only; split <;> simp
@[simp] theorem State.clearAlarm_bin (i : Fin 48) (v : Option Int) : (s.clearAlarm i v).bin = s.bin := by unfold State.clearAlarm; dsimp only; split <;> simp
@[simp] theorem State.clearAlarm_filters (i : Fin 48) (v : Option Int) : (s.clearAlarm i v).filters = s.filters := by unfold State.clearAlarm; dsimp only; split <;> simp
@[simp] theorem State.clearAlarm_brk (i : Fin 48) (v : Option Int) : (s.clearAlarm i v).brk = s.brk := by unfold State.clearAlarm; dsimp only; split <;> simp
@[simp] theorem State.clearAlarm_tieIndex (i : Fin 48) (v : Option Int) : (s.clearAlarm i v).tieIndex = s.tieIndex := by unfold State.clearAlarm; dsimp only; split <;> simp
@[simp] theorem State.clearAlarm_pending (i : Fin 48) (v : Option Int) : (s.clearAlarm i v).pending = s.pending := by unfold State.clearAlarm; dsimp only; split <;> simp

/-! ### State.setHead -/

@[simp] theorem State.setHead_pins (h : HeadState) : (s.setHead h).pins = s.pins := by unfold State.setHead; split <;> rfl
@[simp] theorem State.setHead_ex (h : HeadState) : (s.setHead h).ex = s.ex := by unfold State.setHead; split <;> rfl
@[simp] theorem State.setHead_link (h : HeadState) : (s.setHead h).link = s.link := by unfold State.setHead; split <;> rfl
@[simp] theorem State.setHead_arb (h : HeadState) : (s.setHead h).arb = s.arb := by unfold State.setHead; split <;> rfl
@[simp] theorem State.setHead_std (h : HeadState) : (s.setHead h).std = s.std := by unfold State.setHead; split <;> rfl
@[simp] theorem State.setHead_bin (h : HeadState) : (s.setHead h).bin = s.bin := by unfold State.setHead; split <;> rfl
@[simp] theorem State.setHead_filters (h : HeadState) : (s.setHead h).filters = s.filters := by unfold State.setHead; split <;> rfl
@[simp] theorem State.setHead_alarms (h : HeadState) : (s.setHead h).alarms = s.alarms := by unfold State.setHead; split <;> rfl
@[simp] theorem State.setHead_brk (h : HeadState) : (s.setHead h).brk = s.brk := by unfold State.setHead; split <;> rfl
@[simp] theorem State.setHead_tieIndex (h : HeadState) : (s.setHead h).tieIndex = s.tieIndex := by unfold State.setHead; split <;> rfl
@[simp] theorem State.setHead_pending (h : HeadState) : (s.setHead h).pending = s.pending := by unfold State.setHead; split <;> rfl

/-! ### State.setBreakState -/

@[simp] theorem State.setBreakState_pins (b : BreakState) : (s.setBreakState b).pins = s.pins := by unfold State.setBreakState; split <;> rfl
@[simp] theorem State.setBreakState_ex (b : BreakState) : (s.setBreakState b).ex = s.ex := by unfold State.setBreakState; split <;> rfl
@[simp] theorem State.setBreakState_link (b : BreakState) : (s.setBreakState b).link = s.link := by unfold State.setBreakState; split <;> rfl
@[simp] theorem State.setBreakState_trav (b : BreakState) : (s.setBreakState b).trav = s.trav := by unfold State.setBreakState; split <;> rfl
@[simp] theorem State.setBreakState_arb (b : BreakState) : (s.setBreakState b).arb = s.arb := by unfold State.setBreakState; split <;> rfl
@[simp] theorem State.setBreakState_std (b : BreakState) : (s.setBreakState b).std = s.std := by unfold State.setBreakState; split <;> rfl
@[simp] theorem State.setBreakState_bin (b : BreakState) : (s.setBreakState b).bin = s.bin := by unfold State.setBreakState; split <;> rfl
@[simp] theorem State.setBreakState_filters (b : BreakState) : (s.setBreakState b).filters = s.filters := by unfold State.setBreakState; split <;> rfl
@[simp] theorem State.setBreakState_alarms (b : BreakState) : (s.setBreakState b).alarms = s.alarms := by unfold State.setBreakState; split <;> rfl
@[simp] theorem State.setBreakState_tieIndex (b : BreakState) : (s.setBreakState b).tieIndex = s.tieIndex := by unfold State.setBreakState; split <;> rfl
@[simp] theorem State.setBreakState_pending (b : BreakState) : (s.setBreakState b).pending = s.pending := by unfold State.setBreakState; split <;> rfl

/-! ### State.clearCounts -/

@[simp] theorem State.clearCounts_pins : (s.clearCounts).pins = s.pins := rfl
@[simp] theorem State.clearCounts_ex : (s.clearCounts).ex = s.ex := rfl
@[simp] theorem State.clearCounts_link : (s.clearCounts).link = s.link := rfl
@[simp] theorem State.clearCounts_trav : (s.clearCounts).trav = s.trav := rfl
@[simp] theorem State.clearCounts_arb : (s.clearCounts).arb = s.arb := rfl
@[simp] theorem State.clearCounts_std : (s.clearCounts).std = s.std := rfl
@[simp] theorem State.clearCounts_bin : (s.clearCounts).bin = s.bin := rfl
@[simp] theorem State.clearCounts_filters : (s.clearCounts).filters = s.filters := rfl
@[simp] theorem State.clearCounts_alarms : (s.clearCounts).alarms = s.alarms := rfl
@[simp] theorem State.clearCounts_mem : (s.clearCounts).mem = s.mem := rfl
@[simp] theorem State.clearCounts_tieIndex : (s.clearCounts).tieIndex = s.tieIndex := rfl
@[simp] theorem State.clearCounts_pending : (s.clearCounts).pending = s.pending := rfl

/-! ### State.setRef -/

@[simp] theorem State.setRef_pins (c : Fin 8) (r : RefRecord) : (s.setRef c r).pins = s.pins := rfl
@[simp] theorem State.setRef_ex (c : Fin 8) (r : RefRecord) : (s.setRef c r).ex = s.ex := rfl
@[simp] theorem State.setRef_link (c : Fin 8) (r : RefRecord) : (s.setRef c r).link = s.link := rfl
@[simp] theorem State.setRef_trav (c : Fin 8) (r : RefRecord) : (s.setRef c r).trav = s.trav := rfl
@[simp] theorem State.setRef_arb (c : Fin 8) (r : RefRecord) : (s.setRef c r).arb = s.arb := rfl
@[simp] theorem State.setRef_bin (c : Fin 8) (r : RefRecord) : (s.setRef c r).bin = s.bin := rfl
@[simp] theorem State.setRef_filters (c : Fin 8) (r : RefRecord) : (s.setRef c r).filters = s.filters := rfl
@[simp] theorem State.setRef_alarms (c : Fin 8) (r : RefRecord) : (s.setRef c r).alarms = s.alarms := rfl
@[simp] theorem State.setRef_brk (c : Fin 8) (r : RefRecord) : (s.setRef c r).brk = s.brk := rfl
@[simp] theorem State.setRef_tieIndex (c : Fin 8) (r : RefRecord) : (s.setRef c r).tieIndex = s.tieIndex := rfl
@[simp] theorem State.setRef_pending (c : Fin 8) (r : RefRecord) : (s.setRef c r).pending = s.pending := rfl

/-! ### State.setUntried -/

@[simp] theorem State.setUntried_pins (c : Fin 8) (b : Bool) : (s.setUntried c b).pins = s.pins := rfl
@[simp] theorem State.setUntried_ex (c : Fin 8) (b : Bool) : (s.setUntried c b).ex = s.ex := rfl
@[simp] theorem State.setUntried_link (c : Fin 8) (b : Bool) : (s.setUntried c b).link = s.link := rfl
@[simp] theorem State.setUntried_trav (c : Fin 8) (b : Bool) : (s.setUntried c b).trav = s.trav := rfl
@[simp] theorem State.setUntried_arb (c : Fin 8) (b : Bool) : (s.setUntried c b).arb = s.arb := rfl
@[simp] theorem State.setUntried_bin (c : Fin 8) (b : Bool) : (s.setUntried c b).bin = s.bin := rfl
@[simp] theorem State.setUntried_filters (c : Fin 8) (b : Bool) : (s.setUntried c b).filters = s.filters := rfl
@[simp] theorem State.setUntried_alarms (c : Fin 8) (b : Bool) : (s.setUntried c b).alarms = s.alarms := rfl
@[simp] theorem State.setUntried_brk (c : Fin 8) (b : Bool) : (s.setUntried c b).brk = s.brk := rfl
@[simp] theorem State.setUntried_mem (c : Fin 8) (b : Bool) : (s.setUntried c b).mem = s.mem := rfl
@[simp] theorem State.setUntried_tieIndex (c : Fin 8) (b : Bool) : (s.setUntried c b).tieIndex = s.tieIndex := rfl
@[simp] theorem State.setUntried_pending (c : Fin 8) (b : Bool) : (s.setUntried c b).pending = s.pending := rfl

/-! ### State.tellDue -/

@[simp] theorem State.tellDue_pins : (s.tellDue).pins = s.pins := rfl
@[simp] theorem State.tellDue_ex : (s.tellDue).ex = s.ex := rfl
@[simp] theorem State.tellDue_link : (s.tellDue).link = s.link := rfl
@[simp] theorem State.tellDue_trav : (s.tellDue).trav = s.trav := rfl
@[simp] theorem State.tellDue_arb : (s.tellDue).arb = s.arb := rfl
@[simp] theorem State.tellDue_bin : (s.tellDue).bin = s.bin := rfl
@[simp] theorem State.tellDue_filters : (s.tellDue).filters = s.filters := rfl
@[simp] theorem State.tellDue_alarms : (s.tellDue).alarms = s.alarms := rfl
@[simp] theorem State.tellDue_brk : (s.tellDue).brk = s.brk := rfl
@[simp] theorem State.tellDue_mem : (s.tellDue).mem = s.mem := rfl
@[simp] theorem State.tellDue_tieIndex : (s.tellDue).tieIndex = s.tieIndex := rfl
@[simp] theorem State.tellDue_pending : (s.tellDue).pending = s.pending := rfl

/-! ### State.liveEdges -/

@[simp] theorem State.liveEdges_pins : (s.liveEdges).pins = s.pins := rfl
@[simp] theorem State.liveEdges_ex : (s.liveEdges).ex = s.ex := rfl
@[simp] theorem State.liveEdges_link : (s.liveEdges).link = s.link := rfl
@[simp] theorem State.liveEdges_trav : (s.liveEdges).trav = s.trav := rfl
@[simp] theorem State.liveEdges_arb : (s.liveEdges).arb = s.arb := rfl
@[simp] theorem State.liveEdges_std : (s.liveEdges).std = s.std := rfl
@[simp] theorem State.liveEdges_bin : (s.liveEdges).bin = s.bin := rfl
@[simp] theorem State.liveEdges_filters : (s.liveEdges).filters = s.filters := rfl
@[simp] theorem State.liveEdges_alarms : (s.liveEdges).alarms = s.alarms := rfl
@[simp] theorem State.liveEdges_brk : (s.liveEdges).brk = s.brk := rfl
@[simp] theorem State.liveEdges_tieIndex : (s.liveEdges).tieIndex = s.tieIndex := rfl
@[simp] theorem State.liveEdges_pending : (s.liveEdges).pending = s.pending := rfl

/-! ### State.setEdges -/

@[simp] theorem State.setEdges_pins (f b : Int) : (s.setEdges f b).pins = s.pins := rfl
@[simp] theorem State.setEdges_ex (f b : Int) : (s.setEdges f b).ex = s.ex := rfl
@[simp] theorem State.setEdges_link (f b : Int) : (s.setEdges f b).link = s.link := rfl
@[simp] theorem State.setEdges_trav (f b : Int) : (s.setEdges f b).trav = s.trav := rfl
@[simp] theorem State.setEdges_arb (f b : Int) : (s.setEdges f b).arb = s.arb := rfl
@[simp] theorem State.setEdges_std (f b : Int) : (s.setEdges f b).std = s.std := rfl
@[simp] theorem State.setEdges_filters (f b : Int) : (s.setEdges f b).filters = s.filters := rfl
@[simp] theorem State.setEdges_alarms (f b : Int) : (s.setEdges f b).alarms = s.alarms := rfl
@[simp] theorem State.setEdges_brk (f b : Int) : (s.setEdges f b).brk = s.brk := rfl
@[simp] theorem State.setEdges_tieIndex (f b : Int) : (s.setEdges f b).tieIndex = s.tieIndex := rfl
@[simp] theorem State.setEdges_pending (f b : Int) : (s.setEdges f b).pending = s.pending := rfl

/-! ### State.startBatch -/

@[simp] theorem State.startBatch_pins : (s.startBatch).pins = s.pins := rfl
@[simp] theorem State.startBatch_ex : (s.startBatch).ex = s.ex := rfl
@[simp] theorem State.startBatch_trav : (s.startBatch).trav = s.trav := rfl
@[simp] theorem State.startBatch_arb : (s.startBatch).arb = s.arb := rfl
@[simp] theorem State.startBatch_std : (s.startBatch).std = s.std := rfl
@[simp] theorem State.startBatch_filters : (s.startBatch).filters = s.filters := rfl
@[simp] theorem State.startBatch_alarms : (s.startBatch).alarms = s.alarms := rfl
@[simp] theorem State.startBatch_brk : (s.startBatch).brk = s.brk := rfl
@[simp] theorem State.startBatch_mem : (s.startBatch).mem = s.mem := rfl
@[simp] theorem State.startBatch_tieIndex : (s.startBatch).tieIndex = s.tieIndex := rfl
@[simp] theorem State.startBatch_pending : (s.startBatch).pending = s.pending := rfl

/-! ### State.discardBatch -/

@[simp] theorem State.discardBatch_pins : (s.discardBatch).pins = s.pins := rfl
@[simp] theorem State.discardBatch_ex : (s.discardBatch).ex = s.ex := rfl
@[simp] theorem State.discardBatch_link : (s.discardBatch).link = s.link := rfl
@[simp] theorem State.discardBatch_trav : (s.discardBatch).trav = s.trav := rfl
@[simp] theorem State.discardBatch_arb : (s.discardBatch).arb = s.arb := rfl
@[simp] theorem State.discardBatch_std : (s.discardBatch).std = s.std := rfl
@[simp] theorem State.discardBatch_filters : (s.discardBatch).filters = s.filters := rfl
@[simp] theorem State.discardBatch_alarms : (s.discardBatch).alarms = s.alarms := rfl
@[simp] theorem State.discardBatch_brk : (s.discardBatch).brk = s.brk := rfl
@[simp] theorem State.discardBatch_mem : (s.discardBatch).mem = s.mem := rfl
@[simp] theorem State.discardBatch_tieIndex : (s.discardBatch).tieIndex = s.tieIndex := rfl
@[simp] theorem State.discardBatch_pending : (s.discardBatch).pending = s.pending := rfl

/-! ### State.discardScan -/

@[simp] theorem State.discardScan_pins : (s.discardScan).pins = s.pins := by unfold State.discardScan; split <;> rfl
@[simp] theorem State.discardScan_ex : (s.discardScan).ex = s.ex := by unfold State.discardScan; split <;> rfl
@[simp] theorem State.discardScan_link : (s.discardScan).link = s.link := by unfold State.discardScan; split <;> rfl
@[simp] theorem State.discardScan_trav : (s.discardScan).trav = s.trav := by unfold State.discardScan; split <;> rfl
@[simp] theorem State.discardScan_arb : (s.discardScan).arb = s.arb := by unfold State.discardScan; split <;> rfl
@[simp] theorem State.discardScan_std : (s.discardScan).std = s.std := by unfold State.discardScan; split <;> rfl
@[simp] theorem State.discardScan_filters : (s.discardScan).filters = s.filters := by unfold State.discardScan; split <;> rfl
@[simp] theorem State.discardScan_alarms : (s.discardScan).alarms = s.alarms := by unfold State.discardScan; split <;> rfl
@[simp] theorem State.discardScan_brk : (s.discardScan).brk = s.brk := by unfold State.discardScan; split <;> rfl
@[simp] theorem State.discardScan_tieIndex : (s.discardScan).tieIndex = s.tieIndex := by unfold State.discardScan; split <;> rfl
@[simp] theorem State.discardScan_pending : (s.discardScan).pending = s.pending := by unfold State.discardScan; split <;> rfl

/-! ### State.openScan -/

@[simp] theorem State.openScan_pins (d : ScanDir) : (s.openScan d).pins = s.pins := rfl
@[simp] theorem State.openScan_ex (d : ScanDir) : (s.openScan d).ex = s.ex := rfl
@[simp] theorem State.openScan_trav (d : ScanDir) : (s.openScan d).trav = s.trav := rfl
@[simp] theorem State.openScan_arb (d : ScanDir) : (s.openScan d).arb = s.arb := rfl
@[simp] theorem State.openScan_std (d : ScanDir) : (s.openScan d).std = s.std := rfl
@[simp] theorem State.openScan_filters (d : ScanDir) : (s.openScan d).filters = s.filters := rfl
@[simp] theorem State.openScan_alarms (d : ScanDir) : (s.openScan d).alarms = s.alarms := rfl
@[simp] theorem State.openScan_brk (d : ScanDir) : (s.openScan d).brk = s.brk := rfl
@[simp] theorem State.openScan_tieIndex (d : ScanDir) : (s.openScan d).tieIndex = s.tieIndex := rfl
@[simp] theorem State.openScan_pending (d : ScanDir) : (s.openScan d).pending = s.pending := rfl

/-! ### State.unseedAll -/

@[simp] theorem State.unseedAll_pins : (s.unseedAll).pins = s.pins := rfl
@[simp] theorem State.unseedAll_ex : (s.unseedAll).ex = s.ex := rfl
@[simp] theorem State.unseedAll_link : (s.unseedAll).link = s.link := rfl
@[simp] theorem State.unseedAll_trav : (s.unseedAll).trav = s.trav := rfl
@[simp] theorem State.unseedAll_arb : (s.unseedAll).arb = s.arb := rfl
@[simp] theorem State.unseedAll_std : (s.unseedAll).std = s.std := rfl
@[simp] theorem State.unseedAll_bin : (s.unseedAll).bin = s.bin := rfl
@[simp] theorem State.unseedAll_alarms : (s.unseedAll).alarms = s.alarms := rfl
@[simp] theorem State.unseedAll_brk : (s.unseedAll).brk = s.brk := rfl
@[simp] theorem State.unseedAll_mem : (s.unseedAll).mem = s.mem := rfl
@[simp] theorem State.unseedAll_tieIndex : (s.unseedAll).tieIndex = s.tieIndex := rfl
@[simp] theorem State.unseedAll_pending : (s.unseedAll).pending = s.pending := rfl

/-! ### State.unseed -/

@[simp] theorem State.unseed_pins (c : Fin 9) : (s.unseed c).pins = s.pins := rfl
@[simp] theorem State.unseed_ex (c : Fin 9) : (s.unseed c).ex = s.ex := rfl
@[simp] theorem State.unseed_link (c : Fin 9) : (s.unseed c).link = s.link := rfl
@[simp] theorem State.unseed_trav (c : Fin 9) : (s.unseed c).trav = s.trav := rfl
@[simp] theorem State.unseed_arb (c : Fin 9) : (s.unseed c).arb = s.arb := rfl
@[simp] theorem State.unseed_std (c : Fin 9) : (s.unseed c).std = s.std := rfl
@[simp] theorem State.unseed_bin (c : Fin 9) : (s.unseed c).bin = s.bin := rfl
@[simp] theorem State.unseed_alarms (c : Fin 9) : (s.unseed c).alarms = s.alarms := rfl
@[simp] theorem State.unseed_brk (c : Fin 9) : (s.unseed c).brk = s.brk := rfl
@[simp] theorem State.unseed_mem (c : Fin 9) : (s.unseed c).mem = s.mem := rfl
@[simp] theorem State.unseed_tieIndex (c : Fin 9) : (s.unseed c).tieIndex = s.tieIndex := rfl
@[simp] theorem State.unseed_pending (c : Fin 9) : (s.unseed c).pending = s.pending := rfl

/-! ### State.liveDisable -/

@[simp] theorem State.liveDisable_pins (c : Fin 9) : (s.liveDisable c).pins = s.pins := rfl
@[simp] theorem State.liveDisable_ex (c : Fin 9) : (s.liveDisable c).ex = s.ex := rfl
@[simp] theorem State.liveDisable_link (c : Fin 9) : (s.liveDisable c).link = s.link := rfl
@[simp] theorem State.liveDisable_trav (c : Fin 9) : (s.liveDisable c).trav = s.trav := rfl
@[simp] theorem State.liveDisable_arb (c : Fin 9) : (s.liveDisable c).arb = s.arb := rfl
@[simp] theorem State.liveDisable_std (c : Fin 9) : (s.liveDisable c).std = s.std := rfl
@[simp] theorem State.liveDisable_bin (c : Fin 9) : (s.liveDisable c).bin = s.bin := rfl
@[simp] theorem State.liveDisable_filters (c : Fin 9) : (s.liveDisable c).filters = s.filters := rfl
@[simp] theorem State.liveDisable_alarms (c : Fin 9) : (s.liveDisable c).alarms = s.alarms := rfl
@[simp] theorem State.liveDisable_brk (c : Fin 9) : (s.liveDisable c).brk = s.brk := rfl
@[simp] theorem State.liveDisable_tieIndex (c : Fin 9) : (s.liveDisable c).tieIndex = s.tieIndex := rfl
@[simp] theorem State.liveDisable_pending (c : Fin 9) : (s.liveDisable c).pending = s.pending := rfl

/-! ### State.writeHistory -/

@[simp] theorem State.writeHistory_pins (h : HeadState) (cues : BitVec 4) (p q : Word) (o : OpenWork) (r : Word) : (s.writeHistory h cues p q o r).pins = s.pins := rfl
@[simp] theorem State.writeHistory_ex (h : HeadState) (cues : BitVec 4) (p q : Word) (o : OpenWork) (r : Word) : (s.writeHistory h cues p q o r).ex = s.ex := rfl
@[simp] theorem State.writeHistory_link (h : HeadState) (cues : BitVec 4) (p q : Word) (o : OpenWork) (r : Word) : (s.writeHistory h cues p q o r).link = s.link := rfl
@[simp] theorem State.writeHistory_trav (h : HeadState) (cues : BitVec 4) (p q : Word) (o : OpenWork) (r : Word) : (s.writeHistory h cues p q o r).trav = s.trav := rfl
@[simp] theorem State.writeHistory_arb (h : HeadState) (cues : BitVec 4) (p q : Word) (o : OpenWork) (r : Word) : (s.writeHistory h cues p q o r).arb = s.arb := rfl
@[simp] theorem State.writeHistory_std (h : HeadState) (cues : BitVec 4) (p q : Word) (o : OpenWork) (r : Word) : (s.writeHistory h cues p q o r).std = s.std := rfl
@[simp] theorem State.writeHistory_bin (h : HeadState) (cues : BitVec 4) (p q : Word) (o : OpenWork) (r : Word) : (s.writeHistory h cues p q o r).bin = s.bin := rfl
@[simp] theorem State.writeHistory_filters (h : HeadState) (cues : BitVec 4) (p q : Word) (o : OpenWork) (r : Word) : (s.writeHistory h cues p q o r).filters = s.filters := rfl
@[simp] theorem State.writeHistory_alarms (h : HeadState) (cues : BitVec 4) (p q : Word) (o : OpenWork) (r : Word) : (s.writeHistory h cues p q o r).alarms = s.alarms := rfl
@[simp] theorem State.writeHistory_tieIndex (h : HeadState) (cues : BitVec 4) (p q : Word) (o : OpenWork) (r : Word) : (s.writeHistory h cues p q o r).tieIndex = s.tieIndex := rfl
@[simp] theorem State.writeHistory_pending (h : HeadState) (cues : BitVec 4) (p q : Word) (o : OpenWork) (r : Word) : (s.writeHistory h cues p q o r).pending = s.pending := rfl

/-! ### State.addCueAfter -/

@[simp] theorem State.addCueAfter_pins (cue : BitVec 4) : (s.addCueAfter cue).pins = s.pins := rfl
@[simp] theorem State.addCueAfter_ex (cue : BitVec 4) : (s.addCueAfter cue).ex = s.ex := rfl
@[simp] theorem State.addCueAfter_link (cue : BitVec 4) : (s.addCueAfter cue).link = s.link := rfl
@[simp] theorem State.addCueAfter_trav (cue : BitVec 4) : (s.addCueAfter cue).trav = s.trav := rfl
@[simp] theorem State.addCueAfter_arb (cue : BitVec 4) : (s.addCueAfter cue).arb = s.arb := rfl
@[simp] theorem State.addCueAfter_std (cue : BitVec 4) : (s.addCueAfter cue).std = s.std := rfl
@[simp] theorem State.addCueAfter_bin (cue : BitVec 4) : (s.addCueAfter cue).bin = s.bin := rfl
@[simp] theorem State.addCueAfter_filters (cue : BitVec 4) : (s.addCueAfter cue).filters = s.filters := rfl
@[simp] theorem State.addCueAfter_alarms (cue : BitVec 4) : (s.addCueAfter cue).alarms = s.alarms := rfl
@[simp] theorem State.addCueAfter_brk (cue : BitVec 4) : (s.addCueAfter cue).brk = s.brk := rfl
@[simp] theorem State.addCueAfter_tieIndex (cue : BitVec 4) : (s.addCueAfter cue).tieIndex = s.tieIndex := rfl
@[simp] theorem State.addCueAfter_pending (cue : BitVec 4) : (s.addCueAfter cue).pending = s.pending := rfl

/-! ### State.writeAckTime -/

@[simp] theorem State.writeAckTime_pins : (s.writeAckTime).pins = s.pins := rfl
@[simp] theorem State.writeAckTime_ex : (s.writeAckTime).ex = s.ex := rfl
@[simp] theorem State.writeAckTime_link : (s.writeAckTime).link = s.link := rfl
@[simp] theorem State.writeAckTime_trav : (s.writeAckTime).trav = s.trav := rfl
@[simp] theorem State.writeAckTime_arb : (s.writeAckTime).arb = s.arb := rfl
@[simp] theorem State.writeAckTime_std : (s.writeAckTime).std = s.std := rfl
@[simp] theorem State.writeAckTime_bin : (s.writeAckTime).bin = s.bin := rfl
@[simp] theorem State.writeAckTime_filters : (s.writeAckTime).filters = s.filters := rfl
@[simp] theorem State.writeAckTime_alarms : (s.writeAckTime).alarms = s.alarms := rfl
@[simp] theorem State.writeAckTime_brk : (s.writeAckTime).brk = s.brk := rfl
@[simp] theorem State.writeAckTime_tieIndex : (s.writeAckTime).tieIndex = s.tieIndex := rfl
@[simp] theorem State.writeAckTime_pending : (s.writeAckTime).pending = s.pending := rfl

/-! ### State.writeResumeTime -/

@[simp] theorem State.writeResumeTime_pins : (s.writeResumeTime).pins = s.pins := rfl
@[simp] theorem State.writeResumeTime_ex : (s.writeResumeTime).ex = s.ex := rfl
@[simp] theorem State.writeResumeTime_link : (s.writeResumeTime).link = s.link := rfl
@[simp] theorem State.writeResumeTime_trav : (s.writeResumeTime).trav = s.trav := rfl
@[simp] theorem State.writeResumeTime_arb : (s.writeResumeTime).arb = s.arb := rfl
@[simp] theorem State.writeResumeTime_std : (s.writeResumeTime).std = s.std := rfl
@[simp] theorem State.writeResumeTime_bin : (s.writeResumeTime).bin = s.bin := rfl
@[simp] theorem State.writeResumeTime_filters : (s.writeResumeTime).filters = s.filters := rfl
@[simp] theorem State.writeResumeTime_alarms : (s.writeResumeTime).alarms = s.alarms := rfl
@[simp] theorem State.writeResumeTime_brk : (s.writeResumeTime).brk = s.brk := rfl
@[simp] theorem State.writeResumeTime_tieIndex : (s.writeResumeTime).tieIndex = s.tieIndex := rfl
@[simp] theorem State.writeResumeTime_pending : (s.writeResumeTime).pending = s.pending := rfl

/-! ### State.produce -/

@[simp] theorem State.produce_pins (h : RecHeader) (b : List Word) : (s.produce h b).pins = s.pins := by unfold State.produce; dsimp only; split <;> rfl
@[simp] theorem State.produce_link (h : RecHeader) (b : List Word) : (s.produce h b).link = s.link := by unfold State.produce; dsimp only; split <;> rfl
@[simp] theorem State.produce_trav (h : RecHeader) (b : List Word) : (s.produce h b).trav = s.trav := by unfold State.produce; dsimp only; split <;> rfl
@[simp] theorem State.produce_arb (h : RecHeader) (b : List Word) : (s.produce h b).arb = s.arb := by unfold State.produce; dsimp only; split <;> rfl
@[simp] theorem State.produce_std (h : RecHeader) (b : List Word) : (s.produce h b).std = s.std := by unfold State.produce; dsimp only; split <;> rfl
@[simp] theorem State.produce_bin (h : RecHeader) (b : List Word) : (s.produce h b).bin = s.bin := by unfold State.produce; dsimp only; split <;> rfl
@[simp] theorem State.produce_filters (h : RecHeader) (b : List Word) : (s.produce h b).filters = s.filters := by unfold State.produce; dsimp only; split <;> rfl
@[simp] theorem State.produce_alarms (h : RecHeader) (b : List Word) : (s.produce h b).alarms = s.alarms := by unfold State.produce; dsimp only; split <;> rfl
@[simp] theorem State.produce_brk (h : RecHeader) (b : List Word) : (s.produce h b).brk = s.brk := by unfold State.produce; dsimp only; split <;> rfl
@[simp] theorem State.produce_tieIndex (h : RecHeader) (b : List Word) : (s.produce h b).tieIndex = s.tieIndex := by unfold State.produce; dsimp only; split <;> rfl
@[simp] theorem State.produce_pending (h : RecHeader) (b : List Word) : (s.produce h b).pending = s.pending := by unfold State.produce; dsimp only; split <;> rfl

/-! ### State.setHomingPosition -/

@[simp] theorem State.setHomingPosition_pins : (s.setHomingPosition).pins = s.pins := rfl
@[simp] theorem State.setHomingPosition_ex : (s.setHomingPosition).ex = s.ex := rfl
@[simp] theorem State.setHomingPosition_link : (s.setHomingPosition).link = s.link := rfl
@[simp] theorem State.setHomingPosition_arb : (s.setHomingPosition).arb = s.arb := rfl
@[simp] theorem State.setHomingPosition_std : (s.setHomingPosition).std = s.std := rfl
@[simp] theorem State.setHomingPosition_bin : (s.setHomingPosition).bin = s.bin := rfl
@[simp] theorem State.setHomingPosition_filters : (s.setHomingPosition).filters = s.filters := rfl
@[simp] theorem State.setHomingPosition_alarms : (s.setHomingPosition).alarms = s.alarms := rfl
@[simp] theorem State.setHomingPosition_brk : (s.setHomingPosition).brk = s.brk := rfl
@[simp] theorem State.setHomingPosition_mem : (s.setHomingPosition).mem = s.mem := rfl
@[simp] theorem State.setHomingPosition_tieIndex : (s.setHomingPosition).tieIndex = s.tieIndex := rfl
@[simp] theorem State.setHomingPosition_pending : (s.setHomingPosition).pending = s.pending := rfl

/-! ### State.enterUnhomed -/

@[simp] theorem State.enterUnhomed_pins : (s.enterUnhomed).pins = s.pins := by simp [State.enterUnhomed]
@[simp] theorem State.enterUnhomed_ex : (s.enterUnhomed).ex = s.ex := by simp [State.enterUnhomed]
@[simp] theorem State.enterUnhomed_link : (s.enterUnhomed).link = s.link := by simp [State.enterUnhomed]
@[simp] theorem State.enterUnhomed_arb : (s.enterUnhomed).arb = s.arb := by simp [State.enterUnhomed]
@[simp] theorem State.enterUnhomed_std : (s.enterUnhomed).std = s.std := by simp [State.enterUnhomed]
@[simp] theorem State.enterUnhomed_bin : (s.enterUnhomed).bin = s.bin := by simp [State.enterUnhomed]
@[simp] theorem State.enterUnhomed_filters : (s.enterUnhomed).filters = s.filters := by simp [State.enterUnhomed]
@[simp] theorem State.enterUnhomed_alarms : (s.enterUnhomed).alarms = s.alarms := by simp [State.enterUnhomed]
@[simp] theorem State.enterUnhomed_brk : (s.enterUnhomed).brk = s.brk := by simp [State.enterUnhomed]
@[simp] theorem State.enterUnhomed_tieIndex : (s.enterUnhomed).tieIndex = s.tieIndex := by simp [State.enterUnhomed]
@[simp] theorem State.enterUnhomed_pending : (s.enterUnhomed).pending = s.pending := by simp [State.enterUnhomed]

/-! ### State.gateIdle -/

@[simp] theorem State.gateIdle_pins : (s.gateIdle).pins = s.pins := by unfold State.gateIdle; split <;> rfl
@[simp] theorem State.gateIdle_link : (s.gateIdle).link = s.link := by unfold State.gateIdle; split <;> rfl
@[simp] theorem State.gateIdle_trav : (s.gateIdle).trav = s.trav := by unfold State.gateIdle; split <;> rfl
@[simp] theorem State.gateIdle_arb : (s.gateIdle).arb = s.arb := by unfold State.gateIdle; split <;> rfl
@[simp] theorem State.gateIdle_std : (s.gateIdle).std = s.std := by unfold State.gateIdle; split <;> rfl
@[simp] theorem State.gateIdle_bin : (s.gateIdle).bin = s.bin := by unfold State.gateIdle; split <;> rfl
@[simp] theorem State.gateIdle_filters : (s.gateIdle).filters = s.filters := by unfold State.gateIdle; split <;> rfl
@[simp] theorem State.gateIdle_alarms : (s.gateIdle).alarms = s.alarms := by unfold State.gateIdle; split <;> rfl
@[simp] theorem State.gateIdle_brk : (s.gateIdle).brk = s.brk := by unfold State.gateIdle; split <;> rfl
@[simp] theorem State.gateIdle_tieIndex : (s.gateIdle).tieIndex = s.tieIndex := by unfold State.gateIdle; split <;> rfl
@[simp] theorem State.gateIdle_pending : (s.gateIdle).pending = s.pending := by unfold State.gateIdle; split <;> rfl

/-! ### Inside a block -/

@[simp] theorem State.setNotice_life (n : Notice) : (s.setNotice n).ex.life = s.ex.life := rfl
@[simp] theorem State.setNotice_cause (n : Notice) : (s.setNotice n).ex.cause = s.ex.cause := rfl
@[simp] theorem State.setNotice_applyPending (n : Notice) : (s.setNotice n).ex.applyPending = s.ex.applyPending := rfl
@[simp] theorem State.setNotice_gateResult (n : Notice) : (s.setNotice n).ex.gateResult = s.ex.gateResult := rfl
@[simp] theorem State.setNotice_mask (n : Notice) : (s.setNotice n).ex.mask = s.ex.mask := rfl
@[simp] theorem State.setNotice_reqMode (n : Notice) : (s.setNotice n).ex.reqMode = s.ex.reqMode := rfl
@[simp] theorem State.setNotice_holdPos (n : Notice) : (s.setNotice n).ex.holdPos = s.ex.holdPos := rfl
@[simp] theorem State.setNotice_generation (n : Notice) : (s.setNotice n).ex.generation = s.ex.generation := rfl
@[simp] theorem State.setNotice_lastRecord (n : Notice) : (s.setNotice n).ex.lastRecord = s.ex.lastRecord := rfl
@[simp] theorem State.setNotice_skipped (n : Notice) : (s.setNotice n).ex.skipped = s.ex.skipped := rfl
@[simp] theorem State.setNotice_nextFrame (n : Notice) : (s.setNotice n).ex.nextFrame = s.ex.nextFrame := rfl
@[simp] theorem State.setNotice_notice (n : Notice) : (s.setNotice n).ex.notice = s.ex.notice ||| n.maskBit := rfl

@[simp] theorem State.live_mem (off : Nat) (w : Word) : (s.live off w).mem = writeWord s.mem (liveBase + off) w := rfl
@[simp] theorem State.liveWords_mem (off : Nat) (ws : List Word) :
    (s.liveWords off ws).mem = writeWords s.mem (liveBase + off) ws := rfl

/-- The head state after it is set. -/
@[simp] theorem State.setHead_head (h : HeadState) : (s.setHead h).trav.head = h := by
  unfold State.setHead; split
  · assumption
  · rfl

@[simp] theorem State.setHead_position (h : HeadState) : (s.setHead h).trav.position = s.trav.position := by
  unfold State.setHead; split <;> rfl
@[simp] theorem State.setHead_homed (h : HeadState) : (s.setHead h).trav.homed = s.trav.homed := by
  unfold State.setHead; split <;> rfl
@[simp] theorem State.setHead_duty (h : HeadState) : (s.setHead h).trav.duty = s.trav.duty := by
  unfold State.setHead; split <;> rfl
@[simp] theorem State.setHead_dir (h : HeadState) : (s.setHead h).trav.dir = s.trav.dir := by
  unfold State.setHead; split <;> rfl
@[simp] theorem State.setHead_faultCause (h : HeadState) : (s.setHead h).trav.faultCause = s.trav.faultCause := by
  unfold State.setHead; split <;> rfl

/-- The break state after it is set. -/
@[simp] theorem State.setBreakState_state (b : BreakState) : (s.setBreakState b).brk.state = b := by
  unfold State.setBreakState; split
  · assumption
  · rfl

/-- An alarm entry after it is set. -/
theorem State.setAlarm_get (i j : Fin 48) (e : AlarmEntry) :
    (s.setAlarm i e).alarms[j] = if i = j then e else s.alarms[j] := by
  unfold State.setAlarm
  split
  · rename_i h
    by_cases hij : i = j
    · subst hij; simpa using h
    · simp [hij]
  · by_cases hij : i = j
    · subst hij; simp [State.liveWords]
    · have : i.val ≠ j.val := fun h => hij (Fin.ext h)
      simp [State.liveWords, hij, this]

end Sys2Proof.Machine
end

