-- ==== Sys2Proof/Laws/Ops.lean ====
section
/-!
SUPPORT. What each shared operation can do, said once: its cases, the state it leaves, the bytes of memory it may write,
and that it keeps the memory's canonical form.
-/

namespace Sys2Proof.Laws

open Sys2Proof.Machine

variable (s : State)

/-! ## Events -/

theorem event_starting (f : State → State) (h : s.ex.life = .starting) : s.event f = s := by simp [State.event, h]

theorem event_ready (f : State → State) (h : s.ex.life = .ready) : s.event f = (f s).endEvent := by
  simp [State.event, h]

/-- A standardize starts in the three conditions of R111, and otherwise nothing happens. -/
theorem stdStart_of_not_due (h : s.stdStartDue = false) : s.stdStart = s := by simp [State.stdStart, h]

/-- The command word stays while the demand is what it carries (R35). -/
theorem commandCompare_of_eq (h1 : s.link.shutter = s.shutterDemand) (h2 : s.link.ref = s.refDemand) :
    s.commandCompare = s := by simp [State.commandCompare, h1, h2]

/-- The command word carries the demand after the comparison (R35). -/
theorem commandCompare_carries :
    s.commandCompare.link.shutter = s.commandCompare.shutterDemand ∧
      s.commandCompare.link.ref = s.commandCompare.refDemand := by
  unfold State.commandCompare
  split
  · rename_i h; exact ⟨h.1.symm, h.2.symm⟩
  · exact ⟨rfl, rfl⟩

/-- The comparison changes nothing but the head link controller. -/
theorem commandCompare_frame : s.commandCompare = { s with link := s.commandCompare.link } := by
  unfold State.commandCompare
  split <;> rfl

/-- The end of an event leaves a settled state as it is. -/
theorem endEvent_of_settled (h : s.Settled) : s.endEvent = s := by
  unfold State.endEvent
  rw [stdStart_of_not_due s h.start]
  exact commandCompare_of_eq s h.shutter h.ref

/-- Whether a state is settled depends on the goal, the head state, the link and the standardize context alone. -/
theorem settled_congr {s t : State} (h : s.Settled) (hg : t.arb.goal = s.arb.goal) (hh : t.trav.head = s.trav.head)
    (hu : t.link.up = s.link.up) (hs : t.link.shutter = s.link.shutter) (hr : t.link.ref = s.link.ref)
    (hc : t.std.ctx = s.std.ctx) : t.Settled := by
  constructor
  · simpa [State.stdStartDue, hg, hh, hu] using h.start
  · simpa [State.shutterDemand, hh, hs, hc] using h.shutter
  · simpa [State.refDemand, hh, hr, hc] using h.ref

/-- Every event of the running part leaves the command word at the demand (R35). -/
theorem endEvent_carries :
    s.endEvent.link.shutter = s.endEvent.shutterDemand ∧ s.endEvent.link.ref = s.endEvent.refDemand :=
  commandCompare_carries s.stdStart

/-! ## The goal record -/

/-- The goal after a recompute is the claims' (R73, R74). -/
theorem recompute_goal (ev : GoalEvent) : (s.recompute ev).state.arb.goal = s.claimedGoal := by
  unfold State.recompute
  dsimp only
  split
  · rfl
  · rename_i h
    have hg : s.claimedGoal = s.arb.goal := by
      by_contra hne
      exact h (Or.inl hne)
    split <;> exact hg.symm

/-- The departure permission after a recompute is the panel inhibit's (R73). -/
theorem recompute_granted (ev : GoalEvent) : (s.recompute ev).state.arb.granted = !s.arb.panelInhibit := by
  unfold State.recompute
  dsimp only
  split
  · rfl
  · rename_i h
    have hg : (!s.arb.panelInhibit) = s.arb.granted := by
      by_contra hne
      exact h (Or.inr (Or.inl hne))
    split <;> exact hg.symm

/-- A recompute changes nothing but the arbiter and the two live words of the effective goal. -/
theorem recompute_frame (ev : GoalEvent) :
    (s.recompute ev).state = { s with arb := (s.recompute ev).state.arb, mem := (s.recompute ev).state.mem } := by
  unfold State.recompute
  dsimp only
  split
  · rfl
  · split <;> rfl

/-- An unchanged record leaves all but the hold position that no goal reads (log entry 23). -/
theorem recompute_unchanged (ev : GoalEvent) (h : (s.recompute ev).changed = false) :
    (s.recompute ev).state = { s with arb := { s.arb with holdPos := (s.recompute ev).state.arb.holdPos } } := by
  revert h
  unfold State.recompute
  dsimp only
  split
  · intro h; cases h
  · intro _
    split <;> rfl

/-- Handing the goal: the record unchanged, or the head takes the new one (R73). -/
theorem handGoal_cases (ev : GoalEvent) :
    ((s.recompute ev).changed = false ∧ s.handGoal ev = (s.recompute ev).state) ∨
      ((s.recompute ev).changed = true ∧
        s.handGoal ev = (s.recompute ev).state.takeGoal (s.recompute ev).posChanged) := by
  unfold State.handGoal
  cases h : (s.recompute ev).changed <;> simp [h]

/-! ## The apply -/

theorem applyPoint_idle (h : s.ex.applyPending = false) :
    s.applyPoint = { state := s, changed := false, posChanged := false } := by simp [State.applyPoint, h]

theorem applyPoint_pending (h : s.ex.applyPending = true) : s.applyPoint = s.applyTake := by
  simp [State.applyPoint, h]

theorem applyTake_refused {code : Result} {off : Nat} (h : validatePage s.staged = some (code, off)) :
    s.applyTake = { state := s.refuseApply code off, changed := false, posChanged := false } := by
  simp [State.applyTake, h]

theorem applyTake_accepted (h : validatePage s.staged = none) :
    s.applyTake = s.acceptApply.applyReactions
      { changes := (pageDiffs s.staged s.page).map Prod.fst, before := s.page, after := s.acceptApply.page } := by
  simp [State.applyTake, h]

/-- The gate is IDLE afterwards, and only the live gate state may be written (R10, R12). -/
theorem gateIdle_spec : s.gateIdle.ex = { s.ex with applyPending := false } := by
  unfold State.gateIdle
  split
  · rfl
  · rename_i h
    have : s.ex.applyPending = false := by simpa using h
    rw [← this]

/-! ## Records -/

/-- The frame found is FREE, and lies at the least distance from the pointer (R22). -/
theorem findFree_some {m : Mem} {start k : Fin 8} (h : findFree m start = some k) :
    readWord m (frameBase k.val) = freeCode := by
  have := List.find?_some h
  simpa using this

/-- No frame is found only when none is FREE (R22). -/
theorem findFree_none {m : Mem} {start : Fin 8} (h : findFree m start = none) (k : Fin 8) :
    readWord m (frameBase k.val) ≠ freeCode := by
  unfold findFree at h
  rw [List.find?_eq_none] at h
  have all : ∀ a b : Fin 8, b ∈ channels8.map (fun d => a + d) := by decide
  simpa using h k (all start k)

/-- Producing a record: stored in a FREE frame, or lost (R22, R23). -/
theorem produce_cases (h : RecHeader) (body : List Word) :
    (∃ k, findFree s.mem s.ex.nextFrame = some k ∧
        (s.produce h body).ex.nextFrame = k + 1 ∧ (s.produce h body).ex.skipped = 0) ∨
      (findFree s.mem s.ex.nextFrame = none ∧ (s.produce h body).ex.nextFrame = s.ex.nextFrame ∧
        (s.produce h body).ex.skipped = s.ex.skipped + 1) := by
  unfold State.produce
  cases hf : findFree s.mem s.ex.nextFrame with
  | some k => exact Or.inl ⟨k, rfl, rfl, rfl⟩
  | none => exact Or.inr ⟨rfl, rfl, rfl⟩

/-- Every record takes the next number (R23), and of the exchange controller only the record's fields change. -/
theorem produce_number (h : RecHeader) (body : List Word) :
    (s.produce h body).ex.lastRecord = s.ex.lastRecord + 1 := by
  unfold State.produce
  cases findFree s.mem s.ex.nextFrame <;> rfl

theorem produce_ex (h : RecHeader) (body : List Word) :
    (s.produce h body).ex =
      { s.ex with lastRecord := (s.produce h body).ex.lastRecord, skipped := (s.produce h body).ex.skipped,
                  nextFrame := (s.produce h body).ex.nextFrame, notice := (s.produce h body).ex.notice } := by
  unfold State.produce
  cases findFree s.mem s.ex.nextFrame <;> rfl

/-! ## Bytes of memory that an operation leaves -/

theorem sameBytes_refl (m : Mem) (lo hi : Nat) : SameBytes m m lo hi := fun _ _ _ => rfl

theorem sameBytes_trans {a b c : Mem} {lo hi : Nat} (h1 : SameBytes a b lo hi) (h2 : SameBytes b c lo hi) :
    SameBytes a c lo hi := fun x hl hh => (h1 x hl hh).trans (h2 x hl hh)

theorem sameBytes_mono {a b : Mem} {lo hi lo' hi' : Nat} (h : SameBytes a b lo hi) (h1 : lo ≤ lo') (h2 : hi' ≤ hi) :
    SameBytes a b lo' hi' := fun x hl hh => h x (Nat.le_trans h1 hl) (Nat.lt_of_lt_of_le hh h2)

theorem sameBytes_writeWord (m : Mem) (a : Nat) (w : Word) {lo hi : Nat} (h : hi ≤ a ∨ a + 4 ≤ lo) :
    SameBytes (writeWord m a w) m lo hi := by
  intro x hl hh
  rw [readByte_writeWord]
  have h0 : ¬ (a ≤ x ∧ x < a + 4) := by omega
  simp [h0]

theorem sameBytes_writeWords (ws : List Word) (m : Mem) (a : Nat) {lo hi : Nat}
    (h : hi ≤ a ∨ a + 4 * ws.length ≤ lo) : SameBytes (writeWords m a ws) m lo hi := by
  intro x hl hh
  exact readByte_writeWords_other ws m a x (by omega)

/-- A live word changes its own four bytes (R24). -/
theorem live_sameBytes (off : Nat) (w : Word) {lo hi : Nat} (h : hi ≤ liveBase + off ∨ liveBase + off + 4 ≤ lo) :
    SameBytes (s.live off w).mem s.mem lo hi := sameBytes_writeWord s.mem _ w h

theorem liveWords_sameBytes (off : Nat) (ws : List Word) {lo hi : Nat}
    (h : hi ≤ liveBase + off ∨ liveBase + off + 4 * ws.length ≤ lo) :
    SameBytes (s.liveWords off ws).mem s.mem lo hi := sameBytes_writeWords ws s.mem _ h

/-- A word reads as before where the bytes are the same. -/
theorem readWord_of_sameBytes {m n : Mem} {lo hi a : Nat} (h : SameBytes m n lo hi) (h1 : lo ≤ a) (h2 : a + 4 ≤ hi) :
    readWord m a = readWord n a := by
  unfold readWord
  rw [h a h1 (by omega), h (a + 1) (by omega) (by omega), h (a + 2) (by omega) (by omega),
    h (a + 3) (by omega) (by omega)]

/-- An alarm entry's change writes its own sixteen bytes of the live area alone (R159). -/
theorem setAlarm_sameBytes (i : Fin 48) (e : AlarmEntry) {lo hi : Nat}
    (h : hi ≤ 0x08200 + 16 * i.val ∨ 0x08210 + 16 * i.val ≤ lo) : SameBytes (s.setAlarm i e).mem s.mem lo hi := by
  unfold State.setAlarm
  split
  · exact sameBytes_refl _ _ _
  · refine liveWords_sameBytes _ _ _ ?_
    simp only [AlarmEntry.words, List.length_cons, List.length_nil, liveBase]
    omega

/-- A recompute writes the live effective goal alone (R73). -/
theorem recompute_sameBytes (ev : GoalEvent) {lo hi : Nat} (h : hi ≤ 0x0803C ∨ 0x08044 ≤ lo) :
    SameBytes (s.recompute ev).state.mem s.mem lo hi := by
  unfold State.recompute
  dsimp only
  split
  · refine liveWords_sameBytes _ _ _ ?_
    simp only [Arbiter.goalWords, List.length_cons, List.length_nil, liveBase]
    omega
  · split <;> exact sameBytes_refl _ _ _

/-! ## The canonical form -/

theorem live_wf (off : Nat) (w : Word) (h : s.MemoryOk) : (s.live off w).MemoryOk := writeWord_wf h _ w

theorem liveWords_wf (off : Nat) (ws : List Word) (h : s.MemoryOk) : (s.liveWords off ws).MemoryOk :=
  writeWords_wf ws h _

theorem setAlarm_wf (i : Fin 48) (e : AlarmEntry) (h : s.MemoryOk) : (s.setAlarm i e).MemoryOk := by
  unfold State.setAlarm
  split
  · exact h
  · exact writeWords_wf _ h _

theorem raiseAlarm_wf (i : Fin 48) (v : Option Int) (h : s.MemoryOk) : (s.raiseAlarm i v).2.MemoryOk := by
  unfold State.raiseAlarm
  dsimp only
  split
  · exact setAlarm_wf s i _ h
  · exact setAlarm_wf s i _ h

theorem clearAlarm_wf (i : Fin 48) (v : Option Int) (h : s.MemoryOk) : (s.clearAlarm i v).MemoryOk := by
  unfold State.clearAlarm
  dsimp only
  split
  · exact setAlarm_wf s i _ h
  · exact setAlarm_wf s i _ h

theorem produce_wf (hd : RecHeader) (body : List Word) (h : s.MemoryOk) : (s.produce hd body).MemoryOk := by
  unfold State.produce
  cases findFree s.mem s.ex.nextFrame with
  | some k =>
    have h1 := writeWord_wf (writeWords_wf (hd.words (s.ex.lastRecord + 1) (skippedWord s.ex.skipped) s.ex.generation
      (16 + body.length) ++ body) h (frameBase k.val + 4)) (frameBase k.val) readyCode
    exact writeWord_wf h1 (liveBase + 0x028) 0
  | none => exact writeWord_wf h (liveBase + 0x028) _

theorem recompute_wf (ev : GoalEvent) (h : s.MemoryOk) : (s.recompute ev).state.MemoryOk := by
  unfold State.recompute
  dsimp only
  split
  · exact writeWords_wf _ h _
  · split <;> exact h

theorem writeHistory_wf (hd : HeadState) (cues : BitVec 4) (p q : Word) (w : OpenWork) (r : Word) (h : s.MemoryOk) :
    (s.writeHistory hd cues p q w r).MemoryOk := writeWord_wf (writeWords_wf _ h _) _ _

theorem setHead_wf (hd : HeadState) (h : s.MemoryOk) : (s.setHead hd).MemoryOk := by
  unfold State.setHead
  split
  · exact h
  · exact writeWord_wf h _ _

theorem copyDiffs_wf (ds : List (Nat × Word)) {m : Mem} (h : Memory.wf m) : Memory.wf (copyDiffs ds m) := by
  unfold copyDiffs
  induction ds generalizing m with
  | nil => exact h
  | cons d ds ih => exact ih (writeWord_wf h _ _)

/-! ## The head -/

/-- A change of head state; the state it already has is no change (R53, R60, R66). -/
theorem setHead_cases (h : HeadState) :
    (s.trav.head = h ∧ s.setHead h = s) ∨
      (s.trav.head ≠ h ∧ (s.setHead h).trav =
        { s.trav with head := h, stillness := 0, stallTime := 0, dwellTimer := none }) := by
  unfold State.setHead
  by_cases e : s.trav.head = h
  · exact Or.inl ⟨e, if_pos e⟩
  · exact Or.inr ⟨e, by rw [if_neg e]; rfl⟩

theorem setHead_head (h : HeadState) : (s.setHead h).trav.head = h := by
  rcases setHead_cases s h with ⟨e, e'⟩ | ⟨_, e'⟩
  · rw [e', e]
  · rw [e']

/-- D moves by at most RAMP and never passes the target (R52). -/
theorem rampDuty_bounds (ramp target d : Nat) :
    rampDuty ramp target d ≤ max d target ∧ min d target ≤ rampDuty ramp target d := by
  unfold rampDuty
  split <;> omega

/-- A raised target is nonzero exactly where the target was (R51). -/
theorem raiseTarget_eq_zero (m t : Nat) : raiseTarget m t = 0 ↔ t = 0 := by
  unfold raiseTarget
  split
  · omega
  · rfl

/-- The EDGE cue after an apply point leaves the generation that the apply left (R12, R174). -/
theorem edgeCueAfterApply_generation (g : Word) : (s.edgeCueAfterApply g).ex.generation = s.ex.generation := rfl

/-! ## The link's slots -/

theorem foldl_xor (f : Nat → Bool) (b : Bool) (l : List Nat) :
    l.foldl (fun acc i => xor acc (f i)) b = xor b (l.foldl (fun acc i => xor acc (f i)) false) := by
  induction l generalizing b with
  | nil => simp
  | cons i l ih => rw [List.foldl_cons, List.foldl_cons, ih, ih (xor false (f i)), Bool.false_xor, Bool.xor_assoc]

/-- The parity bit makes the count of ones odd (R30). -/
theorem oddParity_parityBit (w : SlotWord) : oddParity w (parityBit w) = true := by
  unfold oddParity parityBit oddParity
  rw [foldl_xor]
  simp

/-- A slot that the part sends is received as the word it carries (R30). -/
theorem slotSent_received (w : SlotWord) : SlotRx.received (slotSent w) = some w := by
  simp [slotSent, SlotRx.received, oddParity_parityBit]

end Sys2Proof.Laws
end

