-- ==== Sys2Proof/Laws/Frames.lean ====
section
/-!
SUPPORT. What a frame-received event is in terms of the judged frame, and that a quiet frame leaves the link's state;
the count of an encoder step.
-/

namespace Sys2Proof.Laws

open Sys2Proof.Machine

variable {slots : List SlotRx} {f : Frame} {s : State}

/-- The frame-received event of a frame in flight: the judged frame, the link's state, TEMP_ALARM, the conversion
(R31, R90). -/
theorem frameReceived_eq (h : s.link.inFlight = some f) :
    s.frameReceived slots =
      ((s.judgedFrame slots f).judgeLink.tempAlarm (slotWord slots f.slotCount 0)).convertFrame f slots
        ((s.judgedFrame slots f).frameValid f (slotWord slots f.slotCount 0)) := by
  unfold State.frameReceived
  rw [h]
  rfl

/-- The echo check changes the echo alone: it may clear it with its count, or count one frame (R36). -/
theorem echoCheck_cases (f : Frame) (status : Option SlotWord) (s : State) :
    s.echoCheck f status = s ∨
      s.echoCheck f status = { s with link := { s.link with echoPending := false, echoCount := 0 } } ∨
      s.echoCheck f status = { s with link.echoCount := s.link.echoCount + 1 } := by
  unfold State.echoCheck
  split
  · split
    · exact Or.inr (Or.inl rfl)
    · split
      · exact Or.inr (Or.inr rfl)
      · exact Or.inl rfl
  · exact Or.inl rfl

/-- A quiet frame brings about neither the loss of the link nor an echo timeout (R36, R38). -/
theorem quiet_judgeLink (q : s.QuietFrame slots f) : (s.judgedFrame slots f).judgeLink = s.judgedFrame slots f := by
  have up : (s.judgedFrame slots f).link.up = true := by
    unfold State.judgedFrame State.countFrame
    rcases echoCheck_cases f (slotWord slots f.slotCount 0) { s with link.inFlight := none } with e | e | e <;>
      rw [e] <;> split <;> exact q.up
  have page : (s.judgedFrame slots f).page = s.page := by
    unfold State.judgedFrame State.countFrame
    rcases echoCheck_cases f (slotWord slots f.slotCount 0) { s with link.inFlight := none } with e | e | e <;>
      rw [e] <;> split <;> rfl
  have loss : (s.judgedFrame slots f).link.lossCount < s.page.linkLoss := by
    have limit := q.limit
    have losses := q.losses
    unfold State.judgedFrame State.countFrame
    rcases echoCheck_cases f (slotWord slots f.slotCount 0) { s with link.inFlight := none } with e | e | e <;>
      rw [e] <;> cases h : slotWord slots f.slotCount 0 <;> simp [h] at losses ⊢ <;> omega
  have echo : (s.judgedFrame slots f).link.echoCount < 200 := by
    have echo := q.echo
    unfold State.judgedFrame State.countFrame
    rcases echoCheck_cases f (slotWord slots f.slotCount 0) { s with link.inFlight := none } with e | e | e <;>
      rw [e] <;> split <;> simp <;> omega
  simp [State.judgeLink, State.lossDue, State.upDue, State.echoDue, up, page, Nat.not_le.mpr loss,
    show ¬ Config.echoLimit ≤ (s.judgedFrame slots f).link.echoCount from Nat.not_le.mpr echo]

/-- The count of an encoder step, read from the table of R45, is what ENCODER_STEP adds. -/
theorem encoderCount_eq (a b : Bool) (s : State) :
    encoderDelta s.page.senseReversed s.pins.encA s.pins.encB a b = s.encoderCount a b := by
  unfold State.encoderCount
  generalize s.pins.encA = c, s.pins.encB = d, s.page.senseReversed = r
  cases r <;> cases c <;> cases d <;> cases a <;> cases b <;> rfl

end Sys2Proof.Laws
end

