-- ==== Sys2Proof/Laws/PerInstr.lean ====
section
/-!
SUPPORT. A statement about every command as syntax, made command by command: the bus write that carries a host command
is read as a well-formed command.
-/

namespace Sys2Proof.Laws

/-- A GATE write is a well-formed command (R185). -/
theorem decodeGate_wf (v : Word) : (decodeGate v).wf = true := by
  unfold decodeGate
  split
  · rfl
  · split
    · rfl
    · split
      · rfl
      · rename_i h1 h2 h3
        show unknownGateCode v = true
        unfold unknownGateCode bne
        rw [Bool.eq_false_of_not_eq_true h1, Bool.eq_false_of_not_eq_true h2, Bool.eq_false_of_not_eq_true h3]
        rfl

/-- A register select that is none of the first three is one of PART STATE and the unused offsets (R185). -/
theorem otherRegister_of_ne {sel : BitVec 3} (h0 : ¬(sel == 0) = true) (h1 : ¬(sel == 1) = true)
    (h2 : ¬(sel == 2) = true) : otherRegister sel = true := by
  revert h0 h1 h2
  revert sel
  decide

/-- Every bus write of a register is a well-formed command (R185). -/
theorem decodeRegisterWrite_wf (wa : BitVec 16) (v : Word) : (decodeRegisterWrite wa v).wf = true := by
  unfold decodeRegisterWrite
  dsimp only
  split
  · exact decodeGate_wf v
  · split
    · rfl
    · split
      · rfl
      · rename_i h0 h1 h2
        exact otherRegister_of_ne h0 h1 h2

/-- Every bus write is a well-formed command (R1, R21, R185). -/
theorem decodeBusWrite_wf (b : BusWrite) : (decodeBusWrite b).wf = true := by
  unfold decodeBusWrite
  cases b.select with
  | register => exact decodeRegisterWrite_wf b.wa b.data
  | exchange => cases frameOfWa b.wa <;> rfl

namespace BusWriteWellFormed

/-- The bus write that carries the command is read as a well-formed command. -/
def Statement (i : Instr) : Prop := ∀ b, busWriteOf i = some b → (decodeBusWrite b).wf = true

theorem coldReset : Statement .coldReset := fun b _ => decodeBusWrite_wf b
theorem starting : Statement .starting := fun b _ => decodeBusWrite_wf b
theorem startUpCompletion : Statement .startUpCompletion := fun b _ => decodeBusWrite_wf b
theorem apply : Statement .apply := fun b _ => decodeBusWrite_wf b
theorem pendingApplyTaken : Statement .pendingApplyTaken := fun b _ => decodeBusWrite_wf b
theorem mode : Statement .mode := fun b _ => decodeBusWrite_wf b
theorem modeReq (req holdPos : Word) : Statement (.modeReq req holdPos) := fun b _ => decodeBusWrite_wf b
theorem stdNow (v : Word) : Statement (.stdNow v) := fun b _ => decodeBusWrite_wf b
theorem breakAck (v : Word) : Statement (.breakAck v) := fun b _ => decodeBusWrite_wf b
theorem faultAck (v : Word) : Statement (.faultAck v) := fun b _ => decodeBusWrite_wf b
theorem arm (v : Word) : Statement (.arm v) := fun b _ => decodeBusWrite_wf b
theorem restart : Statement .restart := fun b _ => decodeBusWrite_wf b
theorem unknownCode (code : Word) : Statement (.unknownCode code) := fun b _ => decodeBusWrite_wf b
theorem noticeWrite (v : Word) : Statement (.noticeWrite v) := fun b _ => decodeBusWrite_wf b
theorem noticeMaskWrite (v : Word) : Statement (.noticeMaskWrite v) := fun b _ => decodeBusWrite_wf b
theorem otherRegisterWrite (sel : BitVec 3) (v : Word) : Statement (.otherRegisterWrite sel v) :=
  fun b _ => decodeBusWrite_wf b
theorem exchangeMemoryWrite (wa : BitVec 16) (v : Word) : Statement (.exchangeMemoryWrite wa v) :=
  fun b _ => decodeBusWrite_wf b
theorem stateWordWrite (k : Fin 8) (v : Word) : Statement (.stateWordWrite k v) := fun b _ => decodeBusWrite_wf b
theorem frameStart : Statement .frameStart := fun b _ => decodeBusWrite_wf b
theorem frameReceived (slots : List SlotRx) : Statement (.frameReceived slots) := fun b _ => decodeBusWrite_wf b
theorem echoTimeout : Statement .echoTimeout := fun b _ => decodeBusWrite_wf b
theorem linkGoesDown : Statement .linkGoesDown := fun b _ => decodeBusWrite_wf b
theorem linkGoesUp : Statement .linkGoesUp := fun b _ => decodeBusWrite_wf b
theorem batchFull : Statement .batchFull := fun b _ => decodeBusWrite_wf b
theorem gaugeCueFire (cuePos : Word) : Statement (.gaugeCueFire cuePos) := fun b _ => decodeBusWrite_wf b
theorem standardizeStart : Statement .standardizeStart := fun b _ => decodeBusWrite_wf b
theorem settleEnd : Statement .settleEnd := fun b _ => decodeBusWrite_wf b
theorem measureEnd : Statement .measureEnd := fun b _ => decodeBusWrite_wf b
theorem driveIntervalExpiry : Statement .driveIntervalExpiry := fun b _ => decodeBusWrite_wf b
theorem arrival : Statement .arrival := fun b _ => decodeBusWrite_wf b
theorem stall : Statement .stall := fun b _ => decodeBusWrite_wf b
theorem edgeMissLimitReached (side : Side) : Statement (.edgeMissLimitReached side) := fun b _ => decodeBusWrite_wf b
theorem alarmStreakReached (i : Fin 36) : Statement (.alarmStreakReached i) := fun b _ => decodeBusWrite_wf b
theorem dwellExpiry : Statement .dwellExpiry := fun b _ => decodeBusWrite_wf b
theorem encoderStep (a b : Bool) : Statement (.encoderStep a b) := fun b _ => decodeBusWrite_wf b
theorem frontLimActive : Statement .frontLimActive := fun b _ => decodeBusWrite_wf b
theorem backLimActive : Statement .backLimActive := fun b _ => decodeBusWrite_wf b
theorem drvFaultActive : Statement .drvFaultActive := fun b _ => decodeBusWrite_wf b
theorem fieldInputInactive (i : FieldInput) : Statement (.fieldInputInactive i) := fun b _ => decodeBusWrite_wf b
theorem panelInputChange (i : PanelInput) (active : Bool) : Statement (.panelInputChange i active) :=
  fun b _ => decodeBusWrite_wf b
theorem panelDebounceExpiry (i : PanelInput) : Statement (.panelDebounceExpiry i) := fun b _ => decodeBusWrite_wf b
theorem breakInChange (active : Bool) : Statement (.breakInChange active) := fun b _ => decodeBusWrite_wf b
theorem lineDebounceExpiry : Statement .lineDebounceExpiry := fun b _ => decodeBusWrite_wf b
theorem breakResume : Statement .breakResume := fun b _ => decodeBusWrite_wf b

end BusWriteWellFormed

end Sys2Proof.Laws
end

