-- ==== Sys2Proof/Tests/Slice0.lean ====
section
/-!
SUPPORT. Tests of the model: ill-formed commands, bus writes, the spec's worked examples (each names its example), single steps on
small states, and for every statement with hypotheses a state and operands that meet them.
-/

namespace Sys2Proof.Tests

open Sys2Proof.Machine

set_option Elab.async false

/-! ## Ill-formed commands -/

theorem test_wf_refuses_apply_as_unknown : (Instr.unknownCode 1).wf = false := by decide
theorem test_wf_refuses_mode_as_unknown : (Instr.unknownCode 2).wf = false := by decide
theorem test_wf_refuses_restart_as_unknown : (Instr.unknownCode 3).wf = false := by decide
theorem test_wf_unknown_zero : (Instr.unknownCode 0).wf = true := by decide
theorem test_wf_refuses_gate_as_other : (Instr.otherRegisterWrite 0 7).wf = false := by decide
theorem test_wf_refuses_mask_as_other : (Instr.otherRegisterWrite 2 7).wf = false := by decide
theorem test_wf_part_state_as_other : (Instr.otherRegisterWrite 3 7).wf = true := by decide
theorem test_wf_refuses_ten_slots : (Instr.frameReceived (List.replicate 10 ⟨true, 0, true⟩)).wf = false := by decide
theorem test_wf_nine_slots : (Instr.frameReceived (List.replicate 9 ⟨true, 0, true⟩)).wf = true := by decide

/-! ## Bus writes (R1, R21, R185, R188) -/

theorem test_bus_gate_apply : decodeBusWrite ⟨.register, 0, 1⟩ = .apply := by decide
theorem test_bus_gate_mode : decodeBusWrite ⟨.register, 0, 2⟩ = .mode := by decide
theorem test_bus_gate_restart : decodeBusWrite ⟨.register, 0, 3⟩ = .restart := by decide
theorem test_bus_gate_unknown : decodeBusWrite ⟨.register, 0, 0⟩ = .unknownCode 0 := by decide
/-- The register block repeats every 32 bytes (R185): 0x44 is NOTICE. -/
theorem test_bus_notice_repeats : decodeBusWrite ⟨.register, 0x11, 5⟩ = .noticeWrite 5 := by decide
theorem test_bus_part_state : decodeBusWrite ⟨.register, 3, 5⟩ = .otherRegisterWrite 3 5 := by decide
/-- Frame 1 lies at 0x16000 (R188). -/
theorem test_bus_state_word : decodeBusWrite ⟨.exchange, 0x5800, 1⟩ = .stateWordWrite 1 1 := by decide
theorem test_bus_staged : decodeBusWrite ⟨.exchange, 8, 1⟩ = .exchangeMemoryWrite 8 1 := by decide

/-! ## States for the tests -/

def stdCtx : StdCtx := { phase := .settleOpen, count := 0, startTime := 0, chans := [] }

def scanCtx (d : ScanDir) : ScanCtx :=
  { dir := d, startTime := 0, startPos := 0, front := 1000, back := 9000, nBins := 64, chans := []
    firstAfterBreak := false }

def emptyBatch : Batch := { startTime := 0, holdPos := 0, firstAfterBreak := false, frames := 0, chans := [] }

/-- The request and the goal that go with a head state. -/
def aim : HeadState → ReqMode × Goal
  | .outbound | .inbound | .turning => (.scan, .scan)
  | .holding | .movingToHold => (.hold, .hold)
  | .standing | .stopping | .unhomed => (.stop, .stop)
  | .parked | .returning | .homing | .faulted | .standardizing => (.park, .park)

/-- A running machine with the link UP and the head in a state, with the open work and the goal that go with it. -/
def base (h : HeadState) : State :=
  { State.reset with
    ex := { State.reset.ex with life := .ready, reqMode := (aim h).1 }
    link := { State.reset.link with up := true, shutter := h.shutterOpen || decide (h = .standardizing) }
    trav := { State.reset.trav with
      head := h, homed := !(decide (h = .unhomed) || decide (h = .faulted) || decide (h = .homing)) }
    arb := { State.reset.arb with goal := (aim h).2 }
    std := { State.reset.std with ctx := if h = .standardizing then some stdCtx else none }
    bin := { State.reset.bin with
      scan := if h = .outbound then some (scanCtx .outbound) else if h = .inbound then some (scanCtx .inbound) else
      none
      batch := if h = .holding then some emptyBatch else none } }

/-- A word of the exchange memory set. -/
def put (a : Nat) (w : Word) (s : State) : State := { s with mem := writeWord s.mem a w }

/-- The state that a command leaves. -/
def after (c : Instr) (s : State) : State :=
  match exec c s with
  | .next t => t
  | _ => s

/-- The checks of State.Sound. -/
def soundCheck (s : State) : Bool :=
  decide (s.bin.scan.isSome = s.trav.head.traversing) && decide (s.bin.batch.isSome = true → s.trav.head = .holding)
    && decide (s.std.ctx.isSome = decide (s.trav.head = .standardizing))
    && decide (s.trav.head.atRest = true → s.trav.duty = 0)
    && decide (s.trav.head ≠ .homing →
      s.trav.homed = !(decide (s.trav.head = .unhomed) || decide (s.trav.head = .faulted)))
    && decide (s.ex.life = .starting → s.trav.head = .unhomed)
    && decide (s.ex.life = .ready → s.trav.head = .unhomed → s.arb.goal = .stop)
    && decide (s.ex.life = .ready → s.arb.goal = s.claimedGoal)
    && decide (s.trav.head.shutterOpen = true → s.arb.goal ≠ .park ∧ s.arb.goal ≠ .stop ∧ s.arb.goal ≠ .home)
    && decide ((s.breakDemand || s.linkDemand) = true → s.trav.head.shutterOpen = false)
    && decide (s.stdStartDue = false) && decide (s.link.shutter = s.shutterDemand)
    && decide (s.link.ref = s.refDemand)

theorem sound_of_check {s : State} (h : soundCheck s = true) : s.Sound := by
  simp only [soundCheck, Bool.and_eq_true, decide_eq_true_eq] at h
  obtain ⟨⟨⟨⟨⟨⟨⟨⟨⟨⟨⟨⟨h1, h2⟩, h3⟩, h4⟩, h5⟩, h6⟩, h7⟩, h8⟩, h9⟩, h10⟩, h11⟩, h12⟩, h13⟩ := h
  exact ⟨⟨h1, h2, h3, h4, h5, h6, h7⟩, ⟨h8, h9, h10⟩, ⟨h11, h12, h13⟩⟩

theorem base_sound (h : HeadState) : (base h).Sound := by
  apply sound_of_check
  cases h <;> decide +kernel

theorem base_ready (h : HeadState) : (base h).ex.life = .ready := rfl

/-- The link DOWN, the head PARKED under the goal PARK. -/
def linkDownS : State := { base .parked with link := { (base .parked).link with up := false } }
/-- BROKEN with break 7 and the head PARKED; `latch` is the acknowledge latch. -/
def broken (latch : Bool) : State :=
  { base .parked with brk := { (base .parked).brk with state := .broken, number := 7, latch := latch } }
/-- LINE enabled on the active page, its level active. -/
def withLine (s : State) : State := put 0x4540 4 { s with brk := { s.brk with line := true } }
/-- LOW enabled in WATCH, its count at the limit of 5. -/
def cueing (h : HeadState) : State :=
  put 0x4540 1 { base h with brk := { (base h).brk with armed := true, state := .watch, lowCount := 5 } }
/-- A standardize in a phase, with the command word's REF. -/
def inPhase (p : StdPhase) (n : Nat) (chans : List StdChan) : State :=
  { base .standardizing with
    std := { (base .standardizing).std with ctx := some { stdCtx with phase := p, count := n, chans := chans } }
    link := { (base .standardizing).link with ref := p.refIn } }
/-- LINE enabled, WATCH, the line debounce timer at its end with the raw level active. -/
def lineFires (s : State) : State :=
  put 0x4540 4 { s with brk := { s.brk with armed := true, state := .watch, lineTimer := some 0 }
                        pins := { s.pins with breakIn := true } }
/-- The panel timers at their end with both raw levels active. -/
def panelDue (s : State) : State :=
  { s with arb := { s.arb with parkTimer := some 0, inhibitTimer := some 0 }
           pins := { s.pins with panelPark := true, panelInhibit := true } }
/-- An echo pending with its count at the limit. -/
def echoLate (s : State) : State := { s with link := { s.link with echoPending := true, echoCount := 200 } }
/-- A channel of a standardize context. -/
def stdChan (c : Fin 8) (inCheck : Bool) : StdChan := { chan := c, inCheck := inCheck, old := { } }
/-- Stillness 5 at D 0: an arrival wants its stop point alone. -/
def still (d : Dir) (pos : Word) (s : State) : State :=
  { s with trav := { s.trav with stillness := 5, dir := d, motionDir := d, position := pos } }
/-- A received slot. -/
def sent (w : SlotWord) : SlotRx := ⟨true, w, parityBit w⟩
/-- A frame in flight. -/
def flight (h : HeadState) (s : State) : State :=
  { s with link := { s.link with inFlight := some { s.newFrame 1 with head := h } } }
/-- A measurement-valid status word with ECHO 0. -/
def goodStatus : SlotWord := 0x50
/-- A page with channel 0 enabled as BW and channel 1 as MOIST. -/
def dryPage : State := put 0x4148 2 (put 0x4140 1 (put 0x4108 1 (put 0x4100 1 (base .parked))))
/-- The checks of a quiet frame in flight, less soundness. -/
def quietCheck (slots : List SlotRx) (f : Frame) (s : State) : Bool :=
  decide (s.ex.life = .ready) && decide (s.link.inFlight = some f) && !s.ex.applyPending && s.link.up &&
    decide (s.link.echoCount + 1 < 200) && decide (1 ≤ s.page.linkLoss) &&
    decide (slotWord slots f.slotCount 0 = none → min 255 (s.link.lossCount + 1) < s.page.linkLoss)
/-- The frame that `flight h s` puts in flight. -/
def flown (h : HeadState) (s : State) : Frame := { s.newFrame 1 with head := h }
theorem quiet_of_check {slots : List SlotRx} {f : Frame} {s : State} (sound : soundCheck s = true)
    (quiet : quietCheck slots f s = true) : s.QuietFrame slots f := by
  simp only [quietCheck, Bool.and_eq_true, decide_eq_true_eq, Bool.not_eq_true'] at quiet
  obtain ⟨⟨⟨⟨⟨⟨ready, inFlight⟩, calm⟩, up⟩, echo⟩, limit⟩, losses⟩ := quiet
  exact ⟨sound_of_check sound, ready, inFlight, calm, up, echo, limit, losses⟩
/-- The outcome is a next state. -/
theorem next_after (c : Instr) (s : State) : ∃ t, exec c s = .next t := by
  cases c <;> exact ⟨_, rfl⟩

theorem reset_memory : State.reset.MemoryOk := Laws.wf_nil
theorem reset_sound : State.reset.Sound := sound_of_check (by decide +kernel)

theorem reset_page : State.reset.PageOk := by
  have fields : checkPlan State.reset.page = none ∧ checkBins State.reset.page = none ∧
      State.reset.page.cruiseDuty ≤ 1000 ∧ State.reset.page.creepDuty ≤ 1000 ∧ State.reset.page.returnDuty ≤ 1000 ∧
      State.reset.page.homeDuty ≤ 1000 ∧ State.reset.page.minDuty ≤ 1000 := by
    decide +kernel
  obtain ⟨plan, bins, cruise, creep, ret, home, low⟩ := fields
  exact { plan := plan, bins := bins, cruise := cruise, creep := creep, ret := ret, home := home, min := low,
          duty := Nat.zero_le _, pwm := Nat.zero_le _, scanFits := nofun, batchFits := nofun, stdFits := nofun }

/-! ## Worked examples of the spec -/

/-- Example 5-1. -/
theorem test_example_5_1_normalise : normalise false 400000 251000 = 41123 := by decide +kernel
/-- Example 5-1: the floor of a falling segment. -/
theorem test_example_5_1_interpolate :
    interpolate (fun i => if i = 20 then 48000 else if i = 21 then 45500 else 0) 41123 = 47801 :=
  by decide +kernel
/-- Example 5-1. -/
theorem test_example_5_1_dry : dryValue 47801 7250 = 44335 := by decide +kernel
/-- R97: b = −3 with m = 50,000. -/
theorem test_dry_negative : dryValue (-3) 50000 = -2 := by decide +kernel
/-- Example 5-2. -/
theorem test_example_5_2_window :
    [normalise true 120000 118500, normalise true 120000 60000, normalise true 120000 160000] = [31268, 0, 65535] :=
  by decide +kernel
/-- Example 5-2, frame 3. -/
theorem test_example_5_2_interpolate :
    interpolate (fun i => if i = 31 then 176000 else if i = 32 then 180000 else 0) 65535 = 179998 :=
  by decide +kernel
/-- Example 5-3: channel 1. -/
theorem test_example_5_3_stale : wordValidity true true false true = .stale := by decide +kernel
/-- Example 5-3: channel 3. -/
theorem test_example_5_3_unreferenced : wordValidity true false false false = .unreferenced := by decide +kernel
/-- Example 7-1. -/
theorem test_example_7_1_bin :
    binIndex 2000 98000 384 50125 = 192 ∧ binIndex 2000 98000 384 50250 = 193 :=
  by decide +kernel
/-- Example 7-1: a second sample finds the bin full. -/
theorem test_example_7_1_full :
    (ChanAcc.addToBin { chan := 0, bins := [{ sum := 0, count := 65535 }] } 0 47801).rejFull = 1 :=
  by decide +kernel
/-- Example 7-1: the back edge itself lies outside the bins. -/
theorem test_example_7_1_off_sheet :
    (ChanAcc.dispose { chan := 0, bins := [{ }] } 2000 98000 384 98000
      { chan := 0, validity := .usable, value := some 1, raw := 0, stdValid := true }).rejOffSheet = 1 :=
  by decide +kernel
/-- Example 8-1: bin 2 and the average. -/
theorem test_example_8_1_mean : roundAway 1800458 38 = 47380 ∧ roundAway 664681 14 = 47477 := by decide +kernel
/-- Example 8-1: bin 7. -/
theorem test_example_8_1_filter :
    updateBin 64 { cls := .data, mean := 47801, old := { filled := true, f := 12160000, r := 47500 } } =
      { filled := true, f := 12179264, r := 47575 } :=
  by decide +kernel
/-- Example 8-1: bin 3. -/
theorem test_example_8_1_filter_down :
    (updateBin 64 { cls := .data, mean := 47460, old := { filled := true, f := 12160000, r := 47500 } }).r = 47490 :=
  by decide +kernel
/-- Example 6-1: channel 0, halves up. -/
theorem test_example_6_1_candidate :
    (StdChan.candidate { chan := 0, inCheck := true, old := { }, airSum := 100501125, airCount := 250 }) = 402005 :=
  by decide +kernel
/-- Example 6-1: channel 0. -/
theorem test_example_6_1_check :
    stdCheck false 252000 402005 = 41081 ∧ stdDrift false 402005 400000 = 5 :=
  by decide +kernel
/-- Example 6-1: channel 1. -/
theorem test_example_6_1_drift : stdDrift true 121600 120000 = 1600 := by decide +kernel
/-- Example 9-2, scan 1: the HELD bin is not counted. -/
theorem test_example_9_2_violating :
    (judgeKind (fun off => if off = 0x38C then 48500 else if off = 0x394 then 100 else if off = 0x398 then 3 else 0)
      2 2 0 [⟨.data, 48380⟩, ⟨.data, 48510⟩, ⟨.held, 48620⟩, ⟨.data, 48700⟩, ⟨.data, 48550⟩, ⟨.data,
      48300⟩]).1 = .violating :=
  by decide +kernel
/-- Example 2-1: the departure opens the shutter with SEQ 6. -/
theorem test_example_2_1_departure :
    (after (.modeReq 1 0) (put 0x4100 1 { base .parked with link.seq := 5 })).link.seq = 6 :=
  by decide +kernel
/-- Example 3-1, expiry 1,260. -/
theorem test_example_3_1_slow_zone :
    ({ base .outbound with trav.dir := .out, trav.position := 7503 } : State).targetDuty = (150, false) :=
  by decide +kernel
/-- Example 3-1, expiries 1,260 and 1,840. -/
theorem test_example_3_1_ramp : rampDuty 5 150 600 = 595 ∧ rampDuty 5 0 150 = 145 := by decide +kernel
/-- Example 3-2: FRONT_LIM_L becomes active. -/
theorem test_example_3_2_switch :
    (after .frontLimActive (base .homing)).trav.position = Word.ofSigned (-100) :=
  by decide +kernel
/-- Example 1-2: the search passes a READY frame. -/
theorem test_example_1_2_search : findFree (writeWords [] 0x10000 [2]) 0 = some 1 := by decide +kernel
/-- Example 4-1, step 1: a break aborts the scan. -/
theorem test_example_4_1_step_1 :
    (after .lineDebounceExpiry (lineFires (base .inbound))).trav.head = .returning :=
  by decide +kernel
/-- Example 4-1, step 5: the release of the panel switch. -/
theorem test_example_4_1_step_5 :
    (after (.panelDebounceExpiry .park)
      { base .parked with ex.reqMode := .scan, arb.panelPark := true, arb.parkTimer := some 0 }).trav.head =
      .outbound :=
  by decide +kernel

/-! ## Single steps -/

theorem test_apply_default : (after .apply (base .parked)).ex.gateResult = .accepted := by decide +kernel
theorem test_apply_bad_plan :
    (after .apply (put 0x020 1999 (base .parked))).ex.gateResult = .badPlan :=
  by decide +kernel
theorem test_pending_taken :
    (after .pendingApplyTaken { base .parked with ex.applyPending := true }).ex.generation = 1 :=
  by decide +kernel
theorem test_mode_scan_no_channels :
    (after .mode (put 0 1 (base .parked))).ex.gateResult = .noChannels :=
  by decide +kernel
theorem test_std_now_starts : (after (.stdNow 1) (base .parked)).trav.head = .standardizing := by decide +kernel
theorem test_stale_ack : (after (.breakAck 6) (broken false)).ex.gateResult = .staleAck := by decide +kernel
theorem test_ack_resumes : (after (.breakAck 7) (broken false)).brk.state = .disarmed := by decide +kernel
theorem test_fault_ack_homes : (after (.faultAck 1) (base .faulted)).trav.head = .homing := by decide +kernel
theorem test_arm_watch : (after (.arm 1) (put 0x4540 8 (base .parked))).brk.state = .watch := by decide +kernel
theorem test_restart_returns : (after .restart (base .outbound)).trav.head = .returning := by decide +kernel
theorem test_notice_clears :
    (after (.noticeWrite 4) { base .parked with ex.notice := 6 }).ex.notice = 2 :=
  by decide +kernel
theorem test_staged_write : (after (.exchangeMemoryWrite 8 77) (base .parked)).hostReadMem 8 = 77 := by decide +kernel
theorem test_active_write_discarded :
    (after (.exchangeMemoryWrite 0x1008 77) (base .parked)).hostReadMem 0x1008 = 10000 :=
  by decide +kernel
theorem test_frame_number : (after .frameStart (base .parked)).link.frameCounter = 1 := by decide +kernel
theorem test_link_comes_up :
    (after (.frameReceived [sent goodStatus]) (flight .parked { linkDownS with link.goodRun := 7 })).link.up = true :=
  by decide +kernel
/-- R30: a slot is sent with its start mark and odd parity, and received as it was sent. -/
theorem test_slot_sent : slotSent 1 = ⟨true, 1, false⟩ ∧ slotSent 3 = ⟨true, 3, true⟩ ∧
    SlotRx.received (slotSent 3) = some 3 := by decide +kernel
theorem test_bad_parity_is_absent : SlotRx.received ⟨true, 1, true⟩ = none := by decide +kernel
theorem test_loss_parks :
    (after .linkGoesDown { base .holding with link.lossCount := 20 }).trav.head = .returning :=
  by decide +kernel
theorem test_drive_turns_direction :
    (after .driveIntervalExpiry (base .outbound)).trav.dir = .out :=
  by decide +kernel
theorem test_overtravel :
    (after (.encoderStep true false) { base .parked with trav.position := 10000 }).trav.faultCause = .overtravel :=
  by decide +kernel
theorem test_position_wraps :
    (after (.encoderStep true false) { base .faulted with trav.position := 0x7FFFFFFF }).trav.position = 0x80000000 :=
  by decide +kernel
theorem test_dwell_departs :
    (after .dwellExpiry { base .turning with trav.dwellTimer := some 0, trav.turn := .back }).trav.head = .inbound :=
  by decide +kernel
theorem test_tick_expires :
    (match step { base .parked with link.sampleTimer := some 1 } with | .next t => t.pending | _ => []) =
      [.frameStart] :=
  by decide +kernel
theorem test_line_order :
    (match step { base .parked with pending := [.frameStart, .stall] } with | .next t => t.pending | _ => []) =
      [.stall] :=
  by decide +kernel

/-! ## States and operands that meet the hypotheses of the statements -/

theorem test_witness_IdleStepIsOneMicrosecond :
    State.reset.pending = [] ∧ State.reset.ex.life = .starting ∧ (base .parked).pending = [] ∧
      (base .parked).ex.life = .ready :=
  by decide +kernel
theorem test_witness_StepKeepsMemoryCanonical :
    State.reset.MemoryOk ∧ ∃ t, step State.reset = .next t :=
  ⟨reset_memory, _, rfl⟩
theorem test_witness_StepKeepsSound :
    (base .outbound).Sound ∧ ∃ t, step { base .outbound with pending := [.restart] } = .next t :=
  ⟨base_sound _, _, rfl⟩
theorem test_witness_StepKeepsPageOk : State.reset.PageOk ∧ ∃ t, step State.reset = .next t := ⟨reset_page, _, rfl⟩
theorem test_witness_ActivePageChangesWithGeneration :
    ∃ t, exec .apply (base .parked) = .next t ∧ Instr.apply ≠ .coldReset ∧ Instr.apply ≠ .starting :=
  ⟨_, rfl, by decide, by decide⟩
theorem test_witness_DirectionChangesOnlyAtRest :
    exec .driveIntervalExpiry (base .outbound) = .next (after .driveIntervalExpiry (base .outbound)) ∧
      (after .driveIntervalExpiry (base .outbound)).trav.dir ≠ (base .outbound).trav.dir :=
  ⟨rfl, by decide +kernel⟩
theorem test_witness_StagedPageFrame :
    (∀ wa v, Instr.apply ≠ .exchangeMemoryWrite wa v) ∧ Instr.apply ≠ .starting ∧ ∃ t,
      exec .apply (base .parked) = .next t :=
  ⟨(fun _ _ h => nomatch h), by decide, _, rfl⟩
theorem test_witness_RecordFramesAreHosts :
    State.reset.PageOk ∧ (∀ wa v, Instr.restart ≠ .exchangeMemoryWrite wa v) ∧ (∀ j v,
      Instr.restart ≠ .stateWordWrite j v) ∧
    readWord (put 0x10000 2 State.reset).mem (frameBase 0) ≠ freeCode :=
  ⟨reset_page, (fun _ _ h => nomatch h), (fun _ _ h => nomatch h), by decide +kernel⟩
theorem test_witness_HistoryFrame :
    ∃ t, exec (.gaugeCueFire 5) (cueing .outbound) = .next t ∧ (0 : Fin 32) ≠ (cueing .outbound).brk.newest :=
  ⟨_, rfl, by decide +kernel⟩
theorem test_witness_RegisterFrames : ∃ t, exec .restart (base .outbound) = .next t := ⟨_, rfl⟩
theorem test_witness_ColdResetAndStarting : State.reset.MemoryOk := reset_memory
theorem test_witness_StartUpCompletion :
    State.reset = { State.reset with
        pins := State.reset.pins, mem := State.reset.mem, pending := State.reset.pending
        tieIndex := State.reset.tieIndex } ∧
    State.reset.pins.resetActive = false ∧ State.reset.page.samplePeriod = 1000 ∧ State.reset.page.homeMargin = 100 :=
  ⟨rfl, rfl, by decide +kernel, by decide +kernel⟩
theorem test_witness_WarmReset :
    (base .outbound).Sound ∧ (base .outbound).ex.life = .ready ∧ (base .outbound).link.up = true ∧ linkDownS.Sound ∧
      linkDownS.link.up = false :=
  ⟨base_sound _, rfl, rfl, sound_of_check (by decide +kernel), rfl⟩
theorem test_witness_StartingDiscardsHostWrites : State.reset.ex.life = .starting := rfl
theorem test_witness_UnknownCodeRefused :
    (0 : Word) ≠ 1 ∧ (4 : Word) ≠ 3 ∧ (base .parked).ex.life = .ready ∧ State.reset.ex.life = .starting :=
  by decide +kernel
/-- NoticeRegisters, ExchangeMemoryWrite, RegisterReads: the first and last word of the staged page, the first and last state word, the first word of the active page. -/
theorem test_witness_HostWrites :
    (base .parked).ex.life = .ready ∧ 4 * (0 : BitVec 16).toNat < 0x4000 ∧ 4 * (0xFFF : BitVec 16).toNat < 0x4000 ∧
    (∃ k : Fin 8, 4 * (0x4000 : BitVec 16).toNat = 0x10000 + k.val * 0x6000) ∧ (∃ k : Fin 8,
      4 * (0xE800 : BitVec 16).toNat = 0x10000 + k.val * 0x6000) ∧
    ¬ (4 * (0x1000 : BitVec 16).toNat < 0x4000 ∨ ∃ k : Fin 8,
      4 * (0x1000 : BitVec 16).toNat = 0x10000 + k.val * 0x6000) :=
  by decide +kernel
theorem test_witness_BusWriteRoundTrip :
    (Instr.otherRegisterWrite 7 5).wf = true ∧ busWriteOf (.otherRegisterWrite 7 5) = some ⟨.register, 7, 5⟩ :=
  by decide +kernel
theorem test_witness_ApplyByGateState :
    (base .outbound).Sound ∧ ({ base .outbound with ex.applyPending := true } : State).Sound ∧
      (base .parked).bin.scan = none ∧ (base .parked).trav.head ≠ .standardizing ∧
    (base .outbound).bin.scan ≠ none ∧ (base .standardizing).trav.head = .standardizing :=
  ⟨base_sound _, sound_of_check (by decide +kernel), rfl, by decide, by decide +kernel, rfl⟩
theorem test_witness_RefusedApply :
    (put 0x020 1999 (base .parked)).Sound ∧
      ({ put 0x020 1999 (base .parked) with ex.applyPending := true } : State).Sound ∧
    validatePage (put 0x020 1999 (base .parked)).staged = some (.badPlan, 0x020) :=
  ⟨sound_of_check (by decide +kernel), sound_of_check (by decide +kernel), by decide +kernel⟩
theorem test_witness_AcceptedApply :
    (base .holding).ex.life = .ready ∧ (base .holding).bin.scan = none ∧ (base .holding).trav.head ≠ .standardizing ∧
      (base .holding).ex.applyPending = false ∧
    validatePage (base .holding).staged = none ∧
      ({ base .parked with ex.applyPending := true } : State).ex.applyPending = true :=
  by decide +kernel
/-- A head homed at -2,000 with the staged HOME_MARGIN changed to 50: outside the new bounds. -/
def outsideBounds : State :=
  put 0x024 50 { base .parked with trav := { (base .parked).trav with position := Word.ofSigned (-2000) } }
/-- An armed, disarmed monitor with the level active and LINE enabled on the staged page alone. -/
def lineStaged : State :=
  put 0x540 4 { base .parked with brk := { (base .parked).brk with armed := true, line := true } }
theorem test_witness_ApplyReactions :
    (put 0x058 1 (base .parked)).Sound ∧ outsideBounds.Sound ∧ lineStaged.Sound ∧ (put 0x4100 1 (base .parked)).Sound :=
  ⟨sound_of_check (by decide +kernel), sound_of_check (by decide +kernel), sound_of_check (by decide +kernel),
    sound_of_check (by decide +kernel)⟩
/-- The staged pages of these states pass the checks. -/
theorem test_witness_ApplyReactions_pages :
    validatePage (put 0x058 1 (base .parked)).staged = none ∧ validatePage outsideBounds.staged = none ∧
      validatePage lineStaged.staged = none ∧ validatePage (put 0x4100 1 (base .parked)).staged = none ∧
      validatePage (broken true).staged = none ∧ (broken true).page.cueLine = false ∧
      (broken false).brk.latch = false :=
  by decide +kernel
/-- ENCODER_SENSE unhomes (R70), the bounds fault (R66), LINE fires (R182), a channel leaves the set (R103). -/
theorem test_apply_reactions :
    (after .apply (put 0x058 1 (base .parked))).trav.head = .homing ∧
      (after .apply outsideBounds).trav.faultCause = .overtravel ∧ (after .apply lineStaged).brk.state = .broken ∧
      (after .apply (put 0x4100 1 (base .parked))).liveWord 0x0C0 = 0 :=
  by decide +kernel
theorem test_witness_ClampedFields :
    (0 : Nat) ≤ 4294967295 ∧ (4294967295 : Nat) < 2 ^ 32 ∧ (-2 ^ 31 : Int) ≤ -2147483648 ∧
      (2147483647 : Int) < 2 ^ 31 :=
  by decide +kernel
/-- Fields below and above their ranges, an unlisted code, a bit set, DRIFT_LIMIT by FORM (Table 1-4). -/
theorem test_clamped_fields :
    let p : Page := (put 0x03C 0 (put 0x070 101 (put 0x044 2 (put 0x540 0x1F (put 0x11C 1001 (put 0x15C 1001 (put 0x14C 1
      State.reset))))))).staged
    clampField p 0x03C (.unsignedRange 1 255) = 1 ∧ clampField p 0x070 (.unsignedRange 1 100) = 100 ∧
      clampField p 0x044 (.enumBelow 2) = 0 ∧ clampField p 0x540 (.bitSet 0xF) = 0xF ∧
      clampField p 0x11C (.driftLimit 0x10C) = 1000 ∧ clampField p 0x15C (.driftLimit 0x14C) = 1001 :=
  by decide +kernel
/-- The page with some staged words. -/
def staging (ws : List (Nat × Word)) : Page := (ws.foldl (fun s w => put w.1 w.2 s) State.reset).staged
/-- The plan check's clauses at their bounds, in its order. -/
theorem test_check_plan :
    [[(0x020, 1999)], [(0x020, 150001)], [(0x028, 0xFFFFFFFF)], [(0x02C, 500)], [(0x030, 1000)], [(0x034, 9000)],
      [(0x020, 9499)], [(0x020, 9500)]].map (fun ws => validatePage (staging ws)) =
      [some (.badPlan, 0x020), some (.badPlan, 0x020), some (.badPlan, 0x028), some (.badPlan, 0x02C),
        some (.badPlan, 0x030), some (.badPlan, 0x034), some (.badPlan, 0x020), none] := by
  decide +kernel
/-- The other checks' clauses at their bounds: one channel out of range, two channels of one slot, of one role. -/
theorem test_check_rest :
    [[(0x038, 15)], [(0x038, 513)], [(0x080, 249)], [(0x080, 251)], [(0x080, 10001)], [(0x100, 1), (0x104, 9)],
      [(0x100, 1), (0x104, 2), (0x140, 1)], [(0x100, 1), (0x108, 1), (0x140, 1), (0x148, 1)], [(0x100, 1), (0x110, 16)],
      [(0x540, 1)], [(0x044, 1)], [(0x044, 1), (0x100, 1), (0x108, 1)]].map (fun ws => validatePage (staging ws)) =
      [some (.badBins, 0x038), some (.badBins, 0x038), some (.badPeriod, 0x080), some (.badPeriod, 0x080),
        some (.badPeriod, 0x080), some (.badSlots, 0x104), some (.badSlots, 0x144), some (.badRoles, 0x148),
        some (.badTable, 0x110), some (.badCue, 0x540), some (.badEdge, 0x044), none] := by
  decide +kernel
theorem test_witness_ModeWrite :
    (put 0 3 (base .parked)).Sound ∧ (base .parked).arb.granted = (!(base .parked).arb.panelInhibit) ∧
      (put 0 3 (base .parked)).staged.modeReq = (put 0 3 (base .parked)).ex.reqMode.code ∧
    (put 0 3 (base .parked)).staged.modeStdNow = 0 ∧ (put 0 3 (base .parked)).staged.modeBreakAck = 0 ∧
      (put 0 3 (base .parked)).staged.modeFaultAck = 0 ∧
    decide ((put 0 3 (base .parked)).staged.modeArm ≠ 0) = (put 0 3 (base .parked)).brk.armed :=
  ⟨sound_of_check (by decide +kernel), by decide +kernel⟩
theorem test_witness_ModeReq :
    (base .parked).Sound ∧ (5 < (6 : Word).toNat ∧ (base .parked).page.enabledChannels = []) ∧
      (1 ≤ (3 : Word).toNat ∧ (5 : Word).toNat ≤ 5) ∧
    (put 0x4100 1 (base .parked)).Sound ∧ (put 0x4100 1 (base .parked)).page.enabledChannels ≠ [] :=
  ⟨base_sound _, by decide +kernel, by decide, sound_of_check (by decide +kernel), by decide +kernel⟩
/-- The states from which ModeReq says what the head does, channel 0 enabled: no demand, nothing due, no apply. -/
theorem test_witness_ModeReq_head : ∀ h ∈ [HeadState.parked, .standing, .outbound, .inbound, .holding],
    (put 0x4100 1 (base h)).Sound := by
  intro h hh
  simp only [List.mem_cons, List.not_mem_nil, or_false] at hh
  rcases hh with rfl | rfl | rfl | rfl | rfl <;> exact sound_of_check (by decide +kernel)
theorem test_witness_ModeReq_calm :
    [HeadState.parked, .standing, .outbound, .inbound, .holding].all (fun h =>
      let s := put 0x4100 1 (base h)
      decide (s.brk.state ≠ .broken) && s.link.up && !s.arb.panelPark && !s.arb.panelInhibit && !s.std.due &&
        !s.std.stdNow && !s.ex.applyPending && decide (s.page.enabledChannels ≠ []) && decide (s.trav.head = h) &&
        decide (s.arb.goal = (aim h).2)) = true := by
  decide +kernel
/-- A standardize with two channels, channel 0 with an accepted reference: what ends it early. -/
def standardizing : State :=
  inPhase .measureAir 10
    [{ stdChan 0 false with old := { value := 1000, check := 0, accepted := true } }, stdChan 3 false]
/-- ModeReq, LinkStateRows and FaultTaken: a standardize that HOME, the link or a DRIVE fault ends. -/
theorem test_witness_early_end :
    standardizing.Sound ∧ standardizing.arb.goal ≠ .home ∧
      (echoLate standardizing).Sound ∧ ({ standardizing with link.lossCount := 20 } : State).Sound ∧
      standardizing.page.linkLoss ≤ 20 ∧ standardizing.pins.drvFault = false ∧
      findFree standardizing.mem standardizing.ex.nextFrame = some 0 :=
  ⟨sound_of_check (by decide +kernel), by decide +kernel, sound_of_check (by decide +kernel),
    sound_of_check (by decide +kernel), by decide +kernel, rfl, by decide +kernel⟩
/-- R118, R119: outcome word and the two entries of the STDZ record by HOME, by the link, by a DRIVE fault. -/
theorem test_early_end_records :
    [Instr.modeReq 5 0, .linkGoesDown, .drvFaultActive].map (fun c =>
      let t := after c { standardizing with link.lossCount := 20 }
      [4, 16, 17, 18, 19, 20, 23].map (fun i => readWord t.mem (frameBase 0 + 4 * i))) =
      [[6, 1000, 0, 0, 6, 0, 6], [4, 1000, 0, 0, 2, 0, 2], [5, 1000, 0, 0, 6, 0, 6]] := by
  decide +kernel
theorem test_witness_StdNow :
    (base .parked).Sound ∧ (1 : Word) ≠ 0 ∧ (base .parked).brk.state ≠ .broken ∧ (base .parked).link.up = true ∧
      (base .parked).arb.panelPark = false ∧ (base .parked).ex.reqMode ≠ .stop ∧
    (base .parked).ex.reqMode ≠ .home ∧ (base .parked).trav.head = .parked ∧
      (base .parked).arb.granted = (!(base .parked).arb.panelInhibit) :=
  ⟨base_sound _, by decide +kernel⟩
theorem test_witness_FaultAck :
    (base .faulted).Sound ∧ (base .faulted).trav.head = .faulted ∧ (base .faulted).trav.drvFault = false ∧
      ({ base .faulted with trav.drvFault := true } : State).Sound ∧
    (base .parked).trav.head ≠ .faulted :=
  ⟨base_sound _, rfl, rfl, sound_of_check (by decide +kernel), by decide⟩
/-- BREAK_ACK in BROKEN: latched already, with the line condition clear, and with LINE active. -/
theorem test_witness_BreakAckAndArm_ack :
    (broken false).Sound ∧ (broken true).Sound ∧ (withLine (broken false)).Sound ∧
      (7 : Word) = (broken false).brk.number ∧ (8 : Word) ≠ (broken false).brk.number ∧
    ((withLine (broken false)).page.cueLine = true ∧ (withLine (broken false)).brk.line = true) ∧
      (broken false).brk.line = false ∧ (broken false).ex.applyPending = false :=
  ⟨sound_of_check (by decide +kernel), sound_of_check (by decide +kernel), sound_of_check (by decide +kernel),
      by decide +kernel⟩
/-- ARM: from WATCH, in BROKEN, with no cue enabled, to WATCH, and with LINE firing. -/
theorem test_witness_BreakAckAndArm_arm :
    (cueing .parked).Sound ∧ (base .parked).Sound ∧ (withLine (base .parked)).Sound ∧
      (put 0x4540 8 (base .parked)).Sound :=
  ⟨sound_of_check (by decide +kernel), base_sound _, sound_of_check (by decide +kernel),
    sound_of_check (by decide +kernel)⟩
theorem test_witness_BreakAckAndArm_flags :
    (cueing .parked).brk.armed = true ∧ (cueing .parked).brk.state = .watch ∧
      (broken false).brk.armed ≠ decide ((1 : Word) ≠ 0) ∧ (base .parked).brk.armed ≠ decide ((1 : Word) ≠ 0) ∧
      (base .parked).brk.state = .disarmed ∧ (base .parked).page.cueEnables = 0 ∧
      (withLine (base .parked)).brk.armed = false ∧ (withLine (base .parked)).page.cueLine = true ∧
      (withLine (base .parked)).brk.line = true ∧ (put 0x4540 8 (base .parked)).page.cueEnables ≠ 0 ∧
      (put 0x4540 8 (base .parked)).brk.armed = false :=
  by decide +kernel
theorem test_witness_FrameStart :
    (base .outbound).ex.life = .ready ∧ State.reset.ex.life = .starting :=
  by decide +kernel
/-- FrameReceivedCounts and FrameWritesLiveValidity. -/
theorem test_witness_FrameReceived :
    (flight .parked (put 0x4100 1 (base .parked))).Sound ∧
      (flight .parked (base .parked)).link.inFlight.isSome = true ∧ slotWord [sent goodStatus] 1 0 = some goodStatus ∧
    (base .parked).link.echoCount + 1 < 200 ∧ 1 ≤ (base .parked).page.linkLoss ∧
      (put 0x4100 1 (base .parked)).page.enabled 0 = true :=
  ⟨sound_of_check (by decide +kernel), by decide +kernel⟩
/-- An ABSENT status word: no slot, and the loss count of an UP link one short of LINK_LOSS. -/
theorem test_witness_FrameReceived_absent :
    (flight .outbound { base .outbound with link.lossCount := 19 }).Sound ∧ slotWord [] 1 0 = none ∧
      (base .outbound).page.linkLoss = 20 ∧ (flight .parked linkDownS).Sound :=
  ⟨sound_of_check (by decide +kernel), by decide +kernel, by decide +kernel, sound_of_check (by decide +kernel)⟩
/-- A new TEMP_ALARM raises the HEAD_TEMP entry with value 1 (R41). -/
theorem test_temp_alarm :
    (goodStatus ||| 0x80).getLsbD 7 ≠ (base .parked).link.lastTempAlarm ∧
      (after (.frameReceived [sent (goodStatus ||| 0x80)]) (flight .parked (base .parked))).alarms[headTempAlarm] =
        { active := true, timesRaised := 1, lastValue := 1 } :=
  by decide +kernel
/-- The reject causes of FrameWritesLiveValidity: received words with bits 20 and 21, and no word. -/
theorem test_witness_FrameReceived_words :
    slotWord [sent goodStatus, sent 0x100000, sent 0x200000] 3 1 = some 0x100000 ∧
      ((0x100000 : SlotWord).getLsbD 20 = true ∧ (0x200000 : SlotWord).getLsbD 20 = false ∧
        (0x200000 : SlotWord).getLsbD 21 = true) ∧
      (0xFFFFF : SlotWord).getLsbD 21 = false ∧ slotWord [sent goodStatus] 3 1 = none ∧ dryPage.page.slot 0 = 1 :=
  by decide +kernel
theorem test_witness_EchoAndValidity :
    (base .parked).link.echoPending = false ∧
      ({ base .parked with link.echoPending := true } : State).link.echoPending = true ∧
      (goodStatus.setWidth 4 : BitVec 4) = (base .parked).link.seq ∧
    ((goodStatus + 1).setWidth 4 : BitVec 4) ≠ (base .parked).link.seq :=
  by decide +kernel
theorem test_witness_LinkStateRows :
    (echoLate (base .outbound)).Sound ∧ (echoLate linkDownS).Sound ∧
    ({ base .outbound with link.lossCount := 20 } : State).Sound ∧ (base .outbound).page.linkLoss ≤ 20 ∧
      ({ linkDownS with link.goodRun := 8 } : State).Sound :=
  ⟨sound_of_check (by decide +kernel), sound_of_check (by decide +kernel), sound_of_check (by decide +kernel),
      by decide +kernel, sound_of_check (by decide +kernel)⟩
theorem test_witness_ThresholdRowsWait :
    (base .parked).Sound ∧ (base .parked).echoDue = false ∧ (base .parked).lossDue = false ∧
      (base .parked).upDue = false ∧ (base .parked).gaugeCues = 0 ∧ (base .parked).settleDue = false ∧
    (base .parked).measureDue = false ∧ (base .parked).stallDue = false ∧ (base .parked).resumeDue = false ∧
      (base .parked).link.inFlight = none :=
  ⟨base_sound _, by decide +kernel⟩
theorem test_witness_StandardizeStart :
    ({ base .parked with arb.goal := .standardize } : State).ex.life = .ready ∧
      ({ base .parked with arb.goal := .standardize } : State).arb.goal = .standardize ∧
    ({ base .parked with arb.goal := .standardize } : State).trav.head = .parked ∧
      ({ base .parked with arb.goal := .standardize } : State).link.up = true :=
  by decide +kernel
theorem test_witness_StandardizePhases :
    (inPhase .settleOpen 50 []).Sound ∧ (inPhase .settleRef 50 []).Sound ∧
      (inPhase .settleRef 50 []).page.stdSettle ≤ 50 ∧ (inPhase .measureAir 256 [stdChan 0 true]).Sound ∧
    (inPhase .measureAir 256 []).Sound ∧ (inPhase .measureRef 256 [stdChan 0 true]).Sound ∧
      (inPhase .measureRef 256 []).page.stdFrames ≤ 256 ∧
    (∀ c : Fin 8, (inPhase .measureRef 256 []).std.untried[c] = false) ∧
      findFree (inPhase .measureRef 256 []).mem 0 = some 0 :=
  ⟨sound_of_check (by decide +kernel), sound_of_check (by decide +kernel), by decide +kernel,
      sound_of_check (by decide +kernel), sound_of_check (by decide +kernel),
    sound_of_check (by decide +kernel), by decide +kernel, by decide +kernel, by decide +kernel⟩
/-- The channel set of a conclusion is without repeats, and its marks lie in it. -/
theorem test_witness_StandardizePhases_set : ([stdChan 0 true, stdChan 3 false].map StdChan.chan).Nodup := by decide
/-- An accepted and a NODATA channel at one conclusion (R116): reference and live word, entry and its value. -/
theorem test_std_acted :
    let good : StdChan := { stdChan 0 false with airSum := 256000, airCount := 256 }
    let t := after .measureEnd (inPhase .measureRef 256 [good, stdChan 1 false])
    t.std.refs[0] = { value := 1000, check := 0, accepted := true } ∧ t.liveWord 0x100 = 1000 ∧
      t.std.refs[1].accepted = false ∧ t.alarms[stdFaultAlarm 1].lastValue = 2 :=
  by decide +kernel
/-- A quiet frame latched STANDARDIZING: settling with the echo clear, and with the echo pending; measuring. -/
theorem test_witness_StandardizePhases_frame :
    (flight .standardizing (inPhase .settleOpen 48 [])).QuietFrame [sent goodStatus]
        (flown .standardizing (inPhase .settleOpen 48 [])) ∧
      (flight .standardizing (inPhase .measureRef 255 [stdChan 0 true])).QuietFrame [sent goodStatus]
        (flown .standardizing (inPhase .measureRef 255 [stdChan 0 true])) ∧
      ((inPhase .settleOpen 48 []).judgedFrame [] (flown .standardizing (inPhase .settleOpen 48 []))).link.echoPending =
        false ∧
      ((echoLate (inPhase .settleOpen 48 [])).judgedFrame []
        (flown .standardizing (inPhase .settleOpen 48 []))).link.echoPending = true :=
  ⟨quiet_of_check (by decide +kernel) (by decide +kernel), quiet_of_check (by decide +kernel) (by decide +kernel),
    by decide +kernel, by decide +kernel⟩
/-- The phase counts about their limits of 50 and 256, and a frame of either kind without a context. -/
theorem test_witness_StandardizePhases_counts :
    48 + 1 < max 1 (inPhase .settleOpen 48 []).page.stdSettle ∧ max 1 (inPhase .settleOpen 49 []).page.stdSettle ≤ 49 + 1 ∧
      254 + 1 < (inPhase .measureAir 254 []).page.stdFrames ∧ (inPhase .measureAir 255 []).page.stdFrames ≤ 255 + 1 ∧
      (base .parked).std.ctx = none ∧
      ((base .parked).moveCounts (flown .parked (base .parked)) []).gaugeCues = 0 :=
  by decide +kernel
/-- StandardizeResults: means of positive counts, halves up. -/
theorem test_witness_StandardizeResults :
    StdChan.candidate { stdChan 0 true with airSum := 5, airCount := 2 } = 3 ∧
      StdChan.checkMean { stdChan 0 true with checkSum := 4, checkCount := 3 } = 1 :=
  by decide +kernel
theorem test_witness_Conversion :
    (64 ≤ 64 ∧ (1048575 : Nat) ≤ 1048575) ∧ ((0 : Nat) ≤ 1048575) ∧ (65535 : Nat) ≤ 65535 :=
  by decide +kernel
theorem test_witness_DryWeight :
    dryPage.page.roleChannel roleBw = some 0 ∧ dryPage.page.roleChannel roleMoist = some 1 := by
  decide +kernel
/-- ScanProfile, the samples: positions at both edges, a bin one below full and a full one, counts below their bound. -/
theorem test_witness_ScanProfile_samples :
    ((1000 : Int) ≤ 1000 ∧ (1000 : Int) ≤ 8999 ∧ (8999 : Int) < 9000) ∧
      (ChanAcc.bins { chan := 0, bins := List.replicate 64 { } }).length = 64 ∧
    (∀ k ∈ [(0 : Nat), 4294967294], k < 4294967295) ∧ (65534 : Nat) < 65535 :=
  by decide +kernel
/-- ScanProfile, the close: one channel with a data bin, and one with none; a shown bin that is lowest and highest. -/
theorem test_witness_ScanProfile_close :
    let full : ChanAcc := { chan := 0, bins := List.replicate 16 { sum := 300, count := 3 } }
    let bare : ChanAcc := { chan := 1, bins := List.replicate 16 { } }
    scanOutcome ([full].map (chanProfile 1 16 State.reset.filters)) 16 50 = .complete ∧
      scanOutcome ([full, bare].map (chanProfile 1 16 State.reset.filters)) 16 50 = .thin ∧
      ([full, bare].map ChanAcc.chan).Nodup ∧
      (summaryBlock (chanProfile 1 16 State.reset.filters full) [⟨.void, 0⟩, ⟨.data, 100⟩, ⟨.held, 100⟩]).take 6 =
        [100, 100, 1, 100, 1, 0] :=
  by decide +kernel
/-- ScanProfile, the frame: a quiet frame that the scan takes, and one that started before the scan opened. -/
theorem test_witness_ScanProfile_frame :
    (flight .outbound (base .outbound)).QuietFrame [sent goodStatus] (flown .outbound (base .outbound)) ∧
      (base .outbound).bin.scan = some (scanCtx .outbound) ∧
      ((base .outbound).moveCounts (flown .outbound (base .outbound)) []).gaugeCues = 0 ∧
      (flown .outbound (base .outbound)).sinceScanOpen = true ∧
      ({ flown .outbound (base .outbound) with sinceScanOpen := false } : Frame).sinceScanOpen = false :=
  ⟨quiet_of_check (by decide +kernel) (by decide +kernel), by decide +kernel⟩
/-- BatchFull, the frame: HOLDING with a batch one frame short, and with none. -/
theorem test_witness_BatchFull_frame :
    (flight .holding (base .holding)).QuietFrame [] (flown .holding (base .holding)) ∧
      (flight .holding { base .holding with bin.batch := none }).QuietFrame [] (flown .holding (base .holding)) ∧
      (base .holding).page.fpFrames = 1000 ∧
      ((base .holding).moveCounts (flown .holding (base .holding)) []).gaugeCues = 0 :=
  ⟨quiet_of_check (by decide +kernel) (by decide +kernel), quiet_of_check (by decide +kernel) (by decide +kernel),
    by decide +kernel⟩
/-- A HOLDING frame without a batch starts one and is its first (R133). -/
theorem test_batch_starts :
    (after (.frameReceived []) (flight .holding { base .holding with bin.batch := none })).bin.batch.map Batch.frames =
      some 1 :=
  by decide +kernel
theorem test_witness_BatchFull :
    ({ base .holding with bin.batch := some { emptyBatch with frames := 1000 } } : State).Sound ∧
      (base .holding).page.fpFrames ≤ 1000 ∧ findFree (base .holding).mem (base .holding).ex.nextFrame = some 0 :=
  ⟨sound_of_check (by decide +kernel), by decide +kernel⟩
theorem test_witness_RecordStore :
    (List.replicate 6000 (0 : Word)).length ≤ 6000 ∧
      readWord State.reset.mem (frameBase (State.reset.ex.nextFrame + 0).val) = freeCode ∧ (∀ e : Fin 8, ¬ e < 0) ∧
    ∀ k : Fin 8, readWord ([0, 1, 2, 3, 4, 5, 6,
      7].foldl (fun m k => writeWord m (frameBase k) 2) []) (frameBase k.val) ≠ freeCode :=
  by decide +kernel
theorem test_witness_DriveInterval :
    (base .outbound).Sound ∧ (base .outbound).trav.head = .outbound ∧ (base .outbound).driveStep.stallDue = false ∧
    (base .outbound).driveStep.arrivalDue (base .outbound).targetDuty.2 = false :=
  ⟨base_sound _, by decide +kernel⟩
/-- The three distances of R51 about SLOW_ZONE and the stop point, HOMING before its switch, and a head at rest. -/
theorem test_drive_targets :
    ({ base .movingToHold with trav.dir := .out, trav.motionDir := .out, ex.holdPos := 3000 } : State).targetDuty =
        (600, false) ∧
      ({ base .returning with trav.dir := .inn, trav.motionDir := .inn, trav.position := 2000 } : State).targetDuty =
        (150, false) ∧
      ({ base .returning with trav.dir := .inn, trav.motionDir := .inn } : State).targetDuty = (0, true) ∧
      ({ base .homing with trav.dir := .inn } : State).targetDuty = (100, false) ∧
      ({ base .stopping with trav.duty := 50 } : State).targetDuty = (0, false) := by
  decide +kernel
theorem test_witness_Arrival :
    (still .out 0 { base .homing with trav.homed := true }).Sound ∧
      (still .out 0 { base .homing with trav.homed := true }).arrivalDue (still .out 0
      { base .homing with trav.homed := true }).targetDuty.2 = true ∧
    (still .inn 0 (base .returning)).arrivalDue (still .inn 0 (base .returning)).targetDuty.2 = true ∧
      (still .inn 0 (base .stopping)).arrivalDue (still .inn 0 (base .stopping)).targetDuty.2 = true ∧
    (still .out 500 (base .movingToHold)).arrivalDue (still .out 500 (base .movingToHold)).targetDuty.2 = true :=
  ⟨sound_of_check (by decide +kernel), by decide +kernel, by decide +kernel, by decide +kernel, by decide +kernel⟩
/-- A traverse at rest at its turn, with STD_INTERVAL and DWELL of the active page. -/
def turning (d : ScanDir) (interval dwell : Word) : State :=
  put 0x4088 interval (put 0x4078 dwell (match d with
    | .outbound => still .out 9500 (base .outbound)
    | .inbound => still .inn 500 (base .inbound)))
/-- The scan count reaches STD_INTERVAL of 1 at F_TURN and at B_TURN, and does not reach 2; DWELL 0. -/
theorem test_witness_Arrival_traverse :
    ∀ s ∈ [turning .inbound 1 500, turning .outbound 1 500, turning .inbound 2 0],
      s.Sound ∧ s.arrivalDue s.targetDuty.2 = true ∧ s.ex.reqMode = .scan ∧ s.page.edgeTrack = false := by
  intro s hs
  simp only [List.mem_cons, List.not_mem_nil, or_false] at hs
  rcases hs with rfl | rfl | rfl <;> exact ⟨sound_of_check (by decide +kernel), by decide +kernel⟩
/-- R59, R60, R108, R109. -/
theorem test_traverse_ends :
    [turning .inbound 1 500, turning .outbound 1 500, turning .inbound 2 0].map (fun s =>
      let t := after .arrival s
      (t.trav.head, t.std.scanCount, t.std.due, t.arb.goal)) =
      [(.returning, 1, true, .standardize), (.turning, 1, true, .standardize), (.outbound, 1, false, .scan)] := by
  decide +kernel
/-- EDGE enabled in WATCH under TRACK, both sides missed for the third time; `dwell` is DWELL. -/
def edgeLost (dwell : Word) : State :=
  let s := put 0x4540 8 (put 0x4044 1 (turning .outbound 0 dwell))
  { s with bin := { s.bin with missFront := 2, missBack := 2 }, brk := { s.brk with armed := true, state := .watch } }
theorem test_witness_Arrival_cue : ∀ dwell ∈ [(0 : Word), 500], (edgeLost dwell).Sound ∧
    (edgeLost dwell).arrivalDue (edgeLost dwell).targetDuty.2 = true ∧ (edgeLost dwell).page.edgeTrack = true ∧
    (edgeLost dwell).page.cueEdge = true ∧ ((edgeLost dwell).judgeEdges (scanCtx .outbound)).cue = true := by
  intro dwell h
  simp only [List.mem_cons, List.not_mem_nil, or_false] at h
  rcases h with rfl | rfl <;> exact ⟨sound_of_check (by decide +kernel), by decide +kernel⟩
/-- R174: the history entry's head state, cue, open work and record, with DWELL 0 and with a DWELL. -/
theorem test_edge_cue_declares :
    [(0 : Word), 500].map (fun dwell =>
      let t := after .arrival (edgeLost dwell)
      (t.trav.head, [16, 20, 24, 28].map (fun i => readWord t.mem (historyBase + i)))) =
      [(.returning, [6, 8, 1, 2]), (.returning, [7, 8, 0, 0])] := by
  decide +kernel
/-- R178: in BROKEN the EDGE cue is added to CUES_AFTER; an entry of LINE alone before. -/
theorem test_edge_cue_after :
    let s : State := put (historyBase + 32) 4 (put 0x4540 8 { broken false with brk.newest := 0 })
    s.brk.state = .broken ∧ s.page.cueEdge = true ∧ readWord s.edgeCue.mem (historyBase + 32) = 12 := by
  decide +kernel
theorem test_witness_FaultTaken :
    ({ base .outbound with trav.stallTime := 500 } : State).Sound ∧ (base .outbound).page.stallTimeMs ≤ 500 ∧
      (base .holding).pins.backLim = false ∧ (base .holding).pins.frontLim = false ∧
    (base .standardizing).pins.drvFault = false :=
  ⟨sound_of_check (by decide +kernel), by decide +kernel, rfl, rfl, rfl⟩
/-- FaultTaken and EncoderStep: one count beyond P_END, and one below the front bound with ENCODER_SENSE REVERSED. -/
theorem test_witness_overtravel :
    ({ base .parked with trav.position := 10000 } : State).Sound ∧ (base .parked).encoderCount true false = 1 ∧
      (base .parked).page.pEnd < ((10000 : Word) + BitVec.ofInt 32 1).toInt ∧
    (put 0x4058 1 { base .parked with trav.position := Word.ofSigned (-1100) }).Sound ∧
      (put 0x4058 1 (base .parked)).encoderCount true false = -1 ∧ (put 0x4058 1 (base .parked)).page.homeMargin = 100 ∧
      (Word.ofSigned (-1100) + BitVec.ofInt 32 (-1)).toInt < -100 - 1000 ∧
    (base .parked).encoderCount true true = 0 ∧ (base .parked).encoderCount false true = -1 :=
  ⟨sound_of_check (by decide +kernel), by decide +kernel, by decide +kernel, sound_of_check (by decide +kernel),
    by decide +kernel⟩
/-- R66 at the front bound: -1,100 stands, -1,101 faults. -/
theorem test_overtravel_front :
    [-1099, -1100].map (fun p =>
      (after (.encoderStep false true) { base .parked with trav.position := Word.ofSigned p }).trav.faultCause) =
      [.none, .overtravel] := by
  decide +kernel
theorem test_witness_FieldInputs :
    (base .homing).Sound ∧ (base .homing).trav.homed = false ∧ (base .homing).pins.frontLim = false ∧
      (base .standardizing).pins.backLim = false ∧ (base .faulted).pins.drvFault = false ∧
    State.reset.Sound ∧ State.reset.ex.life = .starting :=
  ⟨base_sound _, rfl, rfl, rfl, rfl, reset_sound, rfl⟩
theorem test_witness_DwellExpiry :
    ({ base .turning with trav.dwellTimer := some 0 } : State).Sound ∧
      ({ base .turning with trav.dwellTimer := some 0 } : State).trav.head = .turning ∧
      (base .parked).trav.head ≠ .turning :=
  ⟨sound_of_check (by decide +kernel), rfl, by decide⟩
theorem test_witness_EncoderStep :
    (base .parked).Sound ∧ (base .parked).overtravelled = false ∧ State.reset.Sound :=
  ⟨base_sound _, by decide +kernel, reset_sound⟩
theorem test_witness_DebouncedInputChange :
    (base .parked).Sound ∧ (base .parked).pins.panelPark ≠ true ∧ (base .parked).pins.panelInhibit ≠ true ∧
      (base .parked).pins.breakIn ≠ true ∧ State.reset.Sound :=
  ⟨base_sound _, by decide +kernel, by decide +kernel, by decide +kernel, reset_sound⟩
theorem test_witness_PanelDebounceExpiry :
    (panelDue (base .outbound)).Sound ∧
    (base .outbound).arb.granted = (!(base .outbound).arb.panelInhibit) ∧ ((base .outbound).arb.goal = .hold →
      (base .outbound).arb.holdPos = (base .outbound).ex.holdPos) :=
  ⟨sound_of_check (by decide +kernel), by decide +kernel⟩
/-- PARKED by the panel under a requested SCAN, the release at its end: the goal changes (Example 4-1, step 5). -/
def panelReleased : State :=
  { base .parked with ex := { (base .parked).ex with reqMode := .scan }
                      arb := { (base .parked).arb with panelPark := true, parkTimer := some 0 } }
theorem test_witness_PanelDebounceExpiry_release :
    panelReleased.Sound ∧ panelReleased.pins.panelPark = false ∧
      ({ panelReleased with arb := { panelReleased.arb with panelPark := false } } : State).claimedGoal ≠
        panelReleased.arb.goal ∧
      (after (.panelDebounceExpiry .park) panelReleased).noticeSet .panel = true :=
  ⟨sound_of_check (by decide +kernel), by decide +kernel⟩
theorem test_witness_AlarmEntries :
    (1 : Nat) ≤ 15 ∧ State.reset.alarms[(0 : Fin 48)].active = false ∧
      ({ State.reset with alarms := State.reset.alarms.set 0 { active := true } } : State).alarms[(0 : Fin
      48)].active = true :=
  by decide +kernel
theorem test_witness_AlarmRows :
    ({ base .parked with bin.missFront := 3 } : State).Sound ∧
      ({ base .parked with bin.missFront := 3 } : State).bin.miss .front = (base .parked).page.edgeMissLimit ∧
    (put 0x4300 1 (base .parked)).page.kindEnabled 0 0 = true ∧ (put 0x4300 1 (base .parked)).page.raiseScans 0 ≤ 1 ∧
      (put 0x4300 1 (base .parked)).page.clearScans 0 ≤ 1 ∧
    (put 0x4300 1 { base .parked with alarms := (base .parked).alarms.set 0 { violationStreak := 1 } }).Sound :=
  ⟨sound_of_check (by decide +kernel), by decide +kernel, by decide +kernel, by decide +kernel, by decide +kernel,
      sound_of_check (by decide +kernel)⟩
/-- The edge search: a rise at 995 is the front finding of an outbound scan, under TRACK with a BW sample. -/
theorem test_witness_AlarmRows_search :
    let p := (put 0x404C 1000 (put 0x4044 1 dryPage)).page
    let x : Sample := { chan := 0, validity := .usable, value := some 1000, raw := 0, stdValid := true }
    p.edgeTrack = true ∧ p.fTurn < 995 ∧ (995 : Int) < p.bTurn ∧
      ({ scanCtx .outbound with search := some { onSheet := false, position := 990 } } : ScanCtx).edgeSearch p 995 [x] =
        { scanCtx .outbound with search := some { onSheet := true, position := 995 }, frontFinding := some 995 } :=
  by decide +kernel
/-- The judgement: the front side found and the back side missed for the third time raises the back entry. -/
theorem test_witness_AlarmRows_judgement :
    let s : State := { base .outbound with bin.missBack := 2 }
    let j := s.judgeEdges { scanCtx .outbound with frontFinding := some 995 }
    s.page.edgeMissLimit = 3 ∧ j.cue = true ∧ j.kinds = 0x40 ∧ j.state.bin.miss .front = 0 ∧
      j.state.alarms[edgeLostAlarm .back].active = true :=
  by decide +kernel
theorem test_witness_GaugeCueDeclaresBreak :
    (cueing .outbound).Sound ∧ (cueing .outbound).gaugeCues ≠ 0 ∧ (cueing .holding).Sound :=
  ⟨sound_of_check (by decide +kernel), by decide +kernel, sound_of_check (by decide +kernel)⟩
/-- A frame judged for LOW at the front edge: a value below BREAK_FLOOR counts, one at it sets the count to 0. -/
theorem test_witness_GaugeCue_counts :
    let s := put 0x4544 100 (put 0x4108 1 (put 0x4100 1 (cueing .outbound)))
    let f : Frame := { s.newFrame 1 with position := 1000 }
    let x := fun v : Int => ({ chan := 0, validity := .usable, value := some v, raw := 0, stdValid := true } : Sample)
    s.bin.edgeFront ≤ f.position.toInt ∧ (s.moveCounts f [x 99]).brk.lowCount = 6 ∧
      (s.moveCounts f [x 100]).brk.lowCount = 0 :=
  by decide +kernel
theorem test_witness_LineDebounceExpiry :
    (base .parked).Sound ∧ (base .parked).brk.lineTimer = none ∧ (lineFires (base .outbound)).Sound ∧
    (put 0x4540 4 { broken false with brk.lineTimer := some 0, pins.breakIn := true }).Sound ∧
      ({ withLine (broken true) with brk.lineTimer := some 0 } : State).Sound :=
  ⟨base_sound _, rfl, sound_of_check (by decide +kernel), sound_of_check (by decide +kernel),
      sound_of_check (by decide +kernel)⟩
theorem test_witness_BreakResume :
    (broken true).Sound ∧ (broken true).brk.state = .broken ∧ (broken true).brk.latch = true ∧
      (broken true).brk.line = false ∧ (broken true).ex.applyPending = false :=
  ⟨sound_of_check (by decide +kernel), rfl, rfl, rfl, rfl⟩
theorem test_witness_GoalByClaims :
    (base .parked).arb.granted = (!(base .parked).arb.panelInhibit) ∧ (∃ t, step (base .parked) = .next t) ∧
    (base .outbound).ex.life = .ready ∧ (base .outbound).ex.reqMode = .scan ∧ (base .outbound).link.up = true ∧
      (broken false).brk.state = .broken :=
  ⟨by decide +kernel, ⟨_, rfl⟩, by decide +kernel⟩

end Sys2Proof.Tests
end

section
/-!
PROOFS. What a run of the shared operations may change, as one relation: `Evolves own s t`. The registers that only some
commands own are listed in `Reg`; `own` says which of them may move between s and t. The relation composes
(`Evolves.trans`), each shared operation is shown to stay in it once, and the statements over all commands are read off it.
-/

namespace Sys2Proof.Proofs

open Sys2Proof.Machine Sys2Proof.Laws

/-- What only some commands may change: the registers of `Obligations.RegisterFrames`, the staged page, the record store,
the live words of the gate, the running batch, the break history. -/
inductive Reg where
  | pins | life | cause | mask | gate | frameCounter | request | requestWords | armed | line | panel | position | notices
  | modeResult | staged | store | batch | refs | edges | filters | history
  deriving DecidableEq

/-- The part of `State.PageOk` that is not the page: the duties of the drive and the sizes of the open work. -/
structure WorkFits (s : State) : Prop where
  duty : s.trav.duty ≤ 1000
  pwm : s.trav.pwmDuty ≤ 1000
  scanFits : ∀ ctx, s.bin.scan = some ctx → ctx.chans.length ≤ 9 ∧ ∀ a ∈ ctx.chans, a.bins.length ≤ 512
  batchFits : ∀ b, s.bin.batch = some b → b.chans.length ≤ 9
  stdFits : ∀ ctx, s.std.ctx = some ctx → ctx.chans.length ≤ 8

/-- The part of `State.PageOk` that is the page. -/
structure PageFine (p : Page) : Prop where
  plan : checkPlan p = none
  bins : checkBins p = none
  cruise : p.cruiseDuty ≤ 1000
  creep : p.creepDuty ≤ 1000
  ret : p.returnDuty ≤ 1000
  home : p.homeDuty ≤ 1000
  min : p.minDuty ≤ 1000

/-- What holds between s and t whether or not an apply was taken. -/
structure Stays (own : Set Reg) (s t : State) : Prop where
  pending : t.pending = s.pending
  tieIndex : t.tieIndex = s.tieIndex
  time : t.link.timeCounter = s.link.timeCounter
  pins : .pins ∉ own → t.pins = s.pins
  life : .life ∉ own → t.ex.life = s.ex.life
  cause : .cause ∉ own → t.ex.cause = s.ex.cause
  mask : .mask ∉ own → t.ex.mask = s.ex.mask
  frameCounter : .frameCounter ∉ own → t.link.frameCounter = s.link.frameCounter
  request : .request ∉ own → t.ex.reqMode = s.ex.reqMode ∧ t.ex.holdPos = s.ex.holdPos
  requestWords : .requestWords ∉ own → SameBytes t.mem s.mem 0x08014 0x0801C
  armed : .armed ∉ own → t.brk.armed = s.brk.armed
  line : .line ∉ own → t.brk.line = s.brk.line
  panel : .panel ∉ own → t.arb.panelPark = s.arb.panelPark ∧ t.arb.panelInhibit = s.arb.panelInhibit
  position : .position ∉ own → (s.trav.frontLim = true → t.trav.frontLim = true) ∧
    (t.trav.position = s.trav.position ∨ t.trav.frontLim = true)
  notices : .notices ∉ own → ∀ i, s.ex.notice.getLsbD i = true → t.ex.notice.getLsbD i = true
  faultCause : .notices ∉ own → t.trav.faultCause = s.trav.faultCause ∨ t.noticeSet .headFault = true
  modeResult : .modeResult ∉ own → SameBytes t.mem s.mem 0x08010 0x08014
  memory : s.MemoryOk → t.MemoryOk
  staged : .staged ∉ own → SameBytes t.mem s.mem stagedBase activeBase
  spare : SameBytes t.mem s.mem 0x09800 storeBase
  batch : .batch ∉ own → s.bin.batch = none → t.bin.batch = none
  page : s.PageOk → t.PageOk
  store : s.PageOk → .store ∉ own → ∀ k : Fin 8, readWord s.mem (frameBase k.val) ≠ freeCode →
    SameBytes t.mem s.mem (frameBase k.val) (frameBase k.val + frameSize)

/-- The gate is as it was: no apply was taken, so neither the gate's registers and live words nor, but for its owners, the
break history moved. -/
structure GateStill (own : Set Reg) (s t : State) : Prop where
  pending : t.ex.applyPending = s.ex.applyPending
  result : .gate ∉ own → t.ex.gateResult = s.ex.gateResult
  results : .gate ∉ own → SameBytes t.mem s.mem 0x08004 0x08010
  flags : .gate ∉ own → SameBytes t.mem s.mem 0x0801C 0x08028
  history : .history ∉ own → SameBytes t.mem s.mem historyBase 0x09800

/-- No apply was accepted: the generation and the active page stand, and what only an accepted apply or its owners may
change. -/
structure PageHeld (own : Set Reg) (s t : State) : Prop where
  generation : t.ex.generation = s.ex.generation
  active : SameBytes t.mem s.mem activeBase liveBase
  refs : .refs ∉ own → t.std.refs = s.std.refs
  edges : .edges ∉ own → t.bin.edgeFront = s.bin.edgeFront ∧ t.bin.edgeBack = s.bin.edgeBack
  filters : .filters ∉ own → t.filters = s.filters

/-- What the operations of one event may do to the state, with at most one apply among them (R6, R8). -/
structure Evolves (own : Set Reg) (s t : State) : Prop where
  frame : Stays own s t
  gate : GateStill own s t ∨ (s.ex.applyPending = true ∧ t.ex.applyPending = false)
  page : PageHeld own s t ∨
    (s.ex.applyPending = true ∧ t.ex.applyPending = false ∧ t.ex.generation = s.ex.generation + 1)

variable {own : Set Reg} {s t u : State}

/-! ## The page of two memories that agree on it -/

theorem page_of_sameBytes (h : SameBytes t.mem s.mem activeBase liveBase) {off : Nat} (ho : off + 4 ≤ 0x4000) :
    t.page off = s.page off :=
  readWord_of_sameBytes h (Nat.le_add_right _ _) (by simp only [activeBase, liveBase]; omega)

theorem PageFine.congr {p q : Page} (h : PageFine p) (e : ∀ off, off + 4 ≤ 0x4000 → q off = p off) : PageFine q where
  plan := by
    rw [← h.plan]
    unfold checkPlan Page.pEnd Page.fTurn Page.eFront Page.eBack Page.bTurn
    rw [e 0x020 (by decide), e 0x028 (by decide), e 0x02C (by decide), e 0x030 (by decide), e 0x034 (by decide)]
  bins := by
    rw [← h.bins]
    unfold checkBins Page.nBins Page.eFront Page.eBack
    rw [e 0x038 (by decide), e 0x02C (by decide), e 0x030 (by decide)]
  cruise := by rw [Page.cruiseDuty, e 0x05C (by decide)]; exact h.cruise
  creep := by rw [Page.creepDuty, e 0x060 (by decide)]; exact h.creep
  ret := by rw [Page.returnDuty, e 0x064 (by decide)]; exact h.ret
  home := by rw [Page.homeDuty, e 0x068 (by decide)]; exact h.home
  min := by rw [Page.minDuty, e 0x06C (by decide)]; exact h.min

theorem pageOk_iff (s : State) : s.PageOk ↔ PageFine s.page ∧ WorkFits s :=
  ⟨fun h => ⟨⟨h.plan, h.bins, h.cruise, h.creep, h.ret, h.home, h.min⟩,
      ⟨h.duty, h.pwm, h.scanFits, h.batchFits, h.stdFits⟩⟩,
    fun ⟨p, w⟩ => ⟨p.plan, p.bins, p.cruise, p.creep, p.ret, p.home, p.min, w.duty, w.pwm, w.scanFits, w.batchFits,
      w.stdFits⟩⟩

/-- A valid page stays so while its bytes stand and the work still fits. -/
theorem pageOk_of_sameBytes (h : s.PageOk) (e : SameBytes t.mem s.mem activeBase liveBase) (w : WorkFits t) : t.PageOk :=
  (pageOk_iff t).2 ⟨((pageOk_iff s).1 h).1.congr fun _ ho => page_of_sameBytes e ho, w⟩

/-! ## The relation composes -/

theorem Stays.refl (own : Set Reg) (s : State) : Stays own s s where
  pending := rfl
  tieIndex := rfl
  time := rfl
  pins _ := rfl
  life _ := rfl
  cause _ := rfl
  mask _ := rfl
  frameCounter _ := rfl
  request _ := ⟨rfl, rfl⟩
  requestWords _ := sameBytes_refl _ _ _
  armed _ := rfl
  line _ := rfl
  panel _ := ⟨rfl, rfl⟩
  position _ := ⟨id, .inl rfl⟩
  notices _ _ := id
  faultCause _ := .inl rfl
  modeResult _ := sameBytes_refl _ _ _
  memory := id
  staged _ := sameBytes_refl _ _ _
  spare := sameBytes_refl _ _ _
  batch _ := id
  page := id
  store _ _ _ _ := sameBytes_refl _ _ _

theorem Stays.trans (h1 : Stays own s t) (h2 : Stays own t u) : Stays own s u where
  pending := h2.pending.trans h1.pending
  tieIndex := h2.tieIndex.trans h1.tieIndex
  time := h2.time.trans h1.time
  pins o := (h2.pins o).trans (h1.pins o)
  life o := (h2.life o).trans (h1.life o)
  cause o := (h2.cause o).trans (h1.cause o)
  mask o := (h2.mask o).trans (h1.mask o)
  frameCounter o := (h2.frameCounter o).trans (h1.frameCounter o)
  request o := ⟨(h2.request o).1.trans (h1.request o).1, (h2.request o).2.trans (h1.request o).2⟩
  requestWords o := sameBytes_trans (h2.requestWords o) (h1.requestWords o)
  armed o := (h2.armed o).trans (h1.armed o)
  line o := (h2.line o).trans (h1.line o)
  panel o := ⟨(h2.panel o).1.trans (h1.panel o).1, (h2.panel o).2.trans (h1.panel o).2⟩
  position o :=
    have ⟨lim1, pos1⟩ := h1.position o
    have ⟨lim2, pos2⟩ := h2.position o
    ⟨fun h => lim2 (lim1 h), pos2.elim (fun e2 => pos1.elim (fun e1 => .inl (e2.trans e1)) fun l => .inr (lim2 l)) .inr⟩
  notices o i h := h2.notices o i (h1.notices o i h)
  faultCause o := (h2.faultCause o).elim
    (fun e2 => (h1.faultCause o).elim (fun e1 => .inl (e2.trans e1)) fun n => .inr (h2.notices o _ n)) .inr
  modeResult o := sameBytes_trans (h2.modeResult o) (h1.modeResult o)
  memory h := h2.memory (h1.memory h)
  staged o := sameBytes_trans (h2.staged o) (h1.staged o)
  spare := sameBytes_trans h2.spare h1.spare
  batch o h := h2.batch o (h1.batch o h)
  page h := h2.page (h1.page h)
  store ok o k busy := by
    have same1 := h1.store ok o k busy
    have word : readWord t.mem (frameBase k.val) = readWord s.mem (frameBase k.val) :=
      readWord_of_sameBytes same1 (Nat.le_refl _) (by simp only [frameSize]; omega)
    exact sameBytes_trans (h2.store (h1.page ok) o k (by rwa [word])) same1

theorem GateStill.refl (own : Set Reg) (s : State) : GateStill own s s :=
  ⟨rfl, fun _ => rfl, fun _ => sameBytes_refl _ _ _, fun _ => sameBytes_refl _ _ _, fun _ => sameBytes_refl _ _ _⟩

theorem GateStill.trans (h1 : GateStill own s t) (h2 : GateStill own t u) : GateStill own s u :=
  ⟨h2.pending.trans h1.pending, fun o => (h2.result o).trans (h1.result o),
    fun o => sameBytes_trans (h2.results o) (h1.results o), fun o => sameBytes_trans (h2.flags o) (h1.flags o),
    fun o => sameBytes_trans (h2.history o) (h1.history o)⟩

theorem PageHeld.refl (own : Set Reg) (s : State) : PageHeld own s s :=
  ⟨rfl, sameBytes_refl _ _ _, fun _ => rfl, fun _ => ⟨rfl, rfl⟩, fun _ => rfl⟩

theorem PageHeld.trans (h1 : PageHeld own s t) (h2 : PageHeld own t u) : PageHeld own s u where
  generation := h2.generation.trans h1.generation
  active := sameBytes_trans h2.active h1.active
  refs o := (h2.refs o).trans (h1.refs o)
  edges o := ⟨(h2.edges o).1.trans (h1.edges o).1, (h2.edges o).2.trans (h1.edges o).2⟩
  filters o := (h2.filters o).trans (h1.filters o)

theorem Evolves.refl (own : Set Reg) (s : State) : Evolves own s s :=
  ⟨.refl own s, .inl (.refl own s), .inl (.refl own s)⟩

/-- With no apply pending none is taken: the gate stands. -/
theorem Evolves.gateStill (h : Evolves own s t) (idle : s.ex.applyPending = false) : GateStill own s t := by
  rcases h.gate with g | ⟨p, _⟩
  · exact g
  · rw [idle] at p; cases p

/-- With no apply pending none is taken: the page stands. -/
theorem Evolves.pageHeld (h : Evolves own s t) (idle : s.ex.applyPending = false) : PageHeld own s t := by
  rcases h.page with g | ⟨p, _, _⟩
  · exact g
  · rw [idle] at p; cases p

/-- An apply that is not pending does not become so. -/
theorem Evolves.idle (h : Evolves own s t) (idle : s.ex.applyPending = false) : t.ex.applyPending = false :=
  (h.gateStill idle).pending.trans idle

theorem Evolves.trans (h1 : Evolves own s t) (h2 : Evolves own t u) : Evolves own s u where
  frame := h1.frame.trans h2.frame
  gate := by
    rcases h1.gate with g1 | ⟨p, q⟩
    · rcases h2.gate with g2 | ⟨p, q⟩
      · exact .inl (g1.trans g2)
      · exact .inr ⟨g1.pending ▸ p, q⟩
    · exact .inr ⟨p, h2.idle q⟩
  page := by
    rcases h1.page with g1 | ⟨p, q, g⟩
    · rcases h2.page with g2 | ⟨p, q, g⟩
      · exact .inl (g1.trans g2)
      · refine .inr ⟨?_, q, g.trans (by rw [g1.generation])⟩
        rcases h1.gate with k | ⟨p', _⟩
        · exact k.pending ▸ p
        · exact p'
    · exact .inr ⟨p, h2.idle q, (h2.pageHeld q).generation.trans g⟩

/-! ## More owners -/

/-- The same change seen with more owners. -/
theorem Evolves.mono {own' : Set Reg} (h : Evolves own s t) (sub : own ⊆ own') : Evolves own' s t where
  frame :=
    { h.frame with
      pins := fun o => h.frame.pins (mt (@sub _) o), life := fun o => h.frame.life (mt (@sub _) o)
      cause := fun o => h.frame.cause (mt (@sub _) o), mask := fun o => h.frame.mask (mt (@sub _) o)
      frameCounter := fun o => h.frame.frameCounter (mt (@sub _) o)
      request := fun o => h.frame.request (mt (@sub _) o)
      requestWords := fun o => h.frame.requestWords (mt (@sub _) o), armed := fun o => h.frame.armed (mt (@sub _) o)
      line := fun o => h.frame.line (mt (@sub _) o), panel := fun o => h.frame.panel (mt (@sub _) o)
      position := fun o => h.frame.position (mt (@sub _) o), notices := fun o => h.frame.notices (mt (@sub _) o)
      faultCause := fun o => h.frame.faultCause (mt (@sub _) o)
      modeResult := fun o => h.frame.modeResult (mt (@sub _) o), staged := fun o => h.frame.staged (mt (@sub _) o)
      batch := fun o => h.frame.batch (mt (@sub _) o), store := fun ok o => h.frame.store ok (mt (@sub _) o) }
  gate := h.gate.imp_left fun g =>
    { g with
      result := fun o => g.result (mt (@sub _) o), results := fun o => g.results (mt (@sub _) o)
      flags := fun o => g.flags (mt (@sub _) o), history := fun o => g.history (mt (@sub _) o) }
  page := h.page.imp_left fun g =>
    { g with
      refs := fun o => g.refs (mt (@sub _) o), edges := fun o => g.edges (mt (@sub _) o)
      filters := fun o => g.filters (mt (@sub _) o) }

/-- From a state whose page is not valid nothing is said of the record store. -/
theorem Evolves.of_not_pageOk (h : Evolves (insert .store own) s t) (no : ¬ s.PageOk) : Evolves own s t := by
  have not_mem : ∀ {r : Reg}, r ≠ .store → r ∉ own → r ∉ insert Reg.store own := fun ne o =>
    (Set.mem_insert_iff.not).2 (not_or.2 ⟨ne, o⟩)
  exact
    { frame :=
        { h.frame with
          pins := fun o => h.frame.pins (not_mem nofun o), life := fun o => h.frame.life (not_mem nofun o)
          cause := fun o => h.frame.cause (not_mem nofun o), mask := fun o => h.frame.mask (not_mem nofun o)
          frameCounter := fun o => h.frame.frameCounter (not_mem nofun o)
          request := fun o => h.frame.request (not_mem nofun o)
          requestWords := fun o => h.frame.requestWords (not_mem nofun o), armed := fun o => h.frame.armed (not_mem nofun o)
          line := fun o => h.frame.line (not_mem nofun o), panel := fun o => h.frame.panel (not_mem nofun o)
          position := fun o => h.frame.position (not_mem nofun o)
          notices := fun o => h.frame.notices (not_mem nofun o)
          faultCause := fun o => h.frame.faultCause (not_mem nofun o)
          modeResult := fun o => h.frame.modeResult (not_mem nofun o)
          staged := fun o => h.frame.staged (not_mem nofun o), batch := fun o => h.frame.batch (not_mem nofun o)
          store := fun ok => absurd ok no }
      gate := h.gate.imp_left fun g =>
        { g with
          result := fun o => g.result (not_mem nofun o), results := fun o => g.results (not_mem nofun o)
          flags := fun o => g.flags (not_mem nofun o), history := fun o => g.history (not_mem nofun o) }
      page := h.page.imp_left fun g =>
        { g with
          refs := fun o => g.refs (not_mem nofun o), edges := fun o => g.edges (not_mem nofun o)
          filters := fun o => g.filters (not_mem nofun o) } }

/-! ## Updates of registers -/

/-- An update that writes neither memory nor the exchange controller, and of the registers that `Evolves` speaks of only
those that `own` allows. The defaults are for an update that does not touch a register at all. -/
structure Calm (own : Set Reg) (s t : State) : Prop where
  mem : t.mem = s.mem := by rfl
  ex : t.ex = s.ex := by rfl
  pins : t.pins = s.pins := by rfl
  pending : t.pending = s.pending := by rfl
  tieIndex : t.tieIndex = s.tieIndex := by rfl
  time : t.link.timeCounter = s.link.timeCounter := by rfl
  frameCounter : t.link.frameCounter = s.link.frameCounter := by rfl
  armed : .armed ∉ own → t.brk.armed = s.brk.armed := by exact fun _ => rfl
  line : .line ∉ own → t.brk.line = s.brk.line := by exact fun _ => rfl
  panel : .panel ∉ own → t.arb.panelPark = s.arb.panelPark ∧ t.arb.panelInhibit = s.arb.panelInhibit := by
    exact fun _ => ⟨rfl, rfl⟩
  position : .position ∉ own → (s.trav.frontLim = true → t.trav.frontLim = true) ∧
    (t.trav.position = s.trav.position ∨ t.trav.frontLim = true) := by exact fun _ => ⟨id, .inl rfl⟩
  faultCause : t.trav.faultCause = s.trav.faultCause := by rfl
  batch : .batch ∉ own → s.bin.batch = none → t.bin.batch = none := by exact fun _ => id
  refs : .refs ∉ own → t.std.refs = s.std.refs := by exact fun _ => rfl
  edges : .edges ∉ own → t.bin.edgeFront = s.bin.edgeFront ∧ t.bin.edgeBack = s.bin.edgeBack := by
    exact fun _ => ⟨rfl, rfl⟩
  filters : .filters ∉ own → t.filters = s.filters := by exact fun _ => rfl
  work : s.PageOk → WorkFits t := by exact fun h => ⟨h.duty, h.pwm, h.scanFits, h.batchFits, h.stdFits⟩

theorem Calm.evolves (h : Calm own s t) : Evolves own s t where
  frame :=
    { pending := h.pending, tieIndex := h.tieIndex, time := h.time, pins := fun _ => h.pins
      life := fun _ => by rw [h.ex], cause := fun _ => by rw [h.ex], mask := fun _ => by rw [h.ex]
      frameCounter := fun _ => h.frameCounter
      request := fun _ => by rw [h.ex]; exact ⟨rfl, rfl⟩
      requestWords := fun _ => by rw [h.mem]; exact sameBytes_refl _ _ _
      armed := h.armed, line := h.line, panel := h.panel, position := h.position
      notices := fun _ i hi => by rw [h.ex]; exact hi
      faultCause := fun _ => .inl h.faultCause
      modeResult := fun _ => by rw [h.mem]; exact sameBytes_refl _ _ _
      memory := fun ok => by rw [State.MemoryOk, h.mem]; exact ok
      staged := fun _ => by rw [h.mem]; exact sameBytes_refl _ _ _
      spare := by rw [h.mem]; exact sameBytes_refl _ _ _
      batch := h.batch
      page := fun ok => pageOk_of_sameBytes ok (by rw [h.mem]; exact sameBytes_refl _ _ _) (h.work ok)
      store := fun _ _ _ _ => by rw [h.mem]; exact sameBytes_refl _ _ _ }
  gate := .inl
    { pending := by rw [h.ex], result := fun _ => by rw [h.ex]
      results := fun _ => by rw [h.mem]; exact sameBytes_refl _ _ _
      flags := fun _ => by rw [h.mem]; exact sameBytes_refl _ _ _, history := fun _ => by rw [h.mem]; exact sameBytes_refl _ _ _ }
  page := .inl
    { generation := by rw [h.ex], active := by rw [h.mem]; exact sameBytes_refl _ _ _, refs := h.refs
      edges := h.edges, filters := h.filters }

/-! ## Writes of memory -/

theorem writeWords_evolves (a : Nat) (ws : List Word) (lo : 0x08028 ≤ a)
    (hi : a + 4 * ws.length ≤ historyBase ∨ (.history ∈ own ∧ a + 4 * ws.length ≤ 0x09800)) :
    Evolves own s { s with mem := writeWords s.mem a ws } := by
  have below : a + 4 * ws.length ≤ 0x09800 := by
    rcases hi with h | ⟨_, h⟩
    · simp only [historyBase] at h; omega
    · exact h
  have same : ∀ {l h : Nat}, h ≤ 0x08028 ∨ 0x09800 ≤ l → SameBytes (writeWords s.mem a ws) s.mem l h :=
    fun b => sameBytes_writeWords ws s.mem a (by omega)
  refine ⟨{ Stays.refl own s with
      requestWords := fun _ => same (by decide), modeResult := fun _ => same (by decide)
      memory := fun ok => writeWords_wf ws ok a, staged := fun _ => same (by decide), spare := same (by decide)
      page := fun ok => pageOk_of_sameBytes ok (same (by decide)) ⟨ok.duty, ok.pwm, ok.scanFits, ok.batchFits, ok.stdFits⟩
      store := fun _ _ _ _ => same (.inr (by simp only [frameBase, storeBase]; omega)) },
    .inl ⟨rfl, fun _ => rfl, fun _ => same (by decide), fun _ => same (by decide), fun o => ?_⟩,
    .inl ⟨rfl, same (by decide), fun _ => rfl, fun _ => ⟨rfl, rfl⟩, fun _ => rfl⟩⟩
  rcases hi with h | ⟨h, _⟩
  · exact sameBytes_writeWords ws s.mem a (.inr h)
  · exact absurd h o

theorem writeWord_evolves (a : Nat) (w : Word) (lo : 0x08028 ≤ a)
    (hi : a + 4 ≤ historyBase ∨ (.history ∈ own ∧ a + 4 ≤ 0x09800)) :
    Evolves own s { s with mem := writeWord s.mem a w } := writeWords_evolves a [w] lo hi

theorem live_evolves (off : Nat) (w : Word) (lo : 0x028 ≤ off := by decide) (hi : off + 4 ≤ 0x1000 := by decide) :
    Evolves own s (s.live off w) :=
  writeWord_evolves _ w (by simp only [liveBase]; omega) (.inl (by simp only [liveBase, historyBase]; omega))

theorem liveWords_evolves (off : Nat) (ws : List Word) (lo : 0x028 ≤ off := by decide)
    (hi : off + 4 * ws.length ≤ 0x1000 := by exact Nat.le_of_ble_eq_true rfl) : Evolves own s (s.liveWords off ws) :=
  writeWords_evolves _ ws (by simp only [liveBase]; omega) (.inl (by simp only [liveBase, historyBase]; omega))

theorem setNotice_evolves (n : Notice) : Evolves own s (s.setNotice n) :=
  ⟨{ Stays.refl own s with
      notices := fun _ i h => by rw [State.setNotice_notice, BitVec.getLsbD_or, h, Bool.true_or]
      faultCause := fun _ => .inl rfl
      page := fun ok => pageOk_of_sameBytes ok (sameBytes_refl _ _ _)
        ⟨ok.duty, ok.pwm, ok.scanFits, ok.batchFits, ok.stdFits⟩ },
    .inl { GateStill.refl own s with }, .inl { PageHeld.refl own s with }⟩

end Sys2Proof.Proofs
end

section
/-!
PROOFS. Each shared operation stays in `Evolves`: live words and alarms, records, the conversion, the limit monitor, the
profile unit, the binning unit.
-/

namespace Sys2Proof.Proofs

open Sys2Proof.Machine Sys2Proof.Laws

variable {own : Set Reg} {s t u : State}

/-! ## Alarms -/

theorem setAlarm_evolves (i : Fin 48) (e : AlarmEntry) : Evolves own s (s.setAlarm i e) := by
  unfold State.setAlarm
  split
  · exact .refl _ _
  · have calm : Calm own s { s with alarms := s.alarms.set i.val e i.isLt } := { }
    refine calm.evolves.trans (liveWords_evolves _ _ (by omega) ?_)
    simp only [AlarmEntry.words, List.length_cons, List.length_nil]
    omega

theorem raiseAlarm_evolves (i : Fin 48) (v : Option Int) : Evolves own s (s.raiseAlarm i v).2 := by
  unfold State.raiseAlarm
  dsimp only
  split
  · exact setAlarm_evolves i _
  · exact (setAlarm_evolves i _).trans (setNotice_evolves .alarm)

theorem clearAlarm_evolves (i : Fin 48) (v : Option Int) : Evolves own s (s.clearAlarm i v) := by
  unfold State.clearAlarm
  dsimp only
  split
  · exact (setAlarm_evolves i _).trans (setNotice_evolves .alarm)
  · exact setAlarm_evolves i _

/-! ## Records -/

theorem length_recHeader_words (h : RecHeader) (number skipped generation : Word) (n : Nat) :
    (h.words number skipped generation n).length = 15 := rfl

/-- The state in which a record stands in frame k, READY (R22). -/
def stored (k : Fin 8) (ws : List Word) (s : State) : State :=
  { s with
    mem := writeWord (writeWords s.mem (frameBase k.val + 4) ws) (frameBase k.val) readyCode
    ex := { s.ex with lastRecord := s.ex.lastRecord + 1, skipped := 0, nextFrame := k + 1 } }

/-- The state in which a record is lost (R23). -/
def lost (s : State) : State :=
  { s with ex := { s.ex with lastRecord := s.ex.lastRecord + 1, skipped := s.ex.skipped + 1 } }

/-- A record is stored in the frame found, or lost (R22, R23). -/
theorem produce_eq (h : RecHeader) (body : List Word) (s : State) :
    s.produce h body = match findFree s.mem s.ex.nextFrame with
      | some k => ((stored k (h.words (s.ex.lastRecord + 1) (skippedWord s.ex.skipped) s.ex.generation
            (16 + body.length) ++ body) s).live 0x028 0).setNotice
          (if h.outcome = .complete ∧ h.alarmRaised = 0 then Notice.record else Notice.recordX)
      | none => ((lost s).live 0x028 (skippedWord (s.ex.skipped + 1))).setNotice .lost := by
  unfold State.produce
  cases findFree s.mem s.ex.nextFrame <;> rfl

theorem lost_evolves : Evolves own s (lost s) :=
  ⟨{ Stays.refl own s with
      faultCause := fun _ => .inl rfl
      page := fun ok => pageOk_of_sameBytes ok (sameBytes_refl _ _ _)
        ⟨ok.duty, ok.pwm, ok.scanFits, ok.batchFits, ok.stdFits⟩ },
    .inl { GateStill.refl own s with }, .inl { PageHeld.refl own s with }⟩

/-- A stored record writes its frame from the state word on, and nothing else. -/
theorem stored_sameBytes (k : Fin 8) (ws : List Word) (s : State) {lo hi : Nat}
    (h : hi ≤ frameBase k.val ∨ frameBase k.val + 4 + 4 * ws.length ≤ lo) : SameBytes (stored k ws s).mem s.mem lo hi :=
  sameBytes_trans (sameBytes_writeWord _ _ _ (by omega)) (sameBytes_writeWords _ _ _ (by omega))

theorem stored_evolves (k : Fin 8) (ws : List Word) (free : readWord s.mem (frameBase k.val) = freeCode)
    (fits : .store ∉ own → ws.length ≤ 6015) : Evolves own s (stored k ws s) := by
  have low : ∀ {lo hi : Nat}, hi ≤ storeBase → SameBytes (stored k ws s).mem s.mem lo hi := fun h =>
    stored_sameBytes k ws s (.inl (h.trans (Nat.le_add_right _ _)))
  refine ⟨{ Stays.refl own s with
      requestWords := fun _ => low (by decide), modeResult := fun _ => low (by decide)
      faultCause := fun _ => .inl rfl
      memory := fun ok => writeWord_wf (writeWords_wf _ ok _) _ _, staged := fun _ => low (by decide)
      spare := low (Nat.le_refl _)
      page := fun ok => pageOk_of_sameBytes ok (low (by decide))
        ⟨ok.duty, ok.pwm, ok.scanFits, ok.batchFits, ok.stdFits⟩
      store := fun _ o j busy => stored_sameBytes k ws s ?_ },
    .inl ⟨rfl, fun _ => rfl, fun _ => low (by decide), fun _ => low (by decide), fun _ => low (by decide)⟩,
    .inl ⟨rfl, low (by decide), fun _ => rfl, fun _ => ⟨rfl, rfl⟩, fun _ => rfl⟩⟩
  have other : j.val ≠ k.val := fun e => busy (by rw [e]; exact free)
  have size := fits o
  simp only [frameBase, frameSize]
  omega

/-- A record of a size that its frame holds is written into a FREE frame alone, and into the live skipped counter. -/
theorem produce_evolves (h : RecHeader) (body : List Word) (fits : .store ∉ own → body.length ≤ 6000) :
    Evolves own s (s.produce h body) := by
  rw [produce_eq]
  cases found : findFree s.mem s.ex.nextFrame with
  | none => exact (lost_evolves.trans (live_evolves _ _)).trans (setNotice_evolves _)
  | some k =>
    refine ((stored_evolves k _ (findFree_some found) ?_).trans (live_evolves _ _)).trans (setNotice_evolves _)
    intro o
    have size := fits o
    rw [List.length_append, length_recHeader_words]
    omega

/-- A record that an operation composes from what it found at its start, where that has the sizes of open work. -/
theorem Evolves.produce (e : Evolves own s t) (h : RecHeader) {body : List Word}
    (fits : s.PageOk → body.length ≤ 6000) : Evolves own s (t.produce h body) := by
  by_cases ok : s.PageOk
  · exact e.trans (produce_evolves h body fun _ => fits ok)
  · exact ((e.mono (Set.subset_insert _ _)).trans
      (produce_evolves h body fun o => absurd (Set.mem_insert _ _) o)).of_not_pageOk ok

/-! ## The goal record -/

theorem recompute_evolves (ev : GoalEvent) : Evolves own s (s.recompute ev).state := by
  unfold State.recompute
  dsimp only
  split
  · have calm : Calm own s { s with arb := { s.arb with
        goal := s.claimedGoal, holdPos := s.ex.holdPos, granted := !s.arb.panelInhibit
        cause := goalCauseOf ev s.claimedGoal } } := { }
    exact calm.evolves.trans (liveWords_evolves _ _)
  · split
    · exact .refl _ _
    · exact Calm.evolves { }

theorem tellDue_evolves : Evolves own s s.tellDue := Calm.evolves { }

/-! ## Break history -/

theorem historyAddr_range (i : Fin 32) : historyBase ≤ historyAddr i ∧ historyAddr i + 64 ≤ 0x09800 := by
  simp only [historyAddr, historyBase]
  omega

theorem writeHistory_evolves (h : HeadState) (cues : BitVec 4) (pos cuePos : Word) (work : OpenWork) (record : Word)
    (o : .history ∈ own) : Evolves own s (s.writeHistory h cues pos cuePos work record) := by
  have range := historyAddr_range (s.brk.newest + 1)
  have calm : Calm own s { s with brk.newest := s.brk.newest + 1 } := { }
  refine calm.evolves.trans (.trans (writeWords_evolves (historyAddr (s.brk.newest + 1)) _ ?_ (.inr ⟨o, ?_⟩))
    (live_evolves _ _))
  · simp only [historyBase] at range; omega
  · simp only [List.length_cons, List.length_nil]; omega

/-- A write of one word of a history entry. -/
theorem historyWord_evolves (i : Fin 32) (r : Nat) (w : Word) (o : .history ∈ own) (hr : r + 4 ≤ 64) :
    Evolves own s { s with mem := writeWord s.mem (historyAddr i + r) w } := by
  have range := historyAddr_range i
  simp only [historyBase] at range
  exact writeWord_evolves _ _ (by omega) (.inr ⟨o, by omega⟩)

theorem addCueAfter_evolves (cue : BitVec 4) (o : .history ∈ own) : Evolves own s (s.addCueAfter cue) :=
  historyWord_evolves _ 32 _ o (by decide)

theorem writeAckTime_evolves (o : .history ∈ own) : Evolves own s s.writeAckTime :=
  historyWord_evolves _ 36 _ o (by decide)

theorem writeResumeTime_evolves (o : .history ∈ own) : Evolves own s s.writeResumeTime :=
  historyWord_evolves _ 40 _ o (by decide)

/-! ## Conversion -/

/-- A fold of operations that each stay in the relation stays in it. -/
theorem foldl_evolves {α : Type} {f : State → α → State} (h : ∀ s a, Evolves own s (f s a)) (l : List α) (s : State) :
    Evolves own s (l.foldl f s) := by
  induction l generalizing s with
  | nil => exact .refl _ _
  | cons a l ih => exact (h s a).trans (ih _)

theorem liveSample_evolves (x : Sample) : Evolves own s (s.liveSample x) := by
  have range := x.chan.isLt
  have validity : Evolves own s (s.live (0x0C0 + 4 * x.chan.val) x.validity.code) :=
    live_evolves _ _ (by omega) (by omega)
  unfold State.liveSample
  dsimp only
  split
  · exact validity.trans (live_evolves _ _ (by omega) (by omega))
  · exact validity

theorem liveSamples_evolves (xs : List Sample) : Evolves own s (s.liveSamples xs) :=
  foldl_evolves (fun _ x => liveSample_evolves x) xs s

theorem liveDisable_evolves (c : Fin 9) : Evolves own s (s.liveDisable c) :=
  .trans (live_evolves _ _ (by omega) (by omega)) (live_evolves _ _ (by omega) (by omega))

/-! ## Limit evaluation -/

theorem moveEntry_evolves (i : Fin 48) (j : Judgement) (v : Int) (raise clear : Nat) :
    Evolves own s (s.moveEntry i j v raise clear).2 := by
  unfold State.moveEntry
  dsimp only
  split
  · cases j with
    | clear =>
      dsimp only
      split
      · exact clearAlarm_evolves i _
      · exact setAlarm_evolves i _
    | violating => exact setAlarm_evolves i _
    | neither => exact setAlarm_evolves i _
  · cases j with
    | violating =>
      dsimp only
      split
      · exact raiseAlarm_evolves i _
      · exact setAlarm_evolves i _
    | clear => exact setAlarm_evolves i _
    | neither => exact setAlarm_evolves i _

/-- A fold over a pair whose state component stays in the relation. -/
theorem foldl_snd_evolves {α β : Type} {f : β × State → α → β × State} (h : ∀ acc a, Evolves own acc.2 (f acc a).2)
    (l : List α) (acc : β × State) : Evolves own acc.2 (l.foldl f acc).2 := by
  induction l generalizing acc with
  | nil => exact .refl _ _
  | cons a l ih => exact (h acc a).trans (ih _)

theorem evalKind_evolves (c : Fin 9) (avg : Int) (bins : List ProfBin) (acc : Word × State) (kind : Fin 4) :
    Evolves own acc.2 (State.evalKind c avg bins acc kind).2 := by
  unfold State.evalKind
  dsimp only
  split
  · exact moveEntry_evolves _ _ _ _ _
  · exact .refl _ _

theorem evalChannel_evolves (c : Fin 9) (avg : Int) (bins : List ProfBin) (acc : Word × State) :
    Evolves own acc.2 (State.evalChannel c avg bins acc).2 :=
  foldl_snd_evolves (evalKind_evolves c avg bins) scanKinds acc

end Sys2Proof.Proofs
end

section
namespace Sys2Proof.Proofs

open Sys2Proof.Machine Sys2Proof.Laws

variable {own : Set Reg} {s t u : State}

/-! ## The profile unit -/

theorem length_classBins (minCount : Nat) (as : List BinAcc) (fs : List FilterBin) :
    (classBins minCount as fs).length = as.length := by
  induction as generalizing fs with
  | nil => rfl
  | cons a as ih => rw [classBins, List.length_cons, ih, List.length_cons]

theorem length_recordOrder {α : Type} (p : Page) (bins : List α) : (recordOrder p bins).length = bins.length := by
  unfold recordOrder
  split
  · exact List.length_reverse
  · rfl

theorem length_profBins (p : Page) (complete : Bool) (c : ChanProfile) :
    (profBins p complete c).length = c.bins.length := List.length_map _

/-- A list whose pieces have at most n elements each has at most n times the pieces. -/
theorem length_flatMap_le {α β : Type} (f : α → List β) (n : Nat) (l : List α) (h : ∀ a ∈ l, (f a).length ≤ n) :
    (l.flatMap f).length ≤ n * l.length := by
  induction l with
  | nil => exact Nat.zero_le _
  | cons a l ih =>
    have head := h a List.mem_cons_self
    have tail := ih fun b hb => h b (List.mem_cons_of_mem _ hb)
    rw [List.flatMap_cons, List.length_append, List.length_cons, Nat.mul_succ]
    omega

/-- A scan context of the sizes that R123 gives it. -/
def ScanFits (ctx : ScanCtx) : Prop := ctx.chans.length ≤ 9 ∧ ∀ a ∈ ctx.chans, a.bins.length ≤ 512

theorem length_profileBody (p : Page) (complete : Bool) (minCount nBins : Nat) (filters : Vector Filter 9)
    {ctx : ScanCtx} (fits : ScanFits ctx) :
    (profileBody p complete (ctx.chans.map (chanProfile minCount nBins filters))).length ≤ 6000 := by
  obtain ⟨chans, bins⟩ := fits
  have blocks := length_flatMap_le (fun c => summaryBlock c (recordOrder p (profBins p complete c))) 16
    (ctx.chans.map (chanProfile minCount nBins filters)) fun _ _ => Nat.le_refl 16
  have entries := length_flatMap_le
    (fun c => (recordOrder p (profBins p complete c)).map (binEntry p c.acc.chan.val)) 512
    (ctx.chans.map (chanProfile minCount nBins filters)) fun c hc => by
      obtain ⟨a, ha, rfl⟩ := List.mem_map.1 hc
      rw [List.length_map, length_recordOrder, length_profBins, chanProfile, length_classBins]
      exact bins a ha
  rw [List.length_map] at blocks entries
  rw [profileBody, List.length_append]
  omega

theorem setFilters_evolves (filters : Vector Filter 9) (o : .filters ∈ own) :
    Evolves own s { s with filters := filters } := Calm.evolves { filters := fun no => absurd o no }

theorem profileClose_evolves (e : Evolves own s t) (ctx : ScanCtx) (kinds : Word) (fits : s.PageOk → ScanFits ctx)
    (o : .filters ∈ own) : Evolves own s (t.profileClose ctx kinds).2 := by
  unfold State.profileClose
  dsimp only
  refine Evolves.produce (e.trans ?_) _ fun ok => length_profileBody _ _ _ _ _ (fits ok)
  split
  · exact (setFilters_evolves _ o).trans (foldl_snd_evolves (fun acc c => evalChannel_evolves _ _ _ acc) _ (0, _))
  · exact .refl _ _

theorem profileAbort_evolves (ctx : ScanCtx) (outcome : RecOutcome) : Evolves own s (s.profileAbort ctx outcome) :=
  produce_evolves _ _ fun _ => Nat.zero_le _

theorem produceFixed_evolves (e : Evolves own s t) (b : Batch) (outcome : RecOutcome)
    (fits : s.PageOk → b.chans.length ≤ 9) : Evolves own s (t.produceFixed b outcome) := by
  refine e.produce _ fun ok => ?_
  have channels := length_flatMap_le batchChanWords 4 b.chans fun _ _ => Nat.le_refl 4
  have count := fits ok
  rw [List.length_cons, List.length_cons]
  omega

theorem produceStdz_evolves (e : Evolves own s t) (ctx : StdCtx) (outcome : RecOutcome) (entries : List StdEntry)
    (raised : Bool) (fits : s.PageOk → entries.length ≤ 8) :
    Evolves own s (t.produceStdz ctx outcome entries raised) := by
  refine e.produce _ fun ok => ?_
  have words := length_flatMap_le (fun e : StdEntry =>
    [Word.ofCount e.oldRef, Word.ofCount e.newRef, Word.ofSigned e.check, e.result.code]) 4 entries
    fun _ _ => Nat.le_refl 4
  have count := fits ok
  omega

theorem unseedAll_evolves (o : .filters ∈ own) : Evolves own s s.unseedAll := setFilters_evolves _ o

theorem unseed_evolves (c : Fin 9) (o : .filters ∈ own) : Evolves own s (s.unseed c) :=
  setFilters_evolves _ o

/-! ## The binning unit -/

theorem liveEdges_evolves : Evolves own s s.liveEdges := liveWords_evolves _ _

theorem setEdges_evolves (front back : Int) (o : .edges ∈ own) : Evolves own s (s.setEdges front back) := by
  have calm : Calm own s { s with bin := { s.bin with edgeFront := front, edgeBack := back } } :=
    { edges := fun no => absurd o no }
  exact calm.evolves.trans liveEdges_evolves

theorem length_enabledChannels (p : Page) : p.enabledChannels.length ≤ 8 := List.length_filter_le _ _

theorem length_channelSet (p : Page) : p.channelSet.length ≤ 9 := by
  have enabled := length_enabledChannels p
  unfold Page.channelSet
  rw [List.length_append, List.length_map]
  split
  · exact Nat.succ_le_succ enabled
  · exact Nat.le_succ_of_le enabled

theorem nBins_le_of_checkBins {p : Page} (h : checkBins p = none) : p.nBins ≤ 512 := by
  unfold checkBins at h
  by_contra big
  rw [if_pos (.inr (.inl (Nat.lt_of_not_le big)))] at h
  cases h

theorem openScan_evolves (d : ScanDir) : Evolves own s (s.openScan d) := by
  unfold State.openScan
  dsimp only
  refine .trans (Calm.evolves { work := fun ok => ?_ }) (.trans (live_evolves _ _) (live_evolves _ _))
  refine ⟨ok.duty, ok.pwm, ?_, ok.batchFits, ok.stdFits⟩
  rintro _ ⟨⟩
  refine ⟨(List.length_map _).trans_le (length_channelSet _), fun a ha => ?_⟩
  obtain ⟨c, -, rfl⟩ := List.mem_map.1 ha
  exact List.length_replicate.trans_le (nBins_le_of_checkBins ok.bins)

theorem length_dispose (a : ChanAcc) (front back : Int) (nBins : Nat) (pos : Int) (x : Sample) :
    (a.dispose front back nBins pos x).bins.length = a.bins.length := by
  unfold ChanAcc.dispose ChanAcc.addToBin
  split
  · split
    · rfl
    · split
      · rfl
      · split
        · rfl
        · exact List.length_set
  all_goals rfl

theorem ScanFits.bin {ctx : ScanCtx} (h : ScanFits ctx) (pos : Int) (xs : List Sample) : ScanFits (ctx.bin pos xs) := by
  refine ⟨(List.length_map _).trans_le h.1, fun a ha => ?_⟩
  obtain ⟨b, hb, rfl⟩ := List.mem_map.1 ha
  split
  · rw [length_dispose]; exact h.2 b hb
  · exact h.2 b hb

theorem recordPair_chans (ctx : ScanCtx) (window : Nat) (rise : Bool) (at_ : Int) :
    (ctx.recordPair window rise at_).chans = ctx.chans := by
  unfold ScanCtx.recordPair
  dsimp only
  split <;> split <;> rfl

theorem search1_chans (ctx : ScanCtx) (p : Page) (pos v : Int) : (ctx.search1 p pos v).chans = ctx.chans := by
  unfold ScanCtx.search1
  dsimp only
  split
  · split
    · exact recordPair_chans _ _ _ _
    · split
      · exact recordPair_chans _ _ _ _
      · rfl
  · rfl

theorem edgeSearch_chans (ctx : ScanCtx) (p : Page) (pos : Int) (xs : List Sample) :
    (ctx.edgeSearch p pos xs).chans = ctx.chans := by
  unfold ScanCtx.edgeSearch
  split
  · split
    · exact search1_chans _ _ _ _
    · rfl
  · rfl

theorem ScanFits.edgeSearch {ctx : ScanCtx} (h : ScanFits ctx) (p : Page) (pos : Int) (xs : List Sample) :
    ScanFits (ctx.edgeSearch p pos xs) := by
  unfold ScanFits
  rw [edgeSearch_chans]
  exact h

theorem scanFrame_evolves (f : Frame) (xs : List Sample) : Evolves own s (s.scanFrame f xs) := by
  unfold State.scanFrame
  split
  · rename_i ctx found
    split
    · refine Calm.evolves { work := fun ok => ⟨ok.duty, ok.pwm, ?_, ok.batchFits, ok.stdFits⟩ }
      rintro _ ⟨⟩
      exact ScanFits.edgeSearch (ScanFits.bin (ok.scanFits ctx found) _ _) _ _ _
    · exact .refl _ _
  · exact .refl _ _

/-- A side's miss count alone is set. -/
def missSet (side : Side) (n : Nat) (s : State) : State :=
  match side with
  | .front => { s with bin.missFront := n }
  | .back => { s with bin.missBack := n }

/-- A miss count is set; one that becomes 0 clears an ACTIVE entry of its side (R130). -/
theorem setMiss_eq (side : Side) (n : Nat) (s : State) :
    s.setMiss side n = if n = 0 ∧ s.alarms[edgeLostAlarm side].active = true
      then (missSet side n s).clearAlarm (edgeLostAlarm side) (some 0) else missSet side n s := by
  cases side <;> rfl

theorem missSet_evolves (side : Side) (n : Nat) : Evolves own s (missSet side n s) := by
  cases side <;> exact Calm.evolves { }

theorem setMiss_evolves (side : Side) (n : Nat) : Evolves own s (s.setMiss side n) := by
  rw [setMiss_eq]
  split
  · exact (missSet_evolves side n).trans (clearAlarm_evolves _ _)
  · exact missSet_evolves side n

theorem side_evolves (j : Judged) (side : Side) (missed : Bool) : Evolves own j.state (j.side side missed).state := by
  unfold Judged.side
  dsimp only
  split
  · split
    · exact (setMiss_evolves side _).trans (raiseAlarm_evolves _ _)
    · exact setMiss_evolves side _
  · exact setMiss_evolves side _

/-- Both sides of a judgement when the pair is not adopted. -/
theorem sides_evolves (front back : Bool) :
    Evolves own s ((Judged.side { kinds := 0, cue := false, state := s } .front front).side .back back).state :=
  (side_evolves { kinds := 0, cue := false, state := s } .front front).trans (side_evolves _ .back back)

theorem judgeEdges_evolves (ctx : ScanCtx) (o : .edges ∈ own) : Evolves own s (s.judgeEdges ctx).state := by
  unfold State.judgeEdges
  split
  · split
    · exact ((setEdges_evolves _ _ o).trans (setMiss_evolves .front 0)).trans (setMiss_evolves .back 0)
    · exact sides_evolves _ _
  · exact sides_evolves _ _

/-- An open scan ends without a trace of its own in the binning unit. -/
theorem endScan_evolves : Evolves own s { s with bin.scan := none } :=
  Calm.evolves { work := fun ok => ⟨ok.duty, ok.pwm, nofun, ok.batchFits, ok.stdFits⟩ }

theorem closeScan_evolves (e : .edges ∈ own) (o : .filters ∈ own) : Evolves own s s.closeScan.2 := by
  unfold State.closeScan
  split
  · exact .refl _ _
  · rename_i ctx found
    have judged : ∀ j : Judged, j = (if s.page.edgeTrack then s.judgeEdges ctx else { kinds := 0, cue := false, state := s }) →
        Evolves own s j.state := by
      rintro _ rfl
      split
      · exact judgeEdges_evolves ctx e
      · exact .refl _ _
    have counted : ∀ v : State, Evolves own v { v with std.scanCount := min 255 (v.std.scanCount + 1) } :=
      fun v => Calm.evolves { }
    exact ((((profileClose_evolves (judged _ rfl) ctx _ (fun ok => ok.scanFits ctx found) o).trans
      endScan_evolves).trans (live_evolves _ _)).trans (counted _)).trans (tellDue_evolves.trans (recompute_evolves _))

theorem abortScan_evolves (outcome : RecOutcome) : Evolves own s (s.abortScan outcome) := by
  unfold State.abortScan
  split
  · exact .refl _ _
  · exact ((profileAbort_evolves _ outcome).trans endScan_evolves).trans (live_evolves _ _)

theorem discardScan_evolves : Evolves own s s.discardScan := by
  unfold State.discardScan
  split
  · exact endScan_evolves.trans (live_evolves _ _)
  · exact .refl _ _

theorem endBatch0_evolves : Evolves own s { s with bin.batch := none } :=
  Calm.evolves { batch := fun _ _ => rfl, work := fun ok => ⟨ok.duty, ok.pwm, ok.scanFits, nofun, ok.stdFits⟩ }

theorem discardBatch_evolves : Evolves own s s.discardBatch := endBatch0_evolves

theorem startBatch_evolves (o : .batch ∈ own) : Evolves own s s.startBatch := by
  refine Calm.evolves { batch := fun no => absurd o no, work := fun ok => ⟨ok.duty, ok.pwm, ok.scanFits, ?_, ok.stdFits⟩ }
  rintro _ ⟨⟩
  exact (List.length_map _).trans_le (length_channelSet _)

theorem checkBatchFull_evolves (o : .batch ∈ own) : Evolves own s s.checkBatchFull := by
  unfold State.checkBatchFull
  split
  · rename_i b found
    split
    · exact (produceFixed_evolves endBatch0_evolves b _ fun ok => ok.batchFits b found).trans (startBatch_evolves o)
    · exact .refl _ _
  · exact .refl _ _

/-- A batch takes a frame's samples, in place. -/
theorem takeBatch_evolves (xs : List Sample) (o : .batch ∈ own) :
    Evolves own s { s with bin.batch := s.bin.batch.map (fun b => b.take xs) } := by
  refine Calm.evolves { batch := fun no => absurd o no, work := fun ok => ⟨ok.duty, ok.pwm, ok.scanFits, ?_, ok.stdFits⟩ }
  intro b hb
  obtain ⟨a, ha, rfl⟩ := Option.map_eq_some_iff.1 hb
  exact (List.length_map _).trans_le (ok.batchFits a ha)

theorem batchFrame_evolves (f : Frame) (xs : List Sample) (o : .batch ∈ own) : Evolves own s (s.batchFrame f xs) := by
  unfold State.batchFrame
  split
  · split
    · rename_i b found
      split
      · have take := takeBatch_evolves (s := s) xs o
        rw [found] at take
        exact take.trans (checkBatchFull_evolves o)
      · exact .refl _ _
    · split
      · exact ((startBatch_evolves o).trans (takeBatch_evolves xs o)).trans (checkBatchFull_evolves o)
      · exact .refl _ _
  · exact .refl _ _

theorem endBatch_evolves (outcome : RecOutcome) : Evolves own s (s.endBatch outcome) := by
  unfold State.endBatch
  split
  · exact .refl _ _
  · rename_i b found
    have fixed := produceFixed_evolves (own := own) endBatch0_evolves b outcome fun ok => ok.batchFits b found
    cases outcome with
    | brk => exact fixed
    | link => exact fixed
    | fault => exact fixed
    | complete => exact endBatch0_evolves
    | thin => exact endBatch0_evolves
    | aborted => exact endBatch0_evolves

theorem binResume_evolves (o : .edges ∈ own) : Evolves own s s.binResume := by
  have marked : ∀ v : State, Evolves own v { v with bin.firstAfterBreak := true } := fun v => Calm.evolves { }
  refine Evolves.trans ?_ (marked _)
  refine ((setMiss_evolves .front 0).trans (setMiss_evolves .back 0)).trans ?_
  split
  · exact setEdges_evolves _ _ o
  · exact .refl _ _

end Sys2Proof.Proofs
end

section
/-!
PROOFS. Each shared operation stays in `Evolves`: the head, the standardize sequencer, the break monitor.
-/
namespace Sys2Proof.Proofs

open Sys2Proof.Machine Sys2Proof.Laws

variable {own : Set Reg} {s t u : State}

/-! ## The head -/

theorem setHead_evolves (h : HeadState) : Evolves own s (s.setHead h) := by
  unfold State.setHead
  split
  · exact .refl _ _
  · have calm : Calm own s
        { s with trav := { s.trav with head := h, stillness := 0, stallTime := 0, dwellTimer := none } } := { }
    exact calm.evolves.trans (live_evolves _ _)

/-- D goes to 0 and the homed condition is lost. -/
theorem driveOff_evolves : Evolves own s { s with trav := { s.trav with duty := 0, homed := false } } :=
  Calm.evolves { work := fun ok => ⟨Nat.zero_le _, ok.pwm, ok.scanFits, ok.batchFits, ok.stdFits⟩ }

theorem enterUnhomed_evolves : Evolves own s s.enterUnhomed := driveOff_evolves.trans (setHead_evolves _)

/-- The position is set at an active front switch (R56). -/
theorem setHomingPosition_evolves (lim : s.trav.frontLim = true) : Evolves own s s.setHomingPosition :=
  Calm.evolves { position := fun _ => ⟨id, .inr lim⟩ }

theorem enterHoming_evolves : Evolves own s s.enterHoming := by
  have unhomed : Evolves own s { s with trav.homed := false } := Calm.evolves { }
  have entered := unhomed.trans (setHead_evolves .homing)
  unfold State.enterHoming
  dsimp only
  split
  · rename_i lim
    exact entered.trans (setHomingPosition_evolves lim)
  · exact entered

/-- The direction of a motion is fixed. -/
theorem motionDir_evolves (d : Dir) : Evolves own s { s with trav.motionDir := d } := Calm.evolves { }

theorem enterReturning_evolves : Evolves own s s.enterReturning := (motionDir_evolves _).trans (setHead_evolves _)

theorem enterMovingToHold_evolves : Evolves own s s.enterMovingToHold := (motionDir_evolves _).trans (setHead_evolves _)

theorem enterStopping_evolves : Evolves own s s.enterStopping := setHead_evolves _

theorem enterStanding_evolves : Evolves own s s.enterStanding := setHead_evolves _

theorem enterParked_evolves : Evolves own s s.enterParked := setHead_evolves _

theorem depart_evolves (d : ScanDir) : Evolves own s (s.depart d) := (setHead_evolves _).trans (openScan_evolves d)

theorem enterTurning_evolves (side : Side) : Evolves own s (s.enterTurning side) := by
  have dwell : ∀ v : State, ∀ t, Evolves own v { v with trav := { v.trav with turn := side, dwellTimer := t } } :=
    fun v t => Calm.evolves { }
  unfold State.enterTurning
  dsimp only
  split
  · exact ((setHead_evolves .turning).trans (dwell _ _)).trans (depart_evolves _)
  · exact (setHead_evolves .turning).trans (dwell _ _)

/-- The ways in which a head with no open scan, and not STANDARDIZING, takes a goal (R55 to R57, R60, R63, R64). -/
inductive HeadMove : State → State → Prop where
  | stay (s : State) : HeadMove s s
  | homing (s : State) : HeadMove s s.enterHoming
  | unhomed (s : State) : HeadMove s s.enterUnhomed
  | returning (s : State) : HeadMove s s.enterReturning
  | movingToHold (s : State) : HeadMove s s.enterMovingToHold
  | standing (s : State) : HeadMove s s.enterStanding
  | stopping (s : State) : HeadMove s s.enterStopping
  | depart (s : State) (d : ScanDir) : HeadMove s (s.depart d)
  | batchEnded {s t : State} (outcome : RecOutcome) (h : HeadMove (s.endBatch outcome) t) : HeadMove s t
  | stood {s t : State} (h : HeadMove s.enterStanding t) : HeadMove s t

theorem scanFromStanding_move (s : State) : HeadMove s s.scanFromStanding := by
  unfold State.scanFromStanding
  split
  · exact .depart _ _
  · exact .stay _

theorem takeGoalStill_move (posChanged homingEnded : Bool) (s : State) :
    HeadMove s (s.takeGoalStill posChanged homingEnded) := by
  unfold State.takeGoalStill
  split
  case h_1 => split; exacts [.stay _, .homing _]
  case h_2 => split; exacts [.unhomed _, .stay _]
  case h_3 =>
    split
    iterate 3 exact .stay _
    · split; exacts [.stay _, .homing _]
    · split; exacts [.depart _ _, .stay _]
    · split; exacts [.movingToHold _, .stay _]
  case h_4 =>
    split
    iterate 2 exact .returning _
    · exact .stay _
    · exact .homing _
    · exact scanFromStanding_move _
    · split; exacts [.movingToHold _, .stay _]
  case h_5 =>
    split
    · exact .stay _
    · split; exacts [.returning _, .stay _]
    · exact .returning _
    · exact .standing _
    · exact .homing _
    · exact .movingToHold _
  case h_6 =>
    split
    · split; exacts [.movingToHold _, .stay _]
    iterate 2 exact .stopping _
    iterate 2 exact .returning _
    · exact .homing _
  case h_7 =>
    dsimp only
    split
    · split; exacts [.batchEnded _ (.movingToHold _), .stay _]
    · exact .batchEnded _ (.stood (scanFromStanding_move _))
    iterate 2 exact .batchEnded _ (.returning _)
    · exact .batchEnded _ (.standing _)
    · exact .batchEnded _ (.homing _)
  case h_8 =>
    split
    iterate 4 exact .stay _
    · exact .stopping _
    · exact .homing _
  case h_9 =>
    split
    iterate 2 exact .returning _
    iterate 3 exact .stay _
    · exact .homing _
  iterate 4 exact .stay _

theorem HeadMove.evolves (h : HeadMove s t) : Evolves own s t := by
  induction h with
  | stay => exact .refl _ _
  | homing => exact enterHoming_evolves
  | unhomed => exact enterUnhomed_evolves
  | returning => exact enterReturning_evolves
  | movingToHold => exact enterMovingToHold_evolves
  | standing => exact enterStanding_evolves
  | stopping => exact enterStopping_evolves
  | depart => exact depart_evolves _
  | batchEnded _ _ ih => exact (endBatch_evolves _).trans ih
  | stood _ ih => exact enterStanding_evolves.trans ih

theorem takeGoalStill_evolves (posChanged homingEnded : Bool) :
    Evolves own s (s.takeGoalStill posChanged homingEnded) := (takeGoalStill_move _ _ s).evolves

/-- The cause of a fault, its live word and HEADFAULT (R67). -/
def withFault (cause : FaultCause) (s : State) : State :=
  (({ s with trav.faultCause := cause } : State).live 0x048 cause.code).setNotice .headFault

theorem enterFaulted_eq (cause : FaultCause) (s : State) :
    s.enterFaulted cause =
      withFault cause (({ s with trav := { s.trav with duty := 0, homed := false } } : State).setHead .faulted) := by
  unfold State.enterFaulted State.setHead
  dsimp only
  split <;> rfl

theorem withFault_noticeSet (cause : FaultCause) (s : State) : (withFault cause s).noticeSet .headFault = true := by
  simp only [withFault, State.noticeSet, State.setNotice_notice, BitVec.getLsbD_or, Notice.maskBit, Notice.bit]
  simp

/-- The fault cause changes together with HEADFAULT (R67). -/
theorem withFault_evolves (cause : FaultCause) : Evolves own s (withFault cause s) := by
  have e : Evolves own s ((s.live 0x048 cause.code).setNotice .headFault) :=
    (live_evolves _ _).trans (setNotice_evolves _)
  refine ⟨{ e.frame with
      faultCause := fun _ => .inr (withFault_noticeSet cause s)
      page := fun ok => pageOk_of_sameBytes ok (live_sameBytes s 0x048 cause.code (.inl (by decide)))
        ⟨ok.duty, ok.pwm, ok.scanFits, ok.batchFits, ok.stdFits⟩ },
    e.gate.imp_left fun g => ⟨g.pending, g.result, g.results, g.flags, g.history⟩,
    e.page.imp_left fun g => ⟨g.generation, g.active, g.refs, g.edges, g.filters⟩⟩

theorem enterFaulted_evolves (cause : FaultCause) : Evolves own s (s.enterFaulted cause) := by
  rw [enterFaulted_eq]
  exact (driveOff_evolves.trans (setHead_evolves _)).trans (withFault_evolves cause)

/-! ## The drive interval -/

theorem rampDuty_le {ramp target d n : Nat} (ht : target ≤ n) (hd : d ≤ n) : rampDuty ramp target d ≤ n :=
  (rampDuty_bounds ramp target d).1.trans (max_le hd ht)

theorem raiseTarget_le {minDuty t n : Nat} (hm : minDuty ≤ n) (ht : t ≤ n) : raiseTarget minDuty t ≤ n := by
  unfold raiseTarget
  split
  · exact hm
  · exact ht

theorem motion_cruise_le (ok : s.PageOk) {c : Nat} (h : s.motion.cruise = some c) : c ≤ 1000 := by
  unfold State.motion at h
  dsimp only at h
  split at h
  case h_1 => split at h <;> cases h <;> exact ok.home
  case h_2 | h_3 | h_4 => cases h; exact ok.cruise
  case h_5 => cases h; exact ok.ret
  all_goals cases h

theorem targetDuty_le (ok : s.PageOk) : s.targetDuty.1 ≤ 1000 := by
  unfold State.targetDuty
  dsimp only
  split
  · exact Nat.zero_le _
  · rename_i c found
    have cruise := raiseTarget_le ok.min (motion_cruise_le ok found)
    split
    · exact Nat.zero_le _
    · split
      · exact cruise
      · split
        · exact Nat.zero_le _
        · split
          · exact raiseTarget_le ok.min ok.creep
          · exact cruise

theorem driveStep_evolves : Evolves own s s.driveStep :=
  Calm.evolves { work := fun ok =>
    ⟨rampDuty_le (targetDuty_le ok) ok.duty, ok.pwm, ok.scanFits, ok.batchFits, ok.stdFits⟩ }

/-! ## The standardize sequencer -/

theorem setRef_evolves (c : Fin 8) (r : RefRecord) (o : .refs ∈ own) : Evolves own s (s.setRef c r) := by
  have calm : Calm own s { s with std.refs := s.std.refs.set c.val r c.isLt } := { refs := fun no => absurd o no }
  refine calm.evolves.trans (liveWords_evolves _ _ (by omega) ?_)
  simp only [RefRecord.words, List.length_cons, List.length_nil]
  omega

theorem setUntried_evolves (c : Fin 8) (b : Bool) : Evolves own s (s.setUntried c b) := Calm.evolves { }

/-- The standardize context is replaced by one with no more than eight channels. -/
theorem setCtx_evolves (ctx : Option StdCtx) (fits : s.PageOk → ∀ c, ctx = some c → c.chans.length ≤ 8) :
    Evolves own s { s with std.ctx := ctx } :=
  Calm.evolves { work := fun ok => ⟨ok.duty, ok.pwm, ok.scanFits, ok.batchFits, fits ok⟩ }

theorem stdStart_evolves : Evolves own s s.stdStart := by
  unfold State.stdStart
  split
  · refine (setCtx_evolves _ fun _ c hc => ?_).trans (setHead_evolves _)
    cases hc
    exact (List.length_map _).trans_le (length_enabledChannels _)
  · exact .refl _ _

theorem actOnResult_evolves (o : .refs ∈ own) (acc : Bool × State) (e : StdEntry) :
    Evolves own acc.2 (State.actOnResult acc e).2 := by
  unfold State.actOnResult
  dsimp only
  split
  · exact ((setUntried_evolves _ _).trans (setRef_evolves _ _ o)).trans (clearAlarm_evolves _ _)
  all_goals exact (setUntried_evolves _ _).trans (raiseAlarm_evolves _ _)

theorem finishStd_evolves : Evolves own s s.finishStd := by
  have ended : ∀ v : State, Evolves own v { v with std := { v.std with scanCount := 0, stdNow := false, ctx := none } } :=
    fun v => Calm.evolves { work := fun ok => ⟨ok.duty, ok.pwm, ok.scanFits, ok.batchFits, nofun⟩ }
  exact ((setNotice_evolves .stdz).trans (ended _)).trans tellDue_evolves

theorem stdConclude_evolves (o : .refs ∈ own) : Evolves own s s.stdConclude := by
  unfold State.stdConclude
  split
  · exact .refl _ _
  · rename_i ctx found
    have acted := foldl_snd_evolves (own := own) (actOnResult_evolves o) (ctx.chans.map (stdEntry s.page)) (false, s)
    exact (produceStdz_evolves acted ctx _ _ _ fun ok =>
      (List.length_map _).trans_le (ok.stdFits ctx found)).trans finishStd_evolves

theorem stdEarlyEnd_evolves (outcome : RecOutcome) (result : StdResult) :
    Evolves own s (s.stdEarlyEnd outcome result) := by
  unfold State.stdEarlyEnd
  split
  · exact .refl _ _
  · rename_i ctx found
    exact (produceStdz_evolves (.refl _ _) ctx _ _ _ fun ok =>
      (List.length_map _).trans_le (ok.stdFits ctx found)).trans finishStd_evolves

theorem settleEnd_evolves : Evolves own s s.settleEnd := by
  unfold State.settleEnd
  split
  · exact .refl _ _
  · rename_i ctx found
    exact setCtx_evolves _ fun ok c hc => by cases hc; exact ok.stdFits ctx found

theorem beginSettleRef_evolves : Evolves own s s.beginSettleRef := by
  unfold State.beginSettleRef
  split
  · exact .refl _ _
  · rename_i ctx found
    exact setCtx_evolves _ fun ok c hc => by cases hc; exact ok.stdFits ctx found

theorem count1_chans_length (ctx : StdCtx) (echo : Bool) (xs : List Sample) :
    (ctx.count1 echo xs).chans.length = ctx.chans.length := by
  unfold StdCtx.count1
  split
  · split <;> rfl
  · exact List.length_map _

/-! ## The break monitor -/

theorem setBreakState_evolves (b : BreakState) : Evolves own s (s.setBreakState b) := by
  unfold State.setBreakState
  split
  · exact .refl _ _
  · have calm : Calm own s { s with brk.state := b } := { }
    exact calm.evolves.trans (live_evolves _ _)

theorem clearCounts_evolves : Evolves own s s.clearCounts := Calm.evolves { }

theorem takeWatch_evolves : Evolves own s s.takeWatch.2 := by
  unfold State.takeWatch
  split
  · exact .refl _ _
  · split
    · exact clearCounts_evolves.trans (setBreakState_evolves _)
    · exact .refl _ _
  · split
    · exact .refl _ _
    · exact clearCounts_evolves.trans (setBreakState_evolves _)

theorem moveCounts_evolves (f : Machine.Frame) (xs : List Sample) : Evolves own s (s.moveCounts f xs) := by
  unfold State.moveCounts
  split
  · exact Calm.evolves { }
  · exact .refl _ _

theorem breakStart_evolves : Evolves own s s.breakStart := by
  have numbered : Evolves own s { s with brk := { s.brk with number := s.brk.number + 1, latch := false } } :=
    Calm.evolves { }
  exact ((numbered.trans (live_evolves _ _)).trans clearCounts_evolves).trans (setBreakState_evolves _)

theorem declareAtApply_evolves (o : .history ∈ own) : Evolves own s s.declareAtApply.state :=
  ((breakStart_evolves.trans (recompute_evolves .breakRaised)).trans (writeHistory_evolves _ _ _ _ _ _ o)).trans
    (setNotice_evolves .brk)

theorem resumeCore_evolves (o : .history ∈ own) (e : .edges ∈ own)
    (f : .filters ∈ own) : Evolves own s s.resumeCore :=
  ((((clearCounts_evolves.trans (setBreakState_evolves _)).trans (binResume_evolves e)).trans
    (unseedAll_evolves f)).trans (writeResumeTime_evolves o)).trans (setNotice_evolves .resumed)

end Sys2Proof.Proofs
end

section
/-!
PROOFS. The apply: what the active page holds after an accepted apply, and that an apply stays in `Evolves`.
-/
namespace Sys2Proof.Proofs

open Sys2Proof.Machine Sys2Proof.Laws

variable {own : Set Reg} {s t u : State}

/-! ## The page that an accepted apply leaves (R11, R12) -/

/-- The kind of the field at an offset (Table 11-2). -/
def kindAt (off : Nat) : FieldKind :=
  if 0x600 ≤ off then engRange
  else if off < 0x100 ∨ 0x540 ≤ off then (plainFields.lookup off).getD .asWritten
  else if off < 0x300 then ((channelFields ((off - 0x100) / 64)).lookup off).getD .asWritten
  else ((limitFields ((off - 0x300) / 64)).lookup off).getD .asWritten

theorem kindAt_of_mem_pageFields : ∀ f ∈ pageFields, kindAt f.1 = f.2 := by decide +kernel

theorem pageFields_aligned : ∀ f ∈ pageFields, f.1 % 4 = 0 ∧ f.1 + 4 ≤ 0x4000 := by decide +kernel

theorem mem_pageDiffs {p q : Page} {d : Nat × Word} :
    d ∈ pageDiffs p q ↔ (∃ f ∈ pageFields, (f.1, clampField p f.1 f.2) = d) ∧ d.2 ≠ q d.1 := by
  simp only [pageDiffs, List.mem_filter, List.mem_map, bne_iff_ne]

theorem pageDiffs_aligned {p q : Page} {d : Nat × Word} (h : d ∈ pageDiffs p q) : d.1 % 4 = 0 ∧ d.1 + 4 ≤ 0x4000 := by
  obtain ⟨⟨f, hf, rfl⟩, -⟩ := mem_pageDiffs.1 h
  exact pageFields_aligned f hf

/-- A word of the active page after words are copied into it, where the copies of that word agree. -/
theorem readWord_copyDiffs (ds : List (Nat × Word)) (m : Mem) {off : Nat} {w : Word} (aligned : ∀ d ∈ ds, d.1 % 4 = 0)
    (ho : off % 4 = 0) (agree : ∀ d ∈ ds, d.1 = off → d.2 = w) :
    readWord (copyDiffs ds m) (activeBase + off) =
      if ∃ d ∈ ds, d.1 = off then w else readWord m (activeBase + off) := by
  induction ds generalizing m with
  | nil => simp [copyDiffs]
  | cons d ds ih =>
    have rest := ih (writeWord m (activeBase + d.1) d.2) (fun e he => aligned e (List.mem_cons_of_mem _ he))
      fun e he => agree e (List.mem_cons_of_mem _ he)
    have step : copyDiffs (d :: ds) m = copyDiffs ds (writeWord m (activeBase + d.1) d.2) := rfl
    rw [step, rest]
    by_cases same : d.1 = off
    · rw [if_pos (c := ∃ e ∈ d :: ds, e.1 = off) ⟨d, List.mem_cons_self, same⟩]
      split
      · rfl
      · rw [same, readWord_writeWord_same, agree d List.mem_cons_self same]
    · have align := aligned d List.mem_cons_self
      rw [readWord_writeWord_other _ _ _ _ (by omega)]
      simp only [List.mem_cons, exists_eq_or_imp, same, false_or]

theorem copyDiffs_sameBytes (ds : List (Nat × Word)) (m : Mem) (bound : ∀ d ∈ ds, d.1 + 4 ≤ 0x4000) {lo hi : Nat}
    (h : hi ≤ activeBase ∨ liveBase ≤ lo) : SameBytes (copyDiffs ds m) m lo hi := by
  induction ds generalizing m with
  | nil => exact sameBytes_refl _ _ _
  | cons d ds ih =>
    have here := bound d List.mem_cons_self
    refine sameBytes_trans (ih _ fun e he => bound e (List.mem_cons_of_mem _ he)) (sameBytes_writeWord _ _ _ ?_)
    simp only [activeBase, liveBase] at h ⊢
    omega

/-- The memory with the staged page's differences copied (R12 step 2). -/
def copied (s : State) : Mem := copyDiffs (pageDiffs s.staged s.page) s.mem

theorem copied_sameBytes (s : State) {lo hi : Nat} (h : hi ≤ activeBase ∨ liveBase ≤ lo) :
    SameBytes (copied s) s.mem lo hi :=
  copyDiffs_sameBytes _ _ (fun _ hd => (pageDiffs_aligned hd).2) h

/-- Every field of the copied page holds the clamped staged value (R11). -/
theorem copied_field {off : Nat} {kind : FieldKind} (h : (off, kind) ∈ pageFields) (s : State) :
    activePage (copied s) off = clampField s.staged off kind := by
  have agree : ∀ d ∈ pageDiffs s.staged s.page, d.1 = off → d.2 = clampField s.staged off kind := by
    rintro _ hd rfl
    obtain ⟨⟨f, hf, rfl⟩, -⟩ := mem_pageDiffs.1 hd
    rw [← kindAt_of_mem_pageFields _ hf, kindAt_of_mem_pageFields _ h]
  have value := readWord_copyDiffs (pageDiffs s.staged s.page) s.mem (fun _ hd => (pageDiffs_aligned hd).1)
    (pageFields_aligned _ h).1 agree
  refine value.trans ?_
  split
  · rfl
  · rename_i none
    by_contra differs
    exact none ⟨(off, clampField s.staged off kind), mem_pageDiffs.2 ⟨⟨_, h, rfl⟩, fun e => differs e.symm⟩, rfl⟩

/-- Every other word of the copied page is as it was (R12). -/
theorem copied_other {off : Nat} (aligned : off % 4 = 0) (h : ∀ kind, (off, kind) ∉ pageFields) (s : State) :
    activePage (copied s) off = s.page off := by
  have no : ∀ d ∈ pageDiffs s.staged s.page, d.1 ≠ off := by
    rintro _ hd rfl
    obtain ⟨⟨f, hf, rfl⟩, -⟩ := mem_pageDiffs.1 hd
    exact h _ hf
  have value := readWord_copyDiffs (w := 0) (pageDiffs s.staged s.page) s.mem (fun _ hd => (pageDiffs_aligned hd).1)
    aligned fun d hd e => absurd e (no d hd)
  exact value.trans (if_neg fun ⟨d, hd, e⟩ => no d hd e)

/-! ## The copied page is valid -/

theorem clampNat_le {lo hi v : Nat} (h : lo ≤ hi) : clampNat lo hi v ≤ hi := by
  unfold clampNat
  split
  · exact h
  · split <;> omega

theorem toNat_clamped_le {p : Page} {off lo hi : Nat} (h : lo ≤ hi) :
    (clampField p off (.unsignedRange lo hi)).toNat ≤ hi := by
  rw [clampField, Word.ofCount, BitVec.toNat_ofNat]
  exact (Nat.mod_le _ _).trans (clampNat_le h)

theorem validatePage_none {p : Page} (h : validatePage p = none) : checkPlan p = none ∧ checkBins p = none := by
  unfold validatePage at h
  cases plan : checkPlan p with
  | some _ => simp [plan] at h
  | none =>
    cases bins : checkBins p with
    | some _ => simp [plan, bins] at h
    | none => exact ⟨rfl, rfl⟩

/-- A staged page that passes the checks becomes a valid active page (R9, R11). -/
theorem copied_pageFine (h : validatePage s.staged = none) : PageFine (activePage (copied s)) := by
  obtain ⟨plan, bins⟩ := validatePage_none h
  have written : ∀ off, (off, FieldKind.asWritten) ∈ plainFields → activePage (copied s) off = s.staged off :=
    fun off ho => copied_field (List.mem_append_left _ (List.mem_append_left _ (List.mem_append_left _ ho))) s
  have duty : ∀ off, (off, dutyRange) ∈ plainFields → (activePage (copied s) off).toNat ≤ 1000 := fun off ho => by
    rw [copied_field (List.mem_append_left _ (List.mem_append_left _ (List.mem_append_left _ ho))) s]
    exact toNat_clamped_le (by decide)
  refine ⟨?_, ?_, duty 0x05C (by decide), duty 0x060 (by decide), duty 0x064 (by decide), duty 0x068 (by decide),
    duty 0x06C (by decide)⟩
  · rw [← plan]
    unfold checkPlan Page.pEnd Page.fTurn Page.eFront Page.eBack Page.bTurn
    rw [written 0x020 (by decide), written 0x028 (by decide), written 0x02C (by decide), written 0x030 (by decide),
      written 0x034 (by decide)]
  · rw [← bins]
    unfold checkBins Page.nBins Page.eFront Page.eBack
    rw [written 0x038 (by decide), written 0x02C (by decide), written 0x030 (by decide)]

/-! ## The reactions of the blocks (Table 1-5) -/

theorem applyLink_evolves (h : ApplyHandoff) : Evolves own s (s.applyLink h) := by
  unfold State.applyLink
  split
  · exact Calm.evolves { }
  · exact .refl _ _

theorem applyBinning_evolves (h : ApplyHandoff) (o : .edges ∈ own) : Evolves own s (s.applyBinning h) := by
  have discarded : Evolves own s (if s.trav.head = .holding then s.discardBatch else s) := by
    split
    · exact discardBatch_evolves
    · exact .refl _ _
  unfold State.applyBinning
  dsimp only
  split
  · exact ((discarded.trans (setEdges_evolves _ _ o)).trans (setMiss_evolves .front 0)).trans (setMiss_evolves .back 0)
  · exact discarded

theorem applyTraverse_evolves (h : ApplyHandoff) : Evolves own s (s.applyTraverse h) := by
  have unhomed : Evolves own s (if h.changes.has 0x058 && s.trav.homed then s.enterUnhomed else s) := by
    split
    · exact enterUnhomed_evolves
    · exact .refl _ _
  unfold State.applyTraverse
  dsimp only
  generalize (if h.changes.has 0x058 && s.trav.homed then s.enterUnhomed else s) = v at unhomed ⊢
  split
  · exact unhomed.trans (enterFaulted_evolves _)
  · exact unhomed

theorem applyRef_evolves (h : ApplyHandoff) (o : .refs ∈ own) (s : State) (c : Fin 8) :
    Evolves own s (s.applyRef h c) := by
  unfold State.applyRef
  split
  · exact ((setRef_evolves _ _ o).trans (clearAlarm_evolves _ _)).trans (setUntried_evolves _ _)
  · exact .refl _ _

theorem applyStd_evolves (h : ApplyHandoff) (o : .refs ∈ own) : Evolves own s (s.applyStd h) :=
  (foldl_evolves (applyRef_evolves h o) channels8 s).trans tellDue_evolves

/-- A fold over channels of an operation that is made where a mark is set. -/
theorem foldl_if_evolves {α : Type} {f : State → α → State} (mark : α → Bool) (h : ∀ s a, Evolves own s (f s a))
    (l : List α) (s : State) : Evolves own s (l.foldl (fun s a => if mark a then f s a else s) s) :=
  foldl_evolves (fun s a => by
    split
    · exact h s a
    · exact .refl _ _) l s

theorem applyProfile_evolves (h : ApplyHandoff) (o : .filters ∈ own) : Evolves own s (s.applyProfile h) := by
  have channels := foldl_if_evolves h.unseeds (fun s (c : Fin 8) => unseed_evolves (s := s) c.castSucc o) channels8 s
  unfold State.applyProfile
  dsimp only
  split
  · exact unseedAll_evolves o
  · split
    · exact channels.trans (unseed_evolves _ o)
    · exact channels

theorem applyConvert_evolves (h : ApplyHandoff) : Evolves own s (s.applyConvert h) := by
  have channels := foldl_if_evolves (own := own) (fun c : Fin 8 => h.disabled c)
    (fun s c => liveDisable_evolves (s := s) c.castSucc) channels8 s
  unfold State.applyConvert
  dsimp only
  split
  · exact channels.trans (liveDisable_evolves _)
  · exact channels

theorem resetEntry_evolves (i : Fin 48) (clear : Bool) : Evolves own s (s.resetEntry i clear) := by
  unfold State.resetEntry
  split
  · exact clearAlarm_evolves _ _
  · exact setAlarm_evolves _ _

theorem applyLimit_evolves (h : ApplyHandoff) (s : State) (k : Fin 9) : Evolves own s (s.applyLimit h k) := by
  unfold State.applyLimit
  split
  · exact foldl_evolves (fun _ _ => resetEntry_evolves _ _) scanKinds s
  · exact .refl _ _

theorem dropChannel_evolves (k : Fin 9) : Evolves own s (s.dropChannel k) :=
  foldl_evolves (fun _ _ => resetEntry_evolves _ _) scanKinds s

theorem applyLimits_evolves (h : ApplyHandoff) : Evolves own s (s.applyLimits h) := by
  have records := foldl_evolves (own := own) (applyLimit_evolves h) channels9 s
  have channels := records.trans (foldl_if_evolves (fun c : Fin 8 => h.disabled c)
    (fun s c => dropChannel_evolves (s := s) c.castSucc) channels8 _)
  unfold State.applyLimits
  dsimp only
  split
  · exact channels.trans (dropChannel_evolves _)
  · exact channels

theorem applyBreak_evolves (h : ApplyHandoff) (o : .history ∈ own) (e : .edges ∈ own) (f : .filters ∈ own) :
    Evolves own s (s.applyBreak h).state := by
  have counts : Evolves own s (s.applyCounts h) := Calm.evolves { }
  unfold State.applyBreak
  dsimp only
  split
  · exact (counts.trans (resumeCore_evolves o e f)).trans (recompute_evolves _)
  · split
    · exact (counts.trans takeWatch_evolves).trans (declareAtApply_evolves o)
    · exact counts.trans takeWatch_evolves

/-- What the reactions to an accepted apply may move besides what every operation may. -/
def applyOwned : Set Reg := { .refs, .edges, .filters, .history }

/-- What follows the reactions of the link controller and of the binning unit. -/
theorem applyReactions_afterBinning (h : ApplyHandoff) (sub : applyOwned ⊆ own) :
    Evolves own ((s.applyLink h).applyBinning h) (s.applyReactions h).state := by
  have refs : Reg.refs ∈ own := sub (.inl rfl)
  have edges : Reg.edges ∈ own := sub (.inr (.inl rfl))
  have filters : Reg.filters ∈ own := sub (.inr (.inr (.inl rfl)))
  have history : Reg.history ∈ own := sub (.inr (.inr (.inr rfl)))
  have blocks := (applyTraverse_evolves (s := (s.applyLink h).applyBinning h) h).trans (applyStd_evolves h refs)
  exact ((((blocks.trans (applyProfile_evolves h filters)).trans (applyConvert_evolves h)).trans
    (applyLimits_evolves h)).trans (recompute_evolves .other)).trans (applyBreak_evolves h history edges filters)

theorem applyReactions_evolves (h : ApplyHandoff) (sub : applyOwned ⊆ own) :
    Evolves own s (s.applyReactions h).state :=
  ((applyLink_evolves h).trans (applyBinning_evolves h (sub (.inr (.inl rfl))))).trans
    (applyReactions_afterBinning h sub)

/-! ## The apply -/

/-- A write of the gate's live words: the gate state and the apply result, or the changed-group flags, the changed mask
and the generation (Table 11-7). -/
theorem gateWords_stays (off : Nat) (ws : List Word)
    (h : 0x004 ≤ off ∧ off + 4 * ws.length ≤ 0x010 ∨ 0x01C ≤ off ∧ off + 4 * ws.length ≤ 0x028) :
    Stays own s (s.liveWords off ws) := by
  have same : ∀ {lo hi : Nat}, hi ≤ 0x08004 ∨ 0x08028 ≤ lo ∨ (0x08010 ≤ lo ∧ hi ≤ 0x0801C) →
      SameBytes (s.liveWords off ws).mem s.mem lo hi := fun b => liveWords_sameBytes s off ws (by
    simp only [liveBase]
    omega)
  exact
    { Stays.refl own s with
      requestWords := fun _ => same (by decide), modeResult := fun _ => same (by decide)
      faultCause := fun _ => .inl rfl
      memory := fun ok => writeWords_wf ws ok _, staged := fun _ => same (by decide), spare := same (by decide)
      page := fun ok => pageOk_of_sameBytes ok (same (by decide))
        ⟨ok.duty, ok.pwm, ok.scanFits, ok.batchFits, ok.stdFits⟩
      store := fun _ _ _ _ => same (.inr (.inl (by simp only [frameBase, storeBase]; omega))) }

/-- The gate's own registers are set. -/
theorem setGate_stays (pending : Bool) (result : Result) (generation : Word) : Stays own s
    { s with ex := { s.ex with applyPending := pending, gateResult := result, generation := generation } } :=
  { Stays.refl own s with
    faultCause := fun _ => .inl rfl
    page := fun ok => pageOk_of_sameBytes ok (sameBytes_refl _ _ _)
      ⟨ok.duty, ok.pwm, ok.scanFits, ok.batchFits, ok.stdFits⟩ }

theorem gateIdle_stays : Stays own s s.gateIdle := by
  unfold State.gateIdle
  split
  · exact (setGate_stays false _ _).trans (gateWords_stays 0x004 [0] (.inl (by decide)))
  · exact .refl _ _

theorem gateIdle_sameBytes (s : State) {lo hi : Nat} (h : hi ≤ 0x08004 ∨ 0x08008 ≤ lo) :
    SameBytes s.gateIdle.mem s.mem lo hi := by
  unfold State.gateIdle
  split
  · exact live_sameBytes _ 0x004 0 h
  · exact sameBytes_refl _ _ _

/-- The copy of an accepted apply (R12 steps 1 to 3). -/
theorem copied_stays (h : validatePage s.staged = none) : Stays own s { s with mem := copied s } := by
  have low : ∀ {lo hi : Nat}, hi ≤ activeBase ∨ liveBase ≤ lo → SameBytes (copied s) s.mem lo hi := copied_sameBytes s
  exact
    { Stays.refl own s with
      requestWords := fun _ => low (by decide), modeResult := fun _ => low (by decide)
      faultCause := fun _ => .inl rfl
      memory := fun ok => copyDiffs_wf _ ok, staged := fun _ => low (by decide), spare := low (by decide)
      page := fun ok => (pageOk_iff _).2 ⟨copied_pageFine h, ok.duty, ok.pwm, ok.scanFits, ok.batchFits, ok.stdFits⟩
      store := fun _ _ _ _ => low (.inr (by simp only [frameBase, storeBase, liveBase]; omega)) }

theorem acceptApply_stays (h : validatePage s.staged = none) : Stays own s s.acceptApply := by
  have set := (copied_stays (own := own) h).trans (setGate_stays s.ex.applyPending .accepted (s.ex.generation + 1))
  have words := (set.trans (gateWords_stays 0x01C [Changes.groupWord ((pageDiffs s.staged s.page).map Prod.fst),
    Changes.channelMask ((pageDiffs s.staged s.page).map Prod.fst), s.ex.generation + 1] (.inr (by simp)))).trans
    (gateWords_stays 0x008 [Result.accepted.code, 0] (.inl (by decide)))
  exact (words.trans gateIdle_stays).trans (setNotice_evolves .applied).frame

theorem refuseApply_stays (code : Result) (off : Nat) : Stays own s (s.refuseApply code off) := by
  have set : Stays own s { s with ex := { s.ex with gateResult := code } } := setGate_stays s.ex.applyPending code _
  exact ((set.trans (gateWords_stays 0x008 [code.code, Word.ofCount off] (.inl (by simp)))).trans gateIdle_stays).trans
    (setNotice_evolves .refused).frame

theorem gateIdle_applyPending (s : State) : s.gateIdle.ex.applyPending = false := by rw [gateIdle_spec]

theorem gateIdle_generation (s : State) : s.gateIdle.ex.generation = s.ex.generation := by rw [gateIdle_spec]

theorem acceptApply_applyPending (s : State) : s.acceptApply.ex.applyPending = false := gateIdle_applyPending _

theorem acceptApply_generation (s : State) : s.acceptApply.ex.generation = s.ex.generation + 1 := gateIdle_generation _

theorem refuseApply_applyPending (code : Result) (off : Nat) (s : State) :
    (s.refuseApply code off).ex.applyPending = false := gateIdle_applyPending _

/-- A refused apply writes the live gate state and the live apply result alone (R10). -/
theorem refuseApply_sameBytes (code : Result) (off : Nat) (s : State) {lo hi : Nat} (h : hi ≤ 0x08004 ∨ 0x08010 ≤ lo) :
    SameBytes (s.refuseApply code off).mem s.mem lo hi :=
  sameBytes_trans (gateIdle_sameBytes _ (by omega)) (liveWords_sameBytes _ 0x008 [code.code, Word.ofCount off] (by
    simp only [liveBase, List.length_cons, List.length_nil]
    omega))

theorem refuseApply_pageHeld (code : Result) (off : Nat) : PageHeld own s (s.refuseApply code off) where
  generation := gateIdle_generation _
  active := refuseApply_sameBytes code off s (by decide)
  refs _ := congrArg StdSeq.refs (State.gateIdle_std _)
  edges _ := ⟨congrArg Binning.edgeFront (State.gateIdle_bin _), congrArg Binning.edgeBack (State.gateIdle_bin _)⟩
  filters _ := State.gateIdle_filters _

/-- What an apply does, pending or not: the gate is IDLE, and the page is held or the generation raised by one
(R10, R12). -/
structure ApplyTaken (own : Set Reg) (s t : State) : Prop where
  frame : Stays own s t
  idle : t.ex.applyPending = false
  page : PageHeld own s t ∨ t.ex.generation = s.ex.generation + 1

/-- The frame of a change under more owners, where those are no matter of the frame. -/
theorem Stays.of_union (h : Stays (own ∪ applyOwned) s t) : Stays own s t := by
  have out : ∀ {r : Reg}, r ∉ applyOwned → r ∉ own → r ∉ own ∪ applyOwned := fun n o => not_or.2 ⟨o, n⟩
  have no : ∀ {r : Reg}, r ≠ .refs → r ≠ .edges → r ≠ .filters → r ≠ .history → r ∉ applyOwned := fun a b c d e =>
    e.elim a fun e => e.elim b fun e => e.elim c d
  exact
    { h with
      pins := fun o => h.pins (out (no nofun nofun nofun nofun) o), life := fun o => h.life (out (no nofun nofun nofun nofun) o)
      cause := fun o => h.cause (out (no nofun nofun nofun nofun) o), mask := fun o => h.mask (out (no nofun nofun nofun nofun) o)
      frameCounter := fun o => h.frameCounter (out (no nofun nofun nofun nofun) o)
      request := fun o => h.request (out (no nofun nofun nofun nofun) o)
      requestWords := fun o => h.requestWords (out (no nofun nofun nofun nofun) o)
      armed := fun o => h.armed (out (no nofun nofun nofun nofun) o), line := fun o => h.line (out (no nofun nofun nofun nofun) o)
      panel := fun o => h.panel (out (no nofun nofun nofun nofun) o)
      position := fun o => h.position (out (no nofun nofun nofun nofun) o)
      notices := fun o => h.notices (out (no nofun nofun nofun nofun) o)
      faultCause := fun o => h.faultCause (out (no nofun nofun nofun nofun) o)
      modeResult := fun o => h.modeResult (out (no nofun nofun nofun nofun) o)
      staged := fun o => h.staged (out (no nofun nofun nofun nofun) o)
      batch := fun o => h.batch (out (no nofun nofun nofun nofun) o)
      store := fun ok o => h.store ok (out (no nofun nofun nofun nofun) o) }

theorem applyTake_taken (own : Set Reg) (s : State) : ApplyTaken own s s.applyTake.state := by
  cases check : validatePage s.staged with
  | some failure =>
    obtain ⟨code, off⟩ := failure
    rw [applyTake_refused s check]
    exact ⟨refuseApply_stays code off, refuseApply_applyPending code off s, .inl (refuseApply_pageHeld code off)⟩
  | none =>
    rw [applyTake_accepted s check]
    have reactions := applyReactions_evolves (own := own ∪ applyOwned) (s := s.acceptApply)
      { changes := (pageDiffs s.staged s.page).map Prod.fst, before := s.page, after := s.acceptApply.page }
      Set.subset_union_right
    have idle := acceptApply_applyPending s
    exact ⟨((acceptApply_stays check).trans reactions.frame).of_union, reactions.idle idle,
      .inr ((reactions.pageHeld idle).generation.trans (acceptApply_generation s))⟩

theorem applyPoint_evolves : Evolves own s s.applyPoint.state := by
  cases pending : s.ex.applyPending with
  | false => rw [applyPoint_idle s pending]; exact .refl _ _
  | true =>
    rw [applyPoint_pending s pending]
    have taken := applyTake_taken own s
    exact ⟨taken.frame, .inr ⟨pending, taken.idle⟩, taken.page.imp_right fun g => ⟨pending, taken.idle, g⟩⟩

/-- After an apply point nothing is pending. -/
theorem applyPoint_applyPending (s : State) : s.applyPoint.state.ex.applyPending = false := by
  cases pending : s.ex.applyPending with
  | false => rw [applyPoint_idle s pending]; exact pending
  | true => rw [applyPoint_pending s pending]; exact (applyTake_taken ∅ s).idle

end Sys2Proof.Proofs
end

section
/-!
PROOFS. Each shared operation stays in `Evolves`: where the blocks meet (Goal.lean) and the end of an event.
-/
namespace Sys2Proof.Proofs

open Sys2Proof.Machine Sys2Proof.Laws

variable {own : Set Reg} {s t u : State}

/-! ## The head takes a goal -/

theorem Evolves.settle {r : Recomputed} (e : Evolves own s r.state) : Evolves own s r.settle := by
  unfold Recomputed.settle
  split
  · exact e.trans (takeGoalStill_evolves _ _)
  · exact e

theorem enterAborted_evolves (g : Goal) (s : State) : Evolves own s (s.enterAborted g) := by
  cases g with
  | park => exact enterReturning_evolves
  | stop => exact enterStopping_evolves
  | home => exact enterHoming_evolves
  | hold => exact enterMovingToHold_evolves
  | scan => exact .refl _ _
  | standardize => exact .refl _ _

theorem thenEnter_evolves (r : Recomputed) {step : State → State} (h : ∀ v, Evolves own v (step v)) :
    Evolves own r.state (r.thenEnter step) := by
  unfold Recomputed.thenEnter
  split
  · exact .refl _ _
  · exact takeGoalStill_evolves _ _
  all_goals
    split
    · exact (h _).trans (takeGoalStill_evolves _ _)
    · exact h _

theorem abortForGoal_evolves : Evolves own s s.abortForGoal :=
  ((abortScan_evolves _).trans applyPoint_evolves).trans (thenEnter_evolves _ (enterAborted_evolves _))

theorem abandonForHome_evolves : Evolves own s s.abandonForHome :=
  Evolves.settle ((((stdEarlyEnd_evolves _ _).trans enterHoming_evolves).trans applyPoint_evolves).trans
    (recompute_evolves .other))

theorem takeGoal_evolves (posChanged : Bool) : Evolves own s (s.takeGoal posChanged) := by
  unfold State.takeGoal
  split
  case h_3 =>
    split
    · exact abandonForHome_evolves
    · exact .refl _ _
  case h_1 | h_2 =>
    split
    · exact .refl _ _
    · exact .refl _ _
    all_goals exact abortForGoal_evolves
  all_goals exact takeGoalStill_evolves _ _

theorem handGoal_evolves (ev : GoalEvent) : Evolves own s (s.handGoal ev) := by
  rcases handGoal_cases s ev with ⟨-, e⟩ | ⟨-, e⟩ <;> rw [e]
  · exact recompute_evolves ev
  · exact (recompute_evolves ev).trans (takeGoal_evolves _)

/-! ## Faults -/

theorem faultScan_evolves : Evolves own s s.faultScan := by
  unfold State.faultScan
  split
  · exact (abortScan_evolves _).trans applyPoint_evolves
  · exact .refl _ _

theorem faultStd_evolves : Evolves own s s.faultStd := by
  unfold State.faultStd
  split
  · exact ((stdEarlyEnd_evolves _ _).trans applyPoint_evolves).trans (recompute_evolves .other)
  · exact .refl _ _

theorem fault_evolves (cause : FaultCause) : Evolves own s (s.fault cause) :=
  (((enterFaulted_evolves cause).trans faultScan_evolves).trans (endBatch_evolves _)).trans faultStd_evolves

/-! ## Breaks -/

theorem declare_evolves (cues : BitVec 4) (cuePos : Word) (o : .history ∈ own) : Evolves own s (s.declare cues cuePos) :=
  ((breakStart_evolves.trans (handGoal_evolves .breakRaised)).trans (writeHistory_evolves _ _ _ _ _ _ o)).trans
    (setNotice_evolves .brk)

theorem resume_evolves (o : .history ∈ own) (e : .edges ∈ own) (f : .filters ∈ own) : Evolves own s s.resume :=
  (resumeCore_evolves o e f).trans (handGoal_evolves .other)

theorem checkResume_evolves (o : .history ∈ own) (e : .edges ∈ own) (f : .filters ∈ own) : Evolves own s s.checkResume := by
  unfold State.checkResume
  split
  · exact resume_evolves o e f
  · exact .refl _ _

theorem edgeCue_evolves (o : .history ∈ own) : Evolves own s s.edgeCue := by
  unfold State.edgeCue
  split
  · split
    · exact declare_evolves _ _ o
    · exact addCueAfter_evolves _ o
    · exact .refl _ _
  · exact .refl _ _

theorem lineCue_evolves (o : .history ∈ own) : Evolves own s s.lineCue := by
  unfold State.lineCue
  split
  · split
    · exact declare_evolves _ _ o
    · exact addCueAfter_evolves _ o
    · exact .refl _ _
  · exact .refl _ _

theorem gaugeDeclare_evolves (cuePos : Word) (o : .history ∈ own) : Evolves own s (s.gaugeDeclare cuePos) := by
  unfold State.gaugeDeclare
  split
  · exact .refl _ _
  · exact declare_evolves _ _ o

theorem breakFrame_evolves (f : Machine.Frame) (xs : List Sample) (o : .history ∈ own) :
    Evolves own s (s.breakFrame f xs) := (moveCounts_evolves f xs).trans (gaugeDeclare_evolves _ o)

/-! ## Arrivals -/

theorem arriveGoal_evolves (side : Side) : Evolves own s (s.arriveGoal side) := by
  unfold State.arriveGoal
  split
  · exact enterTurning_evolves side
  · cases side with
    | back => exact enterTurning_evolves .back
    | front => exact enterReturning_evolves
  · exact enterReturning_evolves
  · exact enterStanding_evolves
  · exact enterHoming_evolves
  · exact enterMovingToHold_evolves

/-- The generation alone is set: with no apply pending this is all that a change of generation can disturb. -/
theorem Evolves.withGeneration (g h : Word) (e : Evolves own { s with ex.generation := g } t)
    (idle : s.ex.applyPending = false) (hg : h = s.ex.generation) : Evolves own s { t with ex.generation := h } := by
  subst hg
  have still := e.gateStill idle
  have held := e.pageHeld idle
  have memOk : s.PageOk → t.PageOk := fun ok => e.frame.page ⟨ok.plan, ok.bins, ok.cruise, ok.creep, ok.ret, ok.home,
    ok.min, ok.duty, ok.pwm, ok.scanFits, ok.batchFits, ok.stdFits⟩
  refine ⟨?_, .inl ⟨still.pending, still.result, still.results, still.flags, still.history⟩,
    .inl ⟨rfl, held.active, held.refs, held.edges, held.filters⟩⟩
  have f := e.frame
  exact ⟨f.pending, f.tieIndex, f.time, f.pins, f.life, f.cause, f.mask, f.frameCounter, f.request, f.requestWords, f.armed, f.line,
    f.panel, f.position, f.notices, f.faultCause, f.modeResult, f.memory, f.staged, f.spare, f.batch,
    fun ok => pageOk_of_sameBytes ok held.active
      ⟨(memOk ok).duty, (memOk ok).pwm, (memOk ok).scanFits, (memOk ok).batchFits, (memOk ok).stdFits⟩,
    fun ok => f.store ⟨ok.plan, ok.bins, ok.cruise, ok.creep, ok.ret, ok.home, ok.min, ok.duty, ok.pwm, ok.scanFits,
      ok.batchFits, ok.stdFits⟩⟩

theorem edgeCueAfterApply_evolves (g : Word) (o : .history ∈ own) (idle : s.ex.applyPending = false) :
    Evolves own s (s.edgeCueAfterApply g) :=
  Evolves.withGeneration g _ (edgeCue_evolves (s := { s with ex.generation := g }) o) idle rfl

/-- How the head of a traverse that arrived takes its goal after the apply point (R59; R66, R70). -/
def arrived (side : Side) (r : Recomputed) : State :=
  match r.state.trav.head with
  | .faulted => r.state
  | .unhomed => r.state.takeGoalStill r.posChanged false
  | _ => r.state.arriveGoal side

/-- The arrival of a traverse (R59, R131). -/
theorem arriveScan_eq (side : Side) (s : State) :
    s.arriveScan side = if s.closeScan.1
      then (arrived side s.closeScan.2.applyPoint).edgeCueAfterApply s.ex.generation
      else arrived side s.closeScan.2.applyPoint := by
  unfold State.arriveScan arrived
  dsimp only
  cases s.closeScan.2.applyPoint.state.trav.head <;> rfl

theorem arrived_evolves (side : Side) (r : Recomputed) : Evolves own r.state (arrived side r) := by
  unfold arrived
  split
  · exact .refl _ _
  · exact takeGoalStill_evolves _ _
  · exact arriveGoal_evolves side

theorem arriveScan_evolves (side : Side) (o : .history ∈ own) (e : .edges ∈ own) (f : .filters ∈ own) :
    Evolves own s (s.arriveScan side) := by
  have entered := arrived_evolves (own := own) side s.closeScan.2.applyPoint
  have moved := ((closeScan_evolves (s := s) e f).trans applyPoint_evolves).trans entered
  rw [arriveScan_eq]
  split
  · exact moved.trans (edgeCueAfterApply_evolves _ o (entered.idle (applyPoint_applyPending _)))
  · exact moved

/-- What an arrival may move: it may close a scan, start a batch, and declare a break by the EDGE cue. -/
theorem arrive_evolves (o : .history ∈ own) (e : .edges ∈ own) (f : .filters ∈ own) (b : .batch ∈ own) :
    Evolves own s s.arrive := by
  unfold State.arrive
  split
  · split
    · exact enterParked_evolves.trans (takeGoalStill_evolves _ _)
    · exact .refl _ _
  · exact arriveScan_evolves _ o e f
  · exact arriveScan_evolves _ o e f
  · exact ((setHead_evolves _).trans (startBatch_evolves b)).trans (takeGoalStill_evolves _ _)
  · exact enterParked_evolves.trans (takeGoalStill_evolves _ _)
  · exact enterStanding_evolves.trans (takeGoalStill_evolves _ _)
  all_goals exact .refl _ _

/-! ## The ends of a standardize -/

theorem parkAfterStd_evolves : Evolves own s s.parkAfterStd :=
  ((enterParked_evolves.trans applyPoint_evolves).trans (recompute_evolves .other)).trans (takeGoalStill_evolves _ _)

theorem stdFinish_evolves (o : .refs ∈ own) : Evolves own s s.stdFinish :=
  (stdConclude_evolves o).trans parkAfterStd_evolves

theorem measureEnd_evolves (o : .refs ∈ own) : Evolves own s s.measureEnd := by
  unfold State.measureEnd
  split
  · exact beginSettleRef_evolves
  · exact stdFinish_evolves o

theorem stdLinkEnd_evolves : Evolves own s s.stdLinkEnd := by
  unfold State.stdLinkEnd
  split
  · exact (stdEarlyEnd_evolves _ _).trans parkAfterStd_evolves
  · exact .refl _ _

/-! ## Link state -/

theorem linkDownCore_evolves (cause : LinkCause) : Evolves own s (s.linkDownCore cause) := by
  have down : Evolves own s
      { s with link := { s.link with up := false, lossCount := 0, goodRun := 0, echoCount := 0 } } := Calm.evolves { }
  exact ((down.trans (live_evolves 0x02C 0)).trans (raiseAlarm_evolves _ _)).trans (setNotice_evolves .link)

theorem linkDown_evolves (cause : LinkCause) : Evolves own s (s.linkDown cause) :=
  ((linkDownCore_evolves cause).trans (handGoal_evolves .linkRaised)).trans stdLinkEnd_evolves

theorem linkUp_evolves : Evolves own s s.linkUp := by
  have up : Evolves own s { s with link.up := true } := Calm.evolves { }
  exact (((up.trans (live_evolves 0x02C 1)).trans (clearAlarm_evolves _ _)).trans (setNotice_evolves .link)).trans
    (handGoal_evolves .other)

/-! ## The end of an event -/

theorem commandCompare_evolves : Evolves own s s.commandCompare := by
  unfold State.commandCompare
  split
  · exact .refl _ _
  · exact Calm.evolves { }

theorem endEvent_evolves : Evolves own s s.endEvent := stdStart_evolves.trans commandCompare_evolves

theorem event_evolves {f : State → State} (h : Evolves own s (f s)) : Evolves own s (s.event f) := by
  unfold State.event
  split
  · exact h.trans endEvent_evolves
  · exact .refl _ _

end Sys2Proof.Proofs
end

section
/-!
PROOFS. Each command stays in `Evolves` for the registers that it owns, `owned`; the resets and APPLY apart.
-/
namespace Sys2Proof.Proofs

open Sys2Proof.Machine Sys2Proof.Laws

variable {own : Set Reg} {s t u : State}

/-! ## Start-up completion and warm reset -/

theorem startUp_evolves (life : .life ∈ own) (position : .position ∈ own) (panel : .panel ∈ own) (line : .line ∈ own) :
    Evolves own s s.startUp :=
  ⟨{ Stays.refl own s with
      life := fun no => absurd life no, position := fun no => absurd position no, panel := fun no => absurd panel no
      line := fun no => absurd line no, faultCause := fun _ => .inl rfl
      page := fun ok => pageOk_of_sameBytes ok (sameBytes_refl _ _ _)
        ⟨ok.duty, ok.pwm, ok.scanFits, ok.batchFits, ok.stdFits⟩ },
    .inl { GateStill.refl own s with }, .inl { PageHeld.refl own s with }⟩

theorem liveExchange_evolves (gate : .gate ∈ own) (words : .requestWords ∈ own) (result : .modeResult ∈ own) :
    Evolves own s s.liveExchange := by
  have same : ∀ {lo hi : Nat}, hi ≤ 0x08000 ∨ 0x0802C ≤ lo → SameBytes s.liveExchange.mem s.mem lo hi := fun b =>
    liveWords_sameBytes s _ _ (by simp only [liveBase, List.length_cons, List.length_nil]; omega)
  exact
    ⟨{ Stays.refl own s with
        requestWords := fun no => absurd words no, modeResult := fun no => absurd result no
        faultCause := fun _ => .inl rfl, memory := fun ok => writeWords_wf _ ok _
        staged := fun _ => same (by decide), spare := same (by decide)
        page := fun ok => pageOk_of_sameBytes ok (same (by decide))
          ⟨ok.duty, ok.pwm, ok.scanFits, ok.batchFits, ok.stdFits⟩
        store := fun _ _ _ _ => same (.inr (by simp only [frameBase, storeBase]; omega)) },
      .inl ⟨rfl, fun no => absurd gate no, fun no => absurd gate no, fun no => absurd gate no,
        fun _ => same (by decide)⟩,
      .inl ⟨rfl, same (by decide), fun _ => rfl, fun _ => ⟨rfl, rfl⟩, fun _ => rfl⟩⟩

theorem liveBlocks_evolves : Evolves own s s.liveBlocks :=
  (((liveWords_evolves 0x02C _).trans (live_evolves 0x038 _)).trans (liveWords_evolves 0x044 _)).trans
    liveEdges_evolves

theorem liveTables_evolves : Evolves own s s.liveTables := by
  have refs := foldl_evolves (own := own) (fun s (c : Fin 8) =>
    liveWords_evolves (s := s) (0x100 + 16 * c.val) s.std.refs[c].words (by omega)
      (by simp only [RefRecord.words, List.length_cons, List.length_nil]; omega)) channels8 s
  have entries := refs.trans (foldl_evolves (fun s (i : Fin 48) =>
    liveWords_evolves (s := s) (0x200 + 16 * i.val) s.alarms[i].words (by omega)
      (by simp only [AlarmEntry.words, List.length_cons, List.length_nil]; omega)) alarmIndices _)
  exact entries.trans (foldl_evolves (fun _ c => liveDisable_evolves c) channels9 _)

theorem startGoal_evolves : Evolves own s s.startGoal := (recompute_evolves .other).trans (liveWords_evolves 0x03C _)

theorem startUpComplete_evolves (life : .life ∈ own) (position : .position ∈ own) (panel : .panel ∈ own)
    (line : .line ∈ own) (gate : .gate ∈ own) (words : .requestWords ∈ own) (result : .modeResult ∈ own) :
    Evolves own s s.startUpComplete :=
  ((((((((startUp_evolves life position panel line).trans (liveExchange_evolves gate words result)).trans
    liveBlocks_evolves).trans liveTables_evolves).trans (raiseAlarm_evolves _ _)).trans
    (setNotice_evolves .restarted)).trans startGoal_evolves).trans (takeGoalStill_evolves _ _))

theorem gateIdle_evolves : Evolves own s s.gateIdle := by
  cases pending : s.ex.applyPending with
  | false =>
    have same : s.gateIdle = s := by simp [State.gateIdle, pending]
    rw [same]
    exact .refl _ _
  | true =>
    refine ⟨gateIdle_stays, .inr ⟨pending, gateIdle_applyPending s⟩, .inl ⟨gateIdle_generation s, ?_, ?_, ?_, ?_⟩⟩
    · exact gateIdle_sameBytes s (by decide)
    · exact fun _ => congrArg StdSeq.refs (State.gateIdle_std s)
    · exact fun _ => ⟨congrArg Binning.edgeFront (State.gateIdle_bin s), congrArg Binning.edgeBack (State.gateIdle_bin s)⟩
    · exact fun _ => State.gateIdle_filters s

theorem warmExchange_evolves (cause : .cause ∈ own) (gate : .gate ∈ own) : Evolves own s s.warmExchange := by
  have set : Evolves own s { s with ex := { s.ex with gateResult := .none, cause := .warm } } :=
    ⟨{ Stays.refl own s with
        cause := fun no => absurd cause no, faultCause := fun _ => .inl rfl
        page := fun ok => pageOk_of_sameBytes ok (sameBytes_refl _ _ _)
          ⟨ok.duty, ok.pwm, ok.scanFits, ok.batchFits, ok.stdFits⟩ },
      .inl { GateStill.refl own s with result := fun no => absurd gate no }, .inl { PageHeld.refl own s with }⟩
  exact (set.trans gateIdle_evolves).trans (setNotice_evolves .restarted)

theorem warmDiscard_evolves (filters : .filters ∈ own) : Evolves own s s.warmDiscard :=
  (((discardScan_evolves.trans discardBatch_evolves).trans (setCtx_evolves none fun _ _ h => nomatch h)).trans
    tellDue_evolves).trans (unseedAll_evolves filters)

theorem warmTraverse_evolves (position : .position ∈ own) : Evolves own s s.warmTraverse := by
  refine Evolves.trans (Calm.evolves ?_) (setHead_evolves s.warmHead)
  exact
    { position := fun no => absurd position no
      work := fun ok => ⟨Nat.zero_le _, ok.pwm, ok.scanFits, ok.batchFits, ok.stdFits⟩ }

theorem warmLink_evolves : Evolves own s s.warmLink := by
  have set : Evolves own s { s with link := { s.link with
      inFlight := none, sampleTimer := some s.page.samplePeriod, lossCount := 0, goodRun := 0, echoCount := 0 } } :=
    Calm.evolves { }
  unfold State.warmLink
  dsimp only
  split
  · exact set.trans (linkDownCore_evolves _)
  · exact set

theorem warmArbiter_evolves (panel : .panel ∈ own) : Evolves own s s.warmArbiter :=
  Evolves.trans (Calm.evolves { panel := fun no => absurd panel no }) (recompute_evolves .other)

theorem warmBreak_evolves : Evolves own s s.warmBreak := Calm.evolves { }

theorem warmReset_evolves (cause : .cause ∈ own) (gate : .gate ∈ own) (position : .position ∈ own)
    (panel : .panel ∈ own) (filters : .filters ∈ own) : Evolves own s s.warmReset :=
  ((((((warmExchange_evolves cause gate).trans (warmDiscard_evolves filters)).trans
    (warmTraverse_evolves position)).trans warmLink_evolves).trans warmBreak_evolves).trans
    (warmArbiter_evolves panel)).trans (takeGoalStill_evolves _ _)

/-! ## The fields of a mode write -/

/-- Words of the live request. -/
theorem requestWord_evolves (off : Nat) (w : Word) (h : 0x014 ≤ off ∧ off + 4 ≤ 0x01C) (words : .requestWords ∈ own) :
    Evolves own s (s.live off w) := by
  have same : ∀ {lo hi : Nat}, hi ≤ 0x08014 ∨ 0x0801C ≤ lo → SameBytes (s.live off w).mem s.mem lo hi := fun b =>
    live_sameBytes s off w (by simp only [liveBase]; omega)
  exact
    ⟨{ Stays.refl own s with
        requestWords := fun no => absurd words no, modeResult := fun _ => same (by decide)
        faultCause := fun _ => .inl rfl, memory := fun ok => writeWord_wf ok _ _
        staged := fun _ => same (by decide), spare := same (by decide)
        page := fun ok => pageOk_of_sameBytes ok (same (by decide))
          ⟨ok.duty, ok.pwm, ok.scanFits, ok.batchFits, ok.stdFits⟩
        store := fun _ _ _ _ => same (.inr (by simp only [frameBase, storeBase]; omega)) },
      .inl ⟨rfl, fun _ => rfl, fun _ => same (by decide), fun _ => same (by decide), fun _ => same (by decide)⟩,
      .inl ⟨rfl, same (by decide), fun _ => rfl, fun _ => ⟨rfl, rfl⟩, fun _ => rfl⟩⟩

/-- The requested mode and the hold position are set. -/
theorem setRequest_evolves (m : ReqMode) (pos : Int) (request : .request ∈ own) :
    Evolves own s { s with ex := { s.ex with reqMode := m, holdPos := pos } } :=
  ⟨{ Stays.refl own s with
      request := fun no => absurd request no, faultCause := fun _ => .inl rfl
      page := fun ok => pageOk_of_sameBytes ok (sameBytes_refl _ _ _)
        ⟨ok.duty, ok.pwm, ok.scanFits, ok.batchFits, ok.stdFits⟩ },
    .inl { GateStill.refl own s with }, .inl { PageHeld.refl own s with }⟩

theorem acceptMode_evolves (m : ReqMode) (w : Word) (request : .request ∈ own) (words : .requestWords ∈ own) :
    Evolves own s (s.acceptMode m w) := by
  have shown := (setRequest_evolves (s := s) m s.ex.holdPos request).trans
    (requestWord_evolves 0x014 m.code (by decide) words)
  unfold State.acceptMode
  dsimp only
  split
  · exact (shown.trans (setRequest_evolves m _ request)).trans (requestWord_evolves 0x018 _ (by decide) words)
  · exact shown

theorem takeModeReq_evolves (req holdPos : Word) (request : .request ∈ own) (words : .requestWords ∈ own) :
    Evolves own s (s.takeModeReq req holdPos) := by
  unfold State.takeModeReq
  split
  · split
    · exact acceptMode_evolves _ _ request words
    · exact .refl _ _
  · exact .refl _ _

theorem takeStdNow_evolves (v : Word) : Evolves own s (s.takeStdNow v) := by
  unfold State.takeStdNow
  split
  · exact .refl _ _
  · exact Calm.evolves { }

theorem takeRequests_evolves (req holdPos stdNow : Word) (request : .request ∈ own) (words : .requestWords ∈ own) :
    Evolves own s (s.takeRequests req holdPos stdNow) := by
  have taken := (takeModeReq_evolves (s := s) req holdPos request words).trans (takeStdNow_evolves stdNow)
  unfold State.takeRequests
  dsimp only
  split
  · exact taken.trans (handGoal_evolves _)
  · exact taken

theorem takeBreakAck_evolves (v : Word) (history : .history ∈ own) (edges : .edges ∈ own) (filters : .filters ∈ own) :
    Evolves own s (s.takeBreakAck v) := by
  have latched : Evolves own s { s with brk.latch := true } := Calm.evolves { }
  unfold State.takeBreakAck
  split
  · exact (latched.trans (writeAckTime_evolves history)).trans (checkResume_evolves history edges filters)
  · exact .refl _ _

theorem takeFaultAck_evolves (v : Word) : Evolves own s (s.takeFaultAck v) := by
  unfold State.takeFaultAck
  split
  · exact enterUnhomed_evolves.trans (takeGoalStill_evolves _ _)
  · exact .refl _ _

theorem takeArm_evolves (v : Word) (armed : .armed ∈ own) (history : .history ∈ own) :
    Evolves own s (s.takeArm v) := by
  have watched : Evolves own s ({ s with brk.armed := decide (v ≠ 0) } : State).takeWatch.2 :=
    Evolves.trans (Calm.evolves { armed := fun no => absurd armed no }) takeWatch_evolves
  unfold State.takeArm
  dsimp only
  split
  · exact .refl _ _
  · split
    · exact watched.trans (declare_evolves _ _ history)
    · exact watched

/-- The gate result is set. -/
theorem setResult_evolves (r : Result) (gate : .gate ∈ own) : Evolves own s { s with ex.gateResult := r } :=
  ⟨{ Stays.refl own s with
      faultCause := fun _ => .inl rfl
      page := fun ok => pageOk_of_sameBytes ok (sameBytes_refl _ _ _)
        ⟨ok.duty, ok.pwm, ok.scanFits, ok.batchFits, ok.stdFits⟩ },
    .inl { GateStill.refl own s with result := fun no => absurd gate no }, .inl { PageHeld.refl own s with }⟩

/-- The live mode result is written. -/
theorem modeResultWord_evolves (w : Word) (result : .modeResult ∈ own) : Evolves own s (s.live 0x010 w) := by
  have same : ∀ {lo hi : Nat}, hi ≤ 0x08010 ∨ 0x08014 ≤ lo → SameBytes (s.live 0x010 w).mem s.mem lo hi := fun b =>
    live_sameBytes s 0x010 w b
  exact
    ⟨{ Stays.refl own s with
        requestWords := fun _ => same (by decide), modeResult := fun no => absurd result no
        faultCause := fun _ => .inl rfl, memory := fun ok => writeWord_wf ok _ _
        staged := fun _ => same (by decide), spare := same (by decide)
        page := fun ok => pageOk_of_sameBytes ok (same (by decide))
          ⟨ok.duty, ok.pwm, ok.scanFits, ok.batchFits, ok.stdFits⟩
        store := fun _ _ _ _ => same (.inr (by simp only [frameBase, storeBase]; omega)) },
      .inl ⟨rfl, fun _ => rfl, fun _ => same (by decide), fun _ => same (by decide), fun _ => same (by decide)⟩,
      .inl ⟨rfl, same (by decide), fun _ => rfl, fun _ => ⟨rfl, rfl⟩, fun _ => rfl⟩⟩

theorem concludeMode_evolves (r : Result) (gate : .gate ∈ own) (result : .modeResult ∈ own) :
    Evolves own s (s.concludeMode r) := by
  have shown := (setResult_evolves (s := s) r gate).trans (modeResultWord_evolves r.code result)
  unfold State.concludeMode
  dsimp only
  split
  · exact shown
  · exact shown.trans (setNotice_evolves _)

theorem modeWrite_evolves (req holdPos stdNow breakAck faultAck arm : Word) (request : .request ∈ own)
    (words : .requestWords ∈ own) (history : .history ∈ own) (edges : .edges ∈ own) (filters : .filters ∈ own)
    (armed : .armed ∈ own) (gate : .gate ∈ own) (result : .modeResult ∈ own) :
    Evolves own s (s.modeWrite req holdPos stdNow breakAck faultAck arm) :=
  ((((takeRequests_evolves req holdPos stdNow request words).trans
    (takeBreakAck_evolves breakAck history edges filters)).trans (takeFaultAck_evolves faultAck)).trans
    (takeArm_evolves arm armed history)).trans (concludeMode_evolves _ gate result)

/-! ## Alarm events and break events -/

theorem edgeMissReached_evolves (side : Side) : Evolves own s (s.edgeMissReached side) := by
  unfold State.edgeMissReached
  split
  · exact raiseAlarm_evolves _ _
  · exact .refl _ _

theorem streakReached_evolves (i : Fin 36) : Evolves own s (s.streakReached i) := by
  unfold State.streakReached
  dsimp only
  split
  · split
    · split
      · exact clearAlarm_evolves _ _
      · exact .refl _ _
    · split
      · exact raiseAlarm_evolves _ _
      · exact .refl _ _
  · exact .refl _ _

theorem lineExpiry_evolves (line : .line ∈ own) (history : .history ∈ own) (edges : .edges ∈ own)
    (filters : .filters ∈ own) : Evolves own s s.lineExpiry := by
  have taken : Evolves own s { s with brk := { s.brk with lineTimer := none, line := s.pins.breakIn } } :=
    Calm.evolves { line := fun no => absurd line no }
  unfold State.lineExpiry
  dsimp only
  split
  · split
    · exact taken.trans (lineCue_evolves history)
    · split
      · exact taken.trans (checkResume_evolves history edges filters)
      · exact taken
  · exact .refl _ _

/-! ## Link events -/

theorem frameStart_evolves (counter : .frameCounter ∈ own) : Evolves own s s.frameStart := by
  have started : Stays own s { s with link := { s.link with
      sampleTimer := some s.page.samplePeriod, frameCounter := s.link.frameCounter + 1
      inFlight := some (s.newFrame (s.link.frameCounter + 1)) } } :=
    { Stays.refl own s with
      frameCounter := fun no => absurd counter no, faultCause := fun _ => .inl rfl
      page := fun ok => pageOk_of_sameBytes ok (sameBytes_refl _ _ _)
        ⟨ok.duty, ok.pwm, ok.scanFits, ok.batchFits, ok.stdFits⟩ }
  exact (Evolves.mk started (.inl { GateStill.refl own s with }) (.inl { PageHeld.refl own s with })).trans
    ((liveWords_evolves 0x030 _).trans (live_evolves 0x044 _))

theorem echoCheck_evolves (f : Machine.Frame) (status : Option SlotWord) : Evolves own s (s.echoCheck f status) := by
  rcases echoCheck_cases f status s with e | e | e <;> rw [e]
  · exact .refl _ _
  · exact Calm.evolves { }
  · exact Calm.evolves { }

theorem countFrame_evolves (received : Bool) : Evolves own s (s.countFrame received) := by
  unfold State.countFrame
  split <;> exact Calm.evolves { }

theorem echoTimeout_evolves : Evolves own s s.echoTimeout := by
  have counted : Evolves own s { s with link.echoCount := 0 } := Calm.evolves { }
  unfold State.echoTimeout
  dsimp only
  split
  · exact counted.trans (linkDown_evolves _)
  · exact counted

theorem judgeLink_evolves : Evolves own s s.judgeLink := by
  have echo : Evolves own s (if s.echoDue then s.echoTimeout else s) := by
    split
    · exact echoTimeout_evolves
    · exact .refl _ _
  unfold State.judgeLink
  dsimp only
  generalize (if s.echoDue then s.echoTimeout else s) = v at echo ⊢
  split
  · exact linkDown_evolves _
  · split
    · exact echo.trans linkUp_evolves
    · exact echo

theorem tempAlarm_evolves (status : Option SlotWord) : Evolves own s (s.tempAlarm status) := by
  unfold State.tempAlarm
  split
  · exact .refl _ _
  · have noted : ∀ b, Evolves own s { s with link.lastTempAlarm := b } := fun b => Calm.evolves { }
    dsimp only
    split
    · exact .refl _ _
    · split
      · exact (noted _).trans (raiseAlarm_evolves _ _)
      · exact (noted _).trans (clearAlarm_evolves _ _)

theorem stdFrame_evolves (xs : List Sample) (refs : .refs ∈ own) : Evolves own s (s.stdFrame xs) := by
  unfold State.stdFrame
  split
  · exact .refl _ _
  · rename_i ctx found
    have counted : Evolves own s { s with std.ctx := some (ctx.count1 s.link.echoPending xs) } :=
      setCtx_evolves _ fun ok c hc => by
        cases hc
        exact (count1_chans_length _ _ _).trans_le (ok.stdFits ctx found)
    dsimp only
    split
    · exact counted.trans settleEnd_evolves
    · split
      · exact counted.trans (measureEnd_evolves refs)
      · exact counted

theorem distribute_evolves (f : Machine.Frame) (xs : List Sample) (refs : .refs ∈ own) (batch : .batch ∈ own)
    (history : .history ∈ own) : Evolves own s (s.distribute f xs) := by
  unfold State.distribute
  split
  · exact stdFrame_evolves xs refs
  · exact ((scanFrame_evolves f xs).trans (batchFrame_evolves f xs batch)).trans (breakFrame_evolves f xs history)

theorem frameReceived_evolves (slots : List SlotRx) (refs : .refs ∈ own) (batch : .batch ∈ own)
    (history : .history ∈ own) : Evolves own s (s.frameReceived slots) := by
  unfold State.frameReceived
  split
  · exact .refl _ _
  · rename_i f found
    have landed : Evolves own s { s with link.inFlight := none } := Calm.evolves { }
    exact ((((landed.trans (echoCheck_evolves f _)).trans (countFrame_evolves _)).trans judgeLink_evolves).trans
      (tempAlarm_evolves _)).trans ((liveSamples_evolves _).trans (distribute_evolves f _ refs batch history))

/-! ## Motion events and panel events -/

theorem driveExpiry_evolves (history : .history ∈ own) (edges : .edges ∈ own) (filters : .filters ∈ own)
    (batch : .batch ∈ own) : Evolves own s s.driveExpiry := by
  unfold State.driveExpiry
  dsimp only
  split
  · exact driveStep_evolves.trans (fault_evolves _)
  · split
    · exact driveStep_evolves.trans (arrive_evolves history edges filters batch)
    · exact driveStep_evolves

theorem dwellExpiry_evolves : Evolves own s s.dwellExpiry := by
  unfold State.dwellExpiry
  split
  · exact depart_evolves _
  · exact .refl _ _

theorem countStep_evolves (d : Int) (position : .position ∈ own) : Evolves own s (s.countStep d) := by
  have counted : Evolves own s { s with trav.position := s.trav.position + BitVec.ofInt 32 d } :=
    Calm.evolves { position := fun no => absurd position no }
  unfold State.countStep
  dsimp only
  split
  · exact .refl _ _
  · split
    · exact counted.trans (fault_evolves _)
    · exact counted

theorem frontLimEvent_evolves (position : .position ∈ own) : Evolves own s s.frontLimEvent := by
  have level : Evolves own s { s with trav.frontLim := true } := Calm.evolves { position := fun no => absurd position no }
  unfold State.frontLimEvent
  dsimp only
  split
  · exact level.trans (fault_evolves _)
  · split
    · exact level.trans (setHomingPosition_evolves rfl)
    · exact level

theorem backLimEvent_evolves : Evolves own s s.backLimEvent := by
  have level : Evolves own s { s with trav.backLim := true } := Calm.evolves { }
  unfold State.backLimEvent
  dsimp only
  split
  · exact level.trans (fault_evolves _)
  · exact level

theorem drvFaultEvent_evolves : Evolves own s s.drvFaultEvent := by
  have level : Evolves own s { s with trav.drvFault := true } := Calm.evolves { }
  unfold State.drvFaultEvent
  dsimp only
  split
  · exact level.trans (fault_evolves _)
  · exact level

/-- The raw levels of the pins are set. -/
theorem setPins_evolves (pins : Pins) (o : .pins ∈ own) : Evolves own s { s with pins := pins } :=
  ⟨{ Stays.refl own s with
      pins := fun no => absurd o no, faultCause := fun _ => .inl rfl
      page := fun ok => pageOk_of_sameBytes ok (sameBytes_refl _ _ _)
        ⟨ok.duty, ok.pwm, ok.scanFits, ok.batchFits, ok.stdFits⟩ },
    .inl { GateStill.refl own s with }, .inl { PageHeld.refl own s with }⟩

theorem fieldActive_evolves (i : FieldInput) {f : State → State} (o : .pins ∈ own) (h : ∀ v, Evolves own v (f v)) :
    Evolves own s (s.fieldActive i f) := by
  unfold State.fieldActive
  split
  · exact .refl _ _
  · exact (setPins_evolves _ o).trans (event_evolves (h _))

theorem panelChange_evolves (i : PanelInput) : Evolves own s (s.panelChange i) := by
  cases i <;> exact Calm.evolves { }

theorem panelExpiry_evolves (i : PanelInput) (panel : .panel ∈ own) : Evolves own s (s.panelExpiry i) := by
  have level : Evolves own s { s with arb := (s.arb.setTimer i none).setPanel i (s.pins.panel i) } :=
    Calm.evolves { panel := fun no => absurd panel no }
  unfold State.panelExpiry
  dsimp only
  split
  · split
    · exact ((level.trans (recompute_evolves _)).trans (takeGoal_evolves _)).trans (setNotice_evolves _)
    · exact level.trans (recompute_evolves _)
  · exact .refl _ _

/-! ## Host writes -/

/-- A write of the memory by the host: the staged page or the record store. -/
theorem hostWord_evolves (a : Nat) (w : Word) (staged : a + 4 ≤ activeBase → .staged ∈ own) (store : .store ∈ own)
    (h : a + 4 ≤ activeBase ∨ storeBase ≤ a) : Evolves own s { s with mem := writeWord s.mem a w } := by
  have same : ∀ {lo hi : Nat}, activeBase ≤ lo → hi ≤ storeBase → SameBytes (writeWord s.mem a w) s.mem lo hi :=
    fun l g => sameBytes_writeWord s.mem a w (by omega)
  exact
    ⟨{ Stays.refl own s with
        requestWords := fun _ => same (by decide) (by decide), modeResult := fun _ => same (by decide) (by decide)
        faultCause := fun _ => .inl rfl, memory := fun ok => writeWord_wf ok _ _
        staged := fun no => h.elim (fun low => absurd (staged low) no) fun high =>
          sameBytes_writeWord s.mem a w (.inl (le_trans (by decide) high))
        spare := same (by decide) (by decide)
        page := fun ok => pageOk_of_sameBytes ok (same (by decide) (by decide))
          ⟨ok.duty, ok.pwm, ok.scanFits, ok.batchFits, ok.stdFits⟩
        store := fun _ no => absurd store no },
      .inl ⟨rfl, fun _ => rfl, fun _ => same (by decide) (by decide), fun _ => same (by decide) (by decide),
        fun _ => same (by decide) (by decide)⟩,
      .inl ⟨rfl, same (by decide) (by decide), fun _ => rfl, fun _ => ⟨rfl, rfl⟩, fun _ => rfl⟩⟩

theorem storeBase_le_of_isStateWord {a : Nat} (h : isStateWord a = true) : storeBase ≤ a := by
  unfold isStateWord at h
  simpa using (Bool.and_eq_true_iff.1 h).1

theorem hostWriteMem_evolves (wa : BitVec 16) (v : Word) (staged : .staged ∈ own) (store : .store ∈ own) :
    Evolves own s { s with mem := hostWriteMem s.mem wa v } := by
  unfold hostWriteMem
  dsimp only
  split
  · rename_i h
    refine hostWord_evolves _ v (fun _ => staged) store (h.imp (fun low => ?_) storeBase_le_of_isStateWord)
    simp only [activeBase] at low ⊢
    omega
  · exact .refl _ _

end Sys2Proof.Proofs
end

section
/-!
PROOFS. The statements over all commands, read off `Evolves`: what every step keeps and what every command leaves.
-/
namespace Sys2Proof.Proofs

open Sys2Proof.Machine Sys2Proof.Laws

variable {s t : State}

/-! ## Every command -/

/-- What each command may move besides what every event may. -/
def owned : Instr → Set Reg
  | .startUpCompletion => { .life, .position, .panel, .line, .gate, .requestWords, .modeResult }
  | .apply => { .gate }
  | .mode => { .request, .requestWords, .history, .edges, .filters, .armed, .gate, .modeResult }
  | .modeReq _ _ => { .request, .requestWords, .gate, .modeResult }
  | .stdNow _ | .faultAck _ => { .gate, .modeResult }
  | .breakAck _ => { .history, .edges, .filters, .gate, .modeResult }
  | .arm _ => { .history, .armed, .gate, .modeResult }
  | .restart => { .cause, .gate, .position, .panel, .filters }
  | .unknownCode _ => { .gate }
  | .noticeWrite _ => { .notices }
  | .noticeMaskWrite _ => { .mask }
  | .exchangeMemoryWrite _ _ => { .staged, .store }
  | .stateWordWrite _ _ => { .store }
  | .frameStart => { .frameCounter }
  | .frameReceived _ => { .refs, .batch, .history }
  | .batchFull => { .batch }
  | .gaugeCueFire _ => { .history }
  | .measureEnd => { .refs }
  | .driveIntervalExpiry | .arrival => { .history, .edges, .filters, .batch }
  | .encoderStep _ _ | .frontLimActive | .fieldInputInactive _ => { .pins, .position }
  | .backLimActive | .drvFaultActive | .panelInputChange _ _ | .breakInChange _ => { .pins }
  | .panelDebounceExpiry _ => { .panel }
  | .lineDebounceExpiry => { .line, .history, .edges, .filters }
  | .breakResume => { .history, .edges, .filters }
  | .coldReset | .starting | .pendingApplyTaken | .otherRegisterWrite _ _ | .echoTimeout | .linkGoesDown | .linkGoesUp
  | .standardizeStart | .settleEnd | .stall | .edgeMissLimitReached _ | .alarmStreakReached _ | .dwellExpiry => ∅

/-- A choice between an operation and nothing. -/
theorem ite_evolves {own : Set Reg} {p : Prop} [Decidable p] (h : Evolves own s t) : Evolves own s (if p then t else s) := by
  split
  · exact h
  · exact .refl _ _

theorem applyNow_pending_evolves {own : Set Reg} (pending : s.ex.applyPending = true) : Evolves own s s.applyNow := by
  have taken := applyPoint_evolves (own := own) (s := s)
  rw [applyPoint_pending s pending] at taken
  exact taken.settle

theorem pendingApplyTaken_evolves {own : Set Reg} :
    Evolves own s (if s.ex.applyPending && s.atApplyPoint then s.applyNow else s) := by
  split
  · rename_i h
    exact applyNow_pending_evolves (Bool.and_eq_true_iff.1 h).1
  · exact .refl _ _

/-- Every command but the resets and APPLY stays in `Evolves` for what it owns. -/
theorem exec_evolves (c : Instr) (coldReset : c ≠ .coldReset) (starting : c ≠ .starting) (apply : c ≠ .apply)
    (h : exec c s = .next t) : Evolves (owned c) s t := by
  cases c with
  | coldReset => exact absurd rfl coldReset
  | starting => exact absurd rfl starting
  | apply => exact absurd rfl apply
  | startUpCompletion =>
    cases h
    exact ite_evolves ((startUpComplete_evolves (by simp [owned]) (by simp [owned]) (by simp [owned]) (by simp [owned])
      (by simp [owned]) (by simp [owned]) (by simp [owned])).trans endEvent_evolves)
  | pendingApplyTaken => cases h; exact event_evolves pendingApplyTaken_evolves
  | mode =>
    cases h
    exact event_evolves (modeWrite_evolves _ _ _ _ _ _ (by simp [owned]) (by simp [owned]) (by simp [owned])
      (by simp [owned]) (by simp [owned]) (by simp [owned]) (by simp [owned]) (by simp [owned]))
  | modeReq req holdPos =>
    cases h
    exact event_evolves ((takeRequests_evolves _ _ _ (by simp [owned]) (by simp [owned])).trans
      (concludeMode_evolves _ (by simp [owned]) (by simp [owned])))
  | stdNow v =>
    cases h
    refine event_evolves (Evolves.trans ?_ (concludeMode_evolves _ (by simp [owned]) (by simp [owned])))
    split
    · exact .refl _ _
    · exact (takeStdNow_evolves v).trans (handGoal_evolves _)
  | breakAck v =>
    cases h
    exact event_evolves ((takeBreakAck_evolves v (by simp [owned]) (by simp [owned]) (by simp [owned])).trans
      (concludeMode_evolves _ (by simp [owned]) (by simp [owned])))
  | faultAck v =>
    cases h
    exact event_evolves ((takeFaultAck_evolves v).trans (concludeMode_evolves _ (by simp [owned]) (by simp [owned])))
  | arm v =>
    cases h
    exact event_evolves ((takeArm_evolves v (by simp [owned]) (by simp [owned])).trans
      (concludeMode_evolves _ (by simp [owned]) (by simp [owned])))
  | restart =>
    cases h
    exact ite_evolves ((warmReset_evolves (by simp [owned]) (by simp [owned]) (by simp [owned]) (by simp [owned])
      (by simp [owned])).trans endEvent_evolves)
  | unknownCode code =>
    cases h
    exact ite_evolves ((setResult_evolves _ (by simp [owned])).trans (setNotice_evolves _))
  | noticeWrite v =>
    cases h
    refine ite_evolves ⟨{ Stays.refl _ s with
        notices := fun no => absurd (by simp [owned]) no, faultCause := fun no => absurd (by simp [owned]) no
        page := fun ok => pageOk_of_sameBytes ok (sameBytes_refl _ _ _)
          ⟨ok.duty, ok.pwm, ok.scanFits, ok.batchFits, ok.stdFits⟩ },
      .inl { GateStill.refl _ s with }, .inl { PageHeld.refl _ s with }⟩
  | noticeMaskWrite v =>
    cases h
    refine ite_evolves ⟨{ Stays.refl _ s with
        mask := fun no => absurd (by simp [owned]) no, faultCause := fun _ => .inl rfl
        page := fun ok => pageOk_of_sameBytes ok (sameBytes_refl _ _ _)
          ⟨ok.duty, ok.pwm, ok.scanFits, ok.batchFits, ok.stdFits⟩ },
      .inl { GateStill.refl _ s with }, .inl { PageHeld.refl _ s with }⟩
  | otherRegisterWrite sel v => cases h; exact .refl _ _
  | exchangeMemoryWrite wa v =>
    cases h
    exact ite_evolves (hostWriteMem_evolves wa v (by simp [owned]) (by simp [owned]))
  | stateWordWrite k v =>
    cases h
    refine ite_evolves (hostWord_evolves _ v (fun low => ?_) (by simp [owned]) (.inr (Nat.le_add_right _ _)))
    simp only [frameBase, storeBase, activeBase] at low
    omega
  | frameStart => cases h; exact ite_evolves (frameStart_evolves (by simp [owned]))
  | frameReceived slots =>
    cases h
    exact event_evolves (frameReceived_evolves slots (by simp [owned]) (by simp [owned]) (by simp [owned]))
  | echoTimeout => cases h; exact event_evolves (ite_evolves echoTimeout_evolves)
  | linkGoesDown => cases h; exact event_evolves (ite_evolves (linkDown_evolves _))
  | linkGoesUp => cases h; exact event_evolves (ite_evolves linkUp_evolves)
  | batchFull => cases h; exact event_evolves (checkBatchFull_evolves (by simp [owned]))
  | gaugeCueFire cuePos => cases h; exact event_evolves (gaugeDeclare_evolves cuePos (by simp [owned]))
  | standardizeStart => cases h; exact event_evolves stdStart_evolves
  | settleEnd => cases h; exact event_evolves (ite_evolves settleEnd_evolves)
  | measureEnd => cases h; exact event_evolves (ite_evolves (measureEnd_evolves (by simp [owned])))
  | driveIntervalExpiry =>
    cases h
    exact event_evolves (driveExpiry_evolves (by simp [owned]) (by simp [owned]) (by simp [owned]) (by simp [owned]))
  | arrival =>
    cases h
    exact event_evolves (ite_evolves
      (arrive_evolves (by simp [owned]) (by simp [owned]) (by simp [owned]) (by simp [owned])))
  | stall => cases h; exact event_evolves (ite_evolves (fault_evolves _))
  | edgeMissLimitReached side => cases h; exact event_evolves (edgeMissReached_evolves side)
  | alarmStreakReached i => cases h; exact event_evolves (streakReached_evolves i)
  | dwellExpiry => cases h; exact event_evolves dwellExpiry_evolves
  | encoderStep a b =>
    cases h
    exact (setPins_evolves _ (by simp [owned])).trans (event_evolves (countStep_evolves _ (by simp [owned])))
  | frontLimActive =>
    cases h
    exact fieldActive_evolves _ (by simp [owned]) fun _ => frontLimEvent_evolves (by simp [owned])
  | backLimActive => cases h; exact fieldActive_evolves _ (by simp [owned]) fun _ => backLimEvent_evolves
  | drvFaultActive => cases h; exact fieldActive_evolves _ (by simp [owned]) fun _ => drvFaultEvent_evolves
  | fieldInputInactive i =>
    cases h
    have pins := setPins_evolves (s := s) (s.pins.setField i false) (own := owned (.fieldInputInactive i)) (by simp [owned])
    split
    · refine pins.trans ?_
      cases i <;> exact Calm.evolves { position := fun no => absurd (by simp [owned]) no }
    · exact pins
  | panelInputChange i active =>
    cases h
    split
    · exact .refl _ _
    · exact (setPins_evolves _ (by simp [owned])).trans (event_evolves (panelChange_evolves i))
  | panelDebounceExpiry i => cases h; exact event_evolves (panelExpiry_evolves i (by simp [owned]))
  | breakInChange active =>
    cases h
    split
    · exact .refl _ _
    · exact (setPins_evolves _ (by simp [owned])).trans (event_evolves (Calm.evolves { }))
  | lineDebounceExpiry =>
    cases h
    exact event_evolves (lineExpiry_evolves (by simp [owned]) (by simp [owned]) (by simp [owned]) (by simp [owned]))
  | breakResume =>
    cases h
    exact event_evolves (checkResume_evolves (by simp [owned]) (by simp [owned]) (by simp [owned]))

/-- What holds of every command but the resets: its frame, and the page held or the generation raised by one (R12). -/
structure Moves (own : Set Reg) (s t : State) : Prop where
  frame : Stays own s t
  page : PageHeld own s t ∨ t.ex.generation = s.ex.generation + 1

theorem Evolves.moves {own : Set Reg} (h : Evolves own s t) : Moves own s t :=
  ⟨h.frame, h.page.imp_right fun ⟨_, _, g⟩ => g⟩

/-- A change with no apply in it, and then an event's operations. -/
theorem Moves.of_held {own : Set Reg} {u : State} (frame : Stays own s t) (held : PageHeld own s t) (e : Evolves own t u) :
    Moves own s u :=
  ⟨frame.trans e.frame, e.page.imp held.trans fun ⟨_, _, g⟩ => g.trans (by rw [held.generation])⟩

/-- An apply, and then an event's operations, which take no other. -/
theorem ApplyTaken.moves {own : Set Reg} {u : State} (h : ApplyTaken own s t) (e : Evolves own t u) : Moves own s u := by
  have held := e.pageHeld h.idle
  exact ⟨h.frame.trans e.frame, h.page.imp (·.trans held) held.generation.trans⟩

theorem applyWrite_moves {own : Set Reg} (gate : .gate ∈ own) : Moves own s s.applyWrite.endEvent := by
  unfold State.applyWrite
  split
  · exact (((setResult_evolves _ gate).trans (setNotice_evolves _)).trans endEvent_evolves).moves
  · split
    · exact (applyTake_taken own s).moves ((Evolves.refl own s.applyTake.state).settle.trans endEvent_evolves)
    · have set : Stays own s { s with ex := { s.ex with applyPending := true } } := setGate_stays true _ _
      refine Moves.of_held (set.trans (gateWords_stays 0x004 [1] (.inl (by decide)))) ?_ endEvent_evolves
      exact ⟨rfl, live_sameBytes _ 0x004 1 (.inl (by decide)), fun _ => rfl, fun _ => ⟨rfl, rfl⟩, fun _ => rfl⟩

theorem exec_moves (c : Instr) (coldReset : c ≠ .coldReset) (starting : c ≠ .starting) (h : exec c s = .next t) :
    Moves (owned c) s t := by
  by_cases apply : c = .apply
  · subst apply
    cases h
    unfold State.event
    split
    · exact applyWrite_moves rfl
    · exact (Evolves.refl _ s).moves
  · exact (exec_evolves c coldReset starting apply h).moves

/-! ## The resets -/

theorem lookup_filter_key (p : Nat → Bool) (m : Mem) (a : Nat) :
    (m.filter (fun c => p c.1)).lookup a = if p a then m.lookup a else none := by
  induction m with
  | nil => simp
  | cons c t ih =>
    obtain ⟨k, w⟩ := c
    cases hk : p k with
    | false =>
      rw [List.filter_cons_of_neg (by simp [hk]), ih, lookup_cons]
      by_cases e : a = k
      · simp [e, hk]
      · simp [e]
    | true =>
      rw [List.filter_cons_of_pos (by simp [hk]), lookup_cons, ih, lookup_cons]
      by_cases e : a = k
      · simp [e, hk]
      · simp [e]

/-- The memory after STARTING: the words of the record frames but the state words as they were, every other byte at its
reset content (R25). -/
theorem readByte_startingMem (m : Mem) (a : Nat) :
    readByte (startingMem m) a =
      if storeBase ≤ a ∧ isStateWord (a - a % 4) = false then readByte m a else resetByte a := by
  have found := lookup_filter_key (fun k => decide (storeBase ≤ k) && !isStateWord (k - k % 4)) m a
  unfold readByte startingMem
  rw [found]
  by_cases kept : storeBase ≤ a ∧ isStateWord (a - a % 4) = false
  · rw [if_pos kept, if_pos (by simp [kept.1, kept.2])]
  · rw [if_neg kept, if_neg (by simpa using kept)]
    rfl

theorem startingMem_sameBytes (m : Mem) : SameBytes (startingMem m) [] 0 storeBase := fun a _ high => by
  rw [readByte_startingMem, if_neg fun h => absurd h.1 (Nat.not_le.2 high)]
  rfl

theorem reset_pageFine : PageFine State.reset.page := by
  have fields : checkPlan State.reset.page = none ∧ checkBins State.reset.page = none ∧
      State.reset.page.cruiseDuty ≤ 1000 ∧ State.reset.page.creepDuty ≤ 1000 ∧ State.reset.page.returnDuty ≤ 1000 ∧
      State.reset.page.homeDuty ≤ 1000 ∧ State.reset.page.minDuty ≤ 1000 := by
    decide +kernel
  obtain ⟨plan, bins, cruise, creep, ret, home, low⟩ := fields
  exact ⟨plan, bins, cruise, creep, ret, home, low⟩

theorem coldState_workFits (s : State) (active : Bool) (m : Mem) : WorkFits (s.coldState active m) :=
  ⟨Nat.zero_le _, Nat.zero_le _, nofun, nofun, nofun⟩

/-! ## The idle step -/

/-- Putting expiries into the queue changes the queue and the index of its ties alone. -/
theorem enqueue_eq (cs : List Instr) (s : State) :
    enqueue s cs = { s with pending := (enqueue s cs).pending, tieIndex := (enqueue s cs).tieIndex } := by
  induction cs generalizing s with
  | nil => rfl
  | cons c cs ih =>
    unfold enqueue
    split <;> exact ih _

theorem tick_memoryOk (ok : s.MemoryOk) : s.tick.MemoryOk := by
  unfold State.tick
  dsimp only
  split
  · rw [enqueue_eq]; exact ok
  · exact ok

theorem pwmTick_le {tr : Traverse} (duty : tr.duty ≤ 1000) (pwm : tr.pwmDuty ≤ 1000) :
    tr.pwmTick.duty ≤ 1000 ∧ tr.pwmTick.pwmDuty ≤ 1000 := by
  unfold Traverse.pwmTick
  split
  · exact ⟨duty, duty⟩
  · exact ⟨duty, pwm⟩

theorem tick_pageOk (ok : s.PageOk) : s.tick.PageOk := by
  obtain ⟨duty, pwm⟩ := pwmTick_le ok.duty ok.pwm
  unfold State.tick
  dsimp only
  split
  · rw [enqueue_eq]
    exact ⟨ok.plan, ok.bins, ok.cruise, ok.creep, ok.ret, ok.home, ok.min, duty, pwm, ok.scanFits, ok.batchFits,
      ok.stdFits⟩
  · exact ok

/-- A step keeps what the idle step and every command keep. -/
theorem step_keeps {P : State → Prop} (queue : ∀ (s : State) (q : List Instr), P s → P { s with pending := q })
    (idle : ∀ s, P s → P s.tick) (command : ∀ (c : Instr) (s t : State), P s → exec c s = .next t → P t) (ok : P s)
    (h : step s = .next t) : P t := by
  unfold step at h
  split at h
  · cases h; exact idle s ok
  · exact command _ _ t (queue s _ ok) h

/-! ## Invariants that every step keeps -/

theorem exec_memoryOk (c : Instr) (s t : State) (ok : s.MemoryOk) (h : exec c s = .next t) : t.MemoryOk := by
  by_cases coldReset : c = .coldReset
  · subst coldReset; cases h; exact ok
  · by_cases starting : c = .starting
    · subst starting; cases h; exact startingMem_wf ok
    · exact (exec_moves c coldReset starting h).frame.memory ok

theorem exec_pageOk (c : Instr) (s t : State) (ok : s.PageOk) (h : exec c s = .next t) : t.PageOk := by
  by_cases coldReset : c = .coldReset
  · subst coldReset
    cases h
    exact pageOk_of_sameBytes ok (sameBytes_refl _ _ _) (coldState_workFits s _ _)
  · by_cases starting : c = .starting
    · subst starting
      cases h
      exact (pageOk_iff _).2 ⟨reset_pageFine.congr fun _ ho => page_of_sameBytes (s := State.reset)
        (sameBytes_mono (startingMem_sameBytes s.mem) (by decide) (by decide)) ho, coldState_workFits s _ _⟩
    · exact (exec_moves c coldReset starting h).frame.page ok

/-- Settles O5: the idle step leaves the memory, and every command writes it by whole words in canonical form. -/
theorem stepKeepsMemoryCanonical : Obligations.StepKeepsMemoryCanonical := fun _ _ =>
  step_keeps (fun _ _ => id) (fun _ => tick_memoryOk) exec_memoryOk

/-- Settles O7. -/
theorem stepKeepsPageOk : Obligations.StepKeepsPageOk := fun _ _ =>
  step_keeps (fun _ _ ok => ⟨ok.plan, ok.bins, ok.cruise, ok.creep, ok.ret, ok.home, ok.min, ok.duty, ok.pwm,
    ok.scanFits, ok.batchFits, ok.stdFits⟩) (fun _ => tick_pageOk) exec_pageOk

/-- Settles O8: at most one apply is taken in an event. -/
theorem activePageChangesWithGeneration : Obligations.ActivePageChangesWithGeneration :=
  fun c _ _ coldReset starting h =>
    (exec_moves c coldReset starting h).page.imp_left fun held => ⟨held.generation, held.active⟩

/-! ## Frames over all commands -/

/-- COLD_RESET leaves the memory. -/
theorem exec_coldReset_mem (h : exec .coldReset s = .next t) : t.mem = s.mem := by cases h; rfl

/-- Settles O10. -/
theorem stagedPageFrame : Obligations.StagedPageFrame := by
  intro c s t hostWrite starting h
  by_cases coldReset : c = .coldReset
  · subst coldReset
    rw [exec_coldReset_mem h]
    exact ⟨sameBytes_refl _ _ _, sameBytes_refl _ _ _⟩
  · have frame := (exec_moves c coldReset starting h).frame
    refine ⟨frame.staged ?_, frame.spare⟩
    cases c with
    | exchangeMemoryWrite wa v => exact absurd rfl (hostWrite wa v)
    | _ => simp [owned]

/-- Settles O11: a record is written into a frame whose state word holds FREE alone, and fits it. -/
theorem recordFramesAreHosts : Obligations.RecordFramesAreHosts := by
  intro c s t k ok hostWrite stateWord starting h busy
  by_cases coldReset : c = .coldReset
  · subst coldReset
    rw [exec_coldReset_mem h]
    exact sameBytes_refl _ _ _
  · refine (exec_moves c coldReset starting h).frame.store ok ?_ k busy
    cases c with
    | exchangeMemoryWrite wa v => exact absurd rfl (hostWrite wa v)
    | stateWordWrite j v => exact absurd rfl (stateWord j v)
    | _ => simp [owned]

end Sys2Proof.Proofs
end

section
/-!
PROOFS. What each command leaves as it was, register by register (RegisterFrames), and the resets.
-/
namespace Sys2Proof.Proofs

open Sys2Proof.Machine Sys2Proof.Laws

variable {s t : State}

/-! ## Who owns a register -/

theorem owned_life {c : Instr} (h : .life ∈ owned c) : c = .startUpCompletion := by cases c <;> simp_all [owned]
theorem owned_cause {c : Instr} (h : .cause ∈ owned c) : c = .restart := by cases c <;> simp_all [owned]
theorem owned_mask {c : Instr} (h : .mask ∈ owned c) : ∃ v, c = .noticeMaskWrite v := by cases c <;> simp_all [owned]
theorem owned_frameCounter {c : Instr} (h : .frameCounter ∈ owned c) : c = .frameStart := by
  cases c <;> simp_all [owned]
theorem owned_request {c : Instr} (h : .request ∈ owned c) : c = .mode ∨ ∃ r p, c = .modeReq r p := by
  cases c <;> simp_all [owned]
theorem owned_armed {c : Instr} (h : .armed ∈ owned c) : c = .mode ∨ ∃ v, c = .arm v := by cases c <;> simp_all [owned]
theorem owned_line {c : Instr} (h : .line ∈ owned c) : c = .lineDebounceExpiry ∨ c = .startUpCompletion := by
  cases c <;> simp_all [owned]
theorem owned_panel {c : Instr} (h : .panel ∈ owned c) :
    (∃ i, c = .panelDebounceExpiry i) ∨ c = .startUpCompletion ∨ c = .restart := by cases c <;> simp_all [owned]
theorem owned_position {c : Instr} (h : .position ∈ owned c) : (∃ a b, c = .encoderStep a b) ∨ c = .frontLimActive ∨
    (∃ i, c = .fieldInputInactive i) ∨ c = .startUpCompletion ∨ c = .restart := by cases c <;> simp_all [owned]
theorem owned_notices {c : Instr} (h : .notices ∈ owned c) : ∃ v, c = .noticeWrite v := by cases c <;> simp_all [owned]
theorem owned_refs {c : Instr} (h : .refs ∈ owned c) : c = .measureEnd ∨ ∃ slots, c = .frameReceived slots := by
  cases c <;> simp_all [owned]
theorem owned_edges {c : Instr} (h : .edges ∈ owned c) : c = .arrival ∨ c = .driveIntervalExpiry ∨ c = .mode ∨
    (∃ v, c = .breakAck v) ∨ c = .lineDebounceExpiry ∨ c = .breakResume := by cases c <;> simp_all [owned]
theorem owned_filters {c : Instr} (h : .filters ∈ owned c) : c = .restart ∨ .edges ∈ owned c := by
  cases c <;> simp_all [owned]

/-! ## The position where a command sets the level of the front switch -/

/-- The levels are taken before the head may home (R26, R56). -/
theorem startUpCompletion_position (h : exec .startUpCompletion s = .next t) :
    t.trav.position = s.trav.position ∨ t.trav.frontLim = true := by
  cases h
  have rest : Evolves { .gate, .requestWords, .modeResult } s.startUp s.startUpComplete.endEvent :=
    (((((((liveExchange_evolves (.inl rfl) (.inr (.inl rfl)) (.inr (.inr rfl))).trans liveBlocks_evolves).trans
      liveTables_evolves).trans (raiseAlarm_evolves _ _)).trans (setNotice_evolves .restarted)).trans
      startGoal_evolves).trans (takeGoalStill_evolves _ _)).trans endEvent_evolves
  split
  · exact (rest.frame.position (by simp)).2
  · exact .inl rfl

/-- A warm reset leaves the position until the head takes the goal (R72). -/
theorem warmTraverse_position (s : State) : s.warmTraverse.trav.position = s.trav.position :=
  State.setHead_position _ _

theorem warmExchange_trav (s : State) : s.warmExchange.trav = s.trav := State.gateIdle_trav _

theorem warmDiscard_trav (s : State) : s.warmDiscard.trav = s.trav := State.discardScan_trav s

theorem restart_position (h : exec .restart s = .next t) :
    t.trav.position = s.trav.position ∨ t.trav.frontLim = true := by
  cases h
  split
  · have rest : Evolves { .panel } s.warmExchange.warmDiscard.warmTraverse s.warmReset.endEvent :=
      (((warmLink_evolves.trans warmBreak_evolves).trans (warmArbiter_evolves (Set.mem_singleton _))).trans
        (takeGoalStill_evolves _ _)).trans endEvent_evolves
    have position := (rest.frame.position (by simp)).2
    rwa [warmTraverse_position, warmDiscard_trav, warmExchange_trav] at position
  · exact .inl rfl

theorem fieldInputInactive_position {i : FieldInput} (h : exec (.fieldInputInactive i) s = .next t) :
    t.trav.position = s.trav.position := by
  cases h
  split
  · cases i <;> rfl
  · rfl

theorem exec_position {c : Instr} (coldReset : c ≠ .coldReset) (starting : c ≠ .starting)
    (encoder : ∀ a b, c ≠ .encoderStep a b) (frontLim : c ≠ .frontLimActive) (h : exec c s = .next t) :
    t.trav.position = s.trav.position ∨ t.trav.frontLim = true := by
  by_cases own : Reg.position ∈ owned c
  · rcases owned_position own with ⟨a, b, rfl⟩ | rfl | ⟨i, rfl⟩ | rfl | rfl
    · exact absurd rfl (encoder a b)
    · exact absurd rfl frontLim
    · exact .inl (fieldInputInactive_position h)
    · exact startUpCompletion_position h
    · exact restart_position h
  · exact ((exec_moves c coldReset starting h).frame.position own).2

theorem exec_faultCause {c : Instr} (coldReset : c ≠ .coldReset) (starting : c ≠ .starting) (h : exec c s = .next t) :
    t.trav.faultCause = s.trav.faultCause ∨ t.noticeSet .headFault = true := by
  by_cases own : Reg.notices ∈ owned c
  · obtain ⟨v, rfl⟩ := owned_notices own
    cases h
    split <;> exact .inl rfl
  · exact (exec_moves c coldReset starting h).frame.faultCause own

/-- No generation is its own successor. -/
theorem succ_ne_self (g : Word) : g + 1 ≠ g := by bv_omega

/-- With the generation as it was no apply was accepted (R12). -/
theorem exec_pageHeld {c : Instr} (coldReset : c ≠ .coldReset) (starting : c ≠ .starting) (h : exec c s = .next t)
    (same : t.ex.generation = s.ex.generation) : PageHeld (owned c) s t :=
  (exec_moves c coldReset starting h).page.resolve_right fun raised => succ_ne_self _ (raised.symm.trans same)

/-- The queue and the pins, over every command. -/
theorem exec_queue (c : Instr) (h : exec c s = .next t) : t.pending = s.pending ∧ t.tieIndex = s.tieIndex := by
  by_cases coldReset : c = .coldReset
  · subst coldReset; cases h; exact ⟨rfl, rfl⟩
  · by_cases starting : c = .starting
    · subst starting; cases h; exact ⟨rfl, rfl⟩
    · have frame := (exec_moves c coldReset starting h).frame
      exact ⟨frame.pending, frame.tieIndex⟩

/-- Settles O13. -/
theorem registerFrames : Obligations.RegisterFrames := by
  intro c s t h
  refine ⟨exec_queue c h, ?_, ?_⟩
  · intro other
    have coldReset : c ≠ .coldReset := by rintro rfl; exact other
    have starting : c ≠ .starting := by rintro rfl; exact other
    refine (exec_moves c coldReset starting h).frame.pins fun own => ?_
    cases c <;> simp_all [owned]
  · intro coldReset starting
    have frame := (exec_moves c coldReset starting h).frame
    refine ⟨frame.time, fun no => frame.life (mt owned_life no), fun no => frame.cause (mt owned_cause no),
      fun no => frame.mask fun own => ?_, fun no => frame.frameCounter (mt owned_frameCounter no),
      fun mode req => frame.request fun own => ?_, fun mode arm => frame.armed fun own => ?_,
      fun expiry start => frame.line fun own => ?_, fun expiry start restart => frame.panel fun own => ?_,
      fun encoder frontLim => exec_position coldReset starting encoder frontLim h, exec_faultCause coldReset starting h,
      fun same measure received => (exec_pageHeld coldReset starting h same).refs fun own => ?_, ?_⟩
    · obtain ⟨v, e⟩ := owned_mask own
      exact no v e
    · rcases owned_request own with e | ⟨r, p, e⟩
      · exact mode e
      · exact req r p e
    · rcases owned_armed own with e | ⟨v, e⟩
      · exact mode e
      · exact arm v e
    · exact (owned_line own).elim expiry start
    · rcases owned_panel own with ⟨i, e⟩ | e | e
      · exact expiry i e
      · exact start e
      · exact restart e
    · rcases owned_refs own with e | ⟨slots, e⟩
      · exact measure e
      · exact received slots e
    · intro same arrival drive mode ack expiry resume
      have held := exec_pageHeld coldReset starting h same
      have edges : Reg.edges ∉ owned c := fun own => by
        rcases owned_edges own with e | e | e | ⟨v, e⟩ | e | e
        · exact arrival e
        · exact drive e
        · exact mode e
        · exact ack v e
        · exact expiry e
        · exact resume e
      obtain ⟨front, back⟩ := held.edges edges
      exact ⟨front, back, fun restart => held.filters fun own => (owned_filters own).elim restart edges⟩

end Sys2Proof.Proofs
end

section
/-!
PROOFS. The state after reset, the resets, the step.
-/
namespace Sys2Proof.Proofs

open Sys2Proof.Machine Sys2Proof.Laws

/-! ## What an unlisted word reads as -/

theorem resetByte_word (a i : Nat) (ha : a % 4 = 0) (hi : i < 4) : resetByte (a + i) = byteOf (resetWord a) i := by
  unfold resetByte
  rw [show (a + i) % 4 = i by omega, Nat.add_sub_cancel]

/-- An aligned word of a memory that is at its reset content there. -/
theorem readWord_of_resetBytes {m : Mem} {a : Nat} (ha : a % 4 = 0)
    (h : ∀ b, a ≤ b → b < a + 4 → readByte m b = resetByte b) : readWord m a = resetWord a := by
  unfold readWord
  rw [h a (by omega) (by omega), h (a + 1) (by omega) (by omega), h (a + 2) (by omega) (by omega),
    h (a + 3) (by omega) (by omega), resetByte_word a 1 ha (by decide), resetByte_word a 2 ha (by decide),
    resetByte_word a 3 ha (by decide)]
  have zero := resetByte_word a 0 ha (by decide)
  rw [Nat.add_zero] at zero
  rw [zero]
  exact byteOf_append _

theorem resetWord_staged {off : Nat} (h : off < 0x4000) : resetWord (stagedBase + off) = defaultPageWord off := by
  unfold resetWord
  rw [if_pos (by simp only [stagedBase, liveBase]; omega)]
  congr 1
  simp only [stagedBase, activeBase]
  omega

theorem resetWord_active {off : Nat} (h : off < 0x4000) : resetWord (activeBase + off) = defaultPageWord off := by
  unfold resetWord
  rw [if_pos (by simp only [activeBase, liveBase]; omega)]
  congr 1
  simp only [activeBase]
  omega

/-- The live area, the history and the not-implemented range are 0 after a cold reset. -/
theorem resetByte_live {a : Nat} (lo : liveBase ≤ a) (hi : a < storeBase) : resetByte a = 0 := by
  have zero : resetWord (a - a % 4) = 0 := by
    have low : ¬ a - a % 4 < liveBase := by simp only [liveBase] at lo ⊢; omega
    have high : isStateWord (a - a % 4) ≠ true := fun word => by
      have store := storeBase_le_of_isStateWord word
      omega
    rw [resetWord, if_neg low, if_neg high]
  unfold resetByte
  rw [zero]
  simp [byteOf]

theorem isStateWord_frameBase (k : Nat) : isStateWord (frameBase k) = true := by
  unfold isStateWord frameBase
  rw [Nat.add_sub_cancel_left, Nat.mul_mod_left, decide_eq_true (Nat.le_add_right _ _)]
  rfl

theorem frameBase_aligned (k : Nat) : frameBase k % 4 = 0 := by
  simp only [frameBase, storeBase, frameSize]
  omega

theorem resetWord_frameBase (k : Nat) : resetWord (frameBase k) = freeCode := by
  unfold resetWord
  rw [if_neg (by simp only [frameBase, storeBase, liveBase]; omega), if_pos (isStateWord_frameBase k)]

/-! ## Reset (R25) -/

/-- The default page stands in both pages of a memory that is at its reset content below the record store. -/
theorem defaultPages {m : Mem} (h : SameBytes m [] 0 storeBase) {off : Nat} (hi : off < 0x4000) (aligned : off % 4 = 0) :
    readWord m (stagedBase + off) = defaultPageWord off ∧ readWord m (activeBase + off) = defaultPageWord off := by
  constructor
  · rw [← resetWord_staged hi]
    refine readWord_of_resetBytes (by simp only [stagedBase]; omega) fun b _ hb => h b (Nat.zero_le _) ?_
    simp only [stagedBase, storeBase] at hb ⊢
    omega
  · rw [← resetWord_active hi]
    refine readWord_of_resetBytes (by simp only [activeBase]; omega) fun b _ hb => h b (Nat.zero_le _) ?_
    simp only [activeBase, storeBase] at hb ⊢
    omega

theorem zeroBytes {m : Mem} (h : SameBytes m [] 0 storeBase) {a : Nat} (lo : liveBase ≤ a) (hi : a < storeBase) :
    readByte m a = 0 := (h a (Nat.zero_le _) hi).trans (resetByte_live lo hi)

/-- Settles O1: the registers by their defaults, the memory by what an unlisted address reads as. -/
theorem resetState : Obligations.ResetState := by
  have registers : ∀ c : Fin 8, (Vector.replicate 8 ({ } : RefRecord))[c] = { } ∧ (Vector.replicate 8 false)[c] = false :=
    fun c => ⟨Vector.getElem_replicate _, Vector.getElem_replicate _⟩
  have plan : State.reset.page.pEnd = 10000 ∧ State.reset.page.fTurn = 500 ∧ State.reset.page.bTurn = 9500 ∧
      State.reset.page.samplePeriod = 1000 := by decide +kernel
  obtain ⟨pEnd, fTurn, bTurn, period⟩ := plan
  refine ⟨rfl, rfl, rfl, rfl, rfl, rfl, rfl, rfl, rfl, rfl, rfl, rfl, rfl, rfl, rfl, rfl, rfl, rfl, rfl, rfl, rfl, rfl,
    rfl, rfl, rfl, rfl, rfl, rfl, rfl, rfl, rfl, rfl, rfl, rfl, rfl, rfl, rfl, rfl, rfl, rfl, rfl, rfl, rfl, registers,
    rfl, rfl, rfl, rfl, rfl, rfl, rfl, rfl, rfl, rfl, rfl, fun c => Vector.getElem_replicate _,
    fun i => Vector.getElem_replicate _, rfl, rfl, rfl, rfl, rfl, rfl, rfl, rfl, rfl, pEnd, fTurn, bTurn, period,
    fun off hi aligned => defaultPages (sameBytes_refl _ _ _) hi aligned,
    fun a lo hi => zeroBytes (sameBytes_refl _ _ _) lo hi, fun k => ?_, rfl⟩
  rw [← resetWord_frameBase k.val]
  exact readWord_of_resetBytes (frameBase_aligned _) fun _ _ _ => rfl

/-- The reset state is READY for nothing: no head off the sheet, no work open, the command word at its demand. -/
theorem reset_sound : State.reset.Sound where
  head := ⟨rfl, nofun, rfl, fun _ => rfl, fun _ => rfl, fun _ => rfl, nofun⟩
  goal := ⟨nofun, nofun, fun _ => rfl⟩
  settled := ⟨rfl, rfl, rfl⟩

/-- Settles O2. -/
theorem resetIsSound : Obligations.ResetIsSound :=
  ⟨wf_nil, reset_sound, (pageOk_iff _).2 ⟨reset_pageFine, Nat.zero_le _, Nat.zero_le _, nofun, nofun, nofun⟩⟩

/-- Settles O3. -/
theorem stepTakesFrontCommand : Obligations.StepTakesFrontCommand := fun _ _ _ => rfl

/-- Settles O14. -/
theorem coldResetAndStarting : Obligations.ColdResetAndStarting := by
  refine ⟨fun _ => rfl, fun s ok => ⟨startingMem s.mem, rfl, startingMem_wf ok, ?_, ?_, fun k => ?_, ?_⟩⟩
  · exact fun off hi aligned => defaultPages (startingMem_sameBytes s.mem) hi aligned
  · exact fun a lo hi => zeroBytes (startingMem_sameBytes s.mem) lo hi
  · rw [← resetWord_frameBase k.val]
    refine readWord_of_resetBytes (frameBase_aligned _) fun b lo hi => ?_
    have word : b - b % 4 = frameBase k.val := by
      have aligned := frameBase_aligned k.val
      omega
    rw [readByte_startingMem, if_neg]
    rw [word, isStateWord_frameBase]
    exact fun h => nomatch h.2
  · intro a lo word
    rw [readByte_startingMem, if_pos ⟨lo, word⟩]

/-! ## Host writes while STARTING, unknown codes, notices -/

/-- Settles O17: while STARTING no event is taken (R1, R3, R18). -/
theorem startingDiscardsHostWrites : Obligations.StartingDiscardsHostWrites := by
  intro s starting
  have notReady : s.ex.life ≠ .ready := by rw [starting]; exact nofun
  refine ⟨?_, ?_, ?_, fun code => ?_, fun v => ?_, fun v => ?_, fun _ _ => rfl, fun wa v => ?_, fun k v => ?_⟩
  · exact congrArg Host.Outcome.next (event_starting s _ starting)
  · exact congrArg Host.Outcome.next (event_starting s _ starting)
  · exact congrArg Host.Outcome.next (if_neg notReady)
  · exact congrArg Host.Outcome.next (if_neg fun h => notReady h.1)
  · exact congrArg Host.Outcome.next (if_neg notReady)
  · exact congrArg Host.Outcome.next (if_neg notReady)
  · exact congrArg Host.Outcome.next (if_neg notReady)
  · exact congrArg Host.Outcome.next (if_neg notReady)

theorem unknownGateCode_of_ne {code : Word} (h1 : code ≠ 1) (h2 : code ≠ 2) (h3 : code ≠ 3) :
    unknownGateCode code = true := by
  simp only [unknownGateCode, Bool.and_eq_true, bne_iff_ne]
  exact ⟨⟨h1, h2⟩, h3⟩

/-- REFUSED is bit 6 of NOTICE. -/
theorem maskBit_refused : Notice.refused.maskBit = 64#13 := by decide

/-- Settles O18. -/
theorem unknownCodeRefused : Obligations.UnknownCodeRefused := by
  intro code s h1 h2 h3
  refine ⟨fun ready => ?_, fun starting => ?_⟩
  · exact congrArg Host.Outcome.next (if_pos ⟨ready, unknownGateCode_of_ne h1 h2 h3⟩)
  · obtain ⟨apply, mode, restart, unknown, -⟩ := startingDiscardsHostWrites s starting
    exact ⟨unknown code, apply, mode, restart⟩

theorem Notice.bit_lt (n : Notice) : n.bit < 13 := by cases n <;> decide

/-- Every bit of NOTICE is a flag. -/
theorem exists_notice_of_lt {i : Nat} (h : i < 13) : ∃ n : Notice, n.bit = i := by
  have all : ∀ j : Fin 13, ∃ n ∈ [Notice.record, .recordX, .lost, .brk, .resumed, .applied, .refused, .stdz, .headFault,
      .panel, .link, .alarm, .restarted], n.bit = j.val := by decide
  obtain ⟨n, -, e⟩ := all ⟨i, h⟩
  exact ⟨n, e⟩

/-- NOTICE_L is asserted exactly while some flag and its mask bit are both set (R20). -/
theorem noticeLine_iff {s : State} (ready : s.ex.life = .ready) :
    s.noticeLine = true ↔ ∃ n : Notice, s.noticeSet n = true ∧ s.ex.mask.getLsbD n.bit = true := by
  unfold State.noticeLine State.noticeSet
  rw [ready, decide_eq_true rfl, Bool.true_and, bne_iff_ne]
  constructor
  · intro nonzero
    by_contra none
    refine nonzero (BitVec.eq_of_getLsbD_eq fun i hi => ?_)
    obtain ⟨n, rfl⟩ := exists_notice_of_lt hi
    refine Eq.trans ?_ BitVec.getLsbD_zero.symm
    rw [BitVec.getLsbD_and, Bool.and_eq_false_iff]
    by_contra both
    simp only [not_or, Bool.not_eq_false] at both
    exact none ⟨n, both⟩
  · rintro ⟨n, flag, mask⟩ zero
    have bit := congrArg (·.getLsbD n.bit) zero
    simp [flag, mask] at bit

/-- Settles O19. -/
theorem noticeRegisters : Obligations.NoticeRegisters := by
  intro v s ready
  refine ⟨⟨_, congrArg Host.Outcome.next (if_pos ready), fun n => ?_, rfl, noticeLine_iff ready⟩,
    ⟨_, congrArg Host.Outcome.next (if_pos ready), fun n => ?_, rfl, noticeLine_iff ready⟩, fun _ => rfl⟩
  · have bound := Notice.bit_lt n
    simp [State.noticeSet, bound]
  · have bound := Notice.bit_lt n
    simp [bound]

end Sys2Proof.Proofs
end

section
/-!
PROOFS. Host writes and reads, the record store, and the rows that wait for their threshold.
-/
namespace Sys2Proof.Proofs

open Sys2Proof.Machine Sys2Proof.Laws

variable {s t : State}

/-! ## Bus writes -/

theorem frameOfWa_stateWordWa : ∀ k : Fin 8, frameOfWa (stateWordWa k) = some k := by decide

theorem extractLsb'_setWidth (sel : BitVec 3) : (sel.setWidth 16).extractLsb' 0 3 = sel := by
  revert sel
  decide

theorem decodeGate_of_unknown {code : Word} (h : unknownGateCode code = true) : decodeGate code = .unknownCode code := by
  simp only [unknownGateCode, Bool.and_eq_true, bne_iff_ne] at h
  obtain ⟨⟨h1, h2⟩, h3⟩ := h
  rw [decodeGate, if_neg (by simpa using h1), if_neg (by simpa using h2), if_neg (by simpa using h3)]

theorem decodeRegisterWrite_other {sel : BitVec 3} (h : otherRegister sel = true) (v : Word) :
    decodeRegisterWrite (sel.setWidth 16) v = .otherRegisterWrite sel v := by
  have ne : ∀ n : BitVec 3, n.toNat < 3 → ¬ (sel == n) = true := by
    rintro n hn e
    rw [beq_iff_eq.1 e] at h
    simp only [otherRegister, decide_eq_true_eq] at h
    omega
  unfold decodeRegisterWrite
  dsimp only
  rw [extractLsb'_setWidth, if_neg (ne 0 (by decide)), if_neg (ne 1 (by decide)), if_neg (ne 2 (by decide))]

/-- Settles O22. -/
theorem busWriteRoundTrip : Obligations.BusWriteRoundTrip := by
  intro c b wf h
  cases c with
  | unknownCode code => cases h; exact decodeGate_of_unknown wf
  | otherRegisterWrite sel v => cases h; exact decodeRegisterWrite_other wf v
  | exchangeMemoryWrite wa v =>
    cases frame : frameOfWa wa with
    | some k => simp [busWriteOf, frame] at h
    | none =>
      simp only [busWriteOf, frame, Option.isSome_none, Bool.false_eq_true, if_false, Option.some.injEq] at h
      subst h
      simp [decodeBusWrite, frame]
  | stateWordWrite k v =>
    cases h
    simp [decodeBusWrite, frameOfWa_stateWordWa]
  | _ => cases h <;> rfl

/-! ## Host writes of the exchange memory -/

theorem isStateWord_iff {a : Nat} (h : a < 0x40000) : isStateWord a = true ↔ ∃ k : Fin 8, a = 0x10000 + k.val * 0x6000 := by
  unfold isStateWord
  rw [Bool.and_eq_true, decide_eq_true_eq, decide_eq_true_eq]
  show 0x10000 ≤ a ∧ (a - 0x10000) % 0x6000 = 0 ↔ _
  constructor
  · rintro ⟨lo, mod⟩
    exact ⟨⟨(a - 0x10000) / 0x6000, by omega⟩, by simp only; omega⟩
  · rintro ⟨k, rfl⟩
    omega

theorem hostReadMem_ready (ready : s.ex.life = .ready) (wa : BitVec 16) :
    s.hostReadMem wa = if 0x09800 ≤ 4 * wa.toNat ∧ 4 * wa.toNat < 0x10000 then 0 else readWord s.mem (4 * wa.toNat) := by
  unfold State.hostReadMem
  rw [ready]
  rfl

/-- A word written reads as written outside the not-implemented range, and every other word as before (R1). -/
theorem hostReadMem_writeWord (ready : s.ex.life = .ready) (wa : BitVec 16) (v : Word)
    (range : ¬ (0x09800 ≤ 4 * wa.toNat ∧ 4 * wa.toNat < 0x10000)) (wb : BitVec 16) :
    ({ s with mem := writeWord s.mem (4 * wa.toNat) v } : State).hostReadMem wb =
      if wb = wa then v else s.hostReadMem wb := by
  rw [hostReadMem_ready (s := { s with mem := writeWord s.mem (4 * wa.toNat) v }) ready, hostReadMem_ready ready]
  by_cases same : wb = wa
  · subst same
    rw [if_neg range, if_pos rfl, readWord_writeWord_same]
  · have ne : wb.toNat ≠ wa.toNat := fun e => same (BitVec.eq_of_toNat_eq e)
    rw [if_neg same, readWord_writeWord_other _ _ _ _ (by omega)]

theorem wa_bound (wa : BitVec 16) : 4 * wa.toNat < 0x40000 := by
  have bound := wa.isLt
  omega

/-- Settles O20. -/
theorem exchangeMemoryWrite : Obligations.ExchangeMemoryWrite := by
  constructor
  · intro wa v s ready
    refine ⟨_, congrArg Host.Outcome.next (if_pos ready), ?_⟩
    by_cases accepted : 4 * wa.toNat < activeBase ∨ isStateWord (4 * wa.toNat) = true
    · have range : ¬ (0x09800 ≤ 4 * wa.toNat ∧ 4 * wa.toNat < 0x10000) := by
        rcases accepted with low | word
        · simp only [activeBase] at low; omega
        · have high := storeBase_le_of_isStateWord word
          simp only [storeBase] at high; omega
      have mem : hostWriteMem s.mem wa v = writeWord s.mem (4 * wa.toNat) v := if_pos accepted
      rw [mem]
      refine ⟨fun _ => ?_, fun refused => absurd ?_ refused, fun wb ne => ?_, rfl⟩
      · rw [hostReadMem_writeWord ready wa v range, if_pos rfl]
      · exact accepted.imp id (isStateWord_iff (wa_bound wa)).1
      · rw [hostReadMem_writeWord ready wa v range, if_neg ne]
    · have mem : hostWriteMem s.mem wa v = s.mem := if_neg accepted
      rw [mem]
      refine ⟨fun taken => absurd ?_ accepted, fun _ => rfl, fun _ _ => rfl, rfl⟩
      exact taken.imp id (isStateWord_iff (wa_bound wa)).2
  · intro k v s ready
    refine ⟨_, congrArg Host.Outcome.next (if_pos ready), readWord_writeWord_same _ _ _, fun wb ne => ?_, rfl⟩
    rw [hostReadMem_ready (s := { s with mem := writeWord s.mem (frameBase k.val) v }) ready, hostReadMem_ready ready,
      readWord_writeWord_other]
    simp only [frameBase, storeBase, frameSize]
    omega

/-! ## Host reads -/

theorem getLsbD_ofBool (b : Bool) (i : Nat) : (Word.ofBool b).getLsbD i = (b && decide (i = 0)) := by
  cases b with
  | false => simp [Word.ofBool]
  | true => simp [Word.ofBool]

/-- A word below a power of two has no bit from there on. -/
theorem getLsbD_of_toNat_lt {w : Word} {n i : Nat} (h : w.toNat < 2 ^ n) (hi : n ≤ i) : w.getLsbD i = false :=
  Nat.testBit_lt_two_pow (h.trans_le (Nat.pow_le_pow_right (by decide) hi))

theorem result_code_lt (r : Result) : r.code.toNat < 2 ^ 4 := by cases r <;> decide
theorem breakState_code_lt (b : BreakState) : b.code.toNat < 2 ^ 2 := by cases b <;> decide
theorem headState_code_lt (h : HeadState) : h.code.toNat < 2 ^ 4 := by cases h <;> decide

/-- The bits of a GATE read (Table 11-1). -/
theorem gateWord_getLsbD (s : State) (i : Nat) :
    s.gateWord.getLsbD i = (s.ex.gateResult.code.getLsbD i || (s.ex.applyPending && decide (i = 8))) := by
  unfold State.gateWord
  rw [BitVec.getLsbD_or, BitVec.getLsbD_shiftLeft, getLsbD_ofBool]
  congr 1
  cases s.ex.applyPending
  · simp
  · rw [Bool.eq_iff_iff]
    simp only [Bool.and_eq_true, decide_eq_true_eq, Bool.not_eq_true', decide_eq_false_iff_not, true_and]
    omega

/-- The bits of PART STATE (Table 11-1). -/
theorem partStateWord_getLsbD (s : State) {i : Nat} (hi : i < 32) :
    s.partStateWord.getLsbD i = (((((decide (s.ex.life = .ready) && decide (i = 0)) ||
      (decide (s.ex.cause = .warm) && decide (i = 1))) || (s.link.up && decide (i = 2))) ||
      (decide (4 ≤ i) && s.brk.state.code.getLsbD (i - 4))) ||
      (decide (8 ≤ i) && s.trav.head.code.getLsbD (i - 8))) := by
  have shift : ∀ (b : Bool) (k : Nat), (!decide (i < k) && (b && decide (i - k = 0))) = (b && decide (i = k)) := by
    intro b k
    cases b
    · simp
    · rw [Bool.eq_iff_iff]
      simp only [Bool.and_eq_true, decide_eq_true_eq, Bool.not_eq_true', decide_eq_false_iff_not, true_and]
      omega
  have above : ∀ k : Nat, (!decide (i < k)) = decide (k ≤ i) := fun k => by
    rw [Bool.eq_iff_iff]
    simp
  unfold State.partStateWord
  simp only [BitVec.getLsbD_or, BitVec.getLsbD_shiftLeft, getLsbD_ofBool, hi, decide_true, Bool.true_and, shift]
  simp only [above]

theorem partStateWord_high (s : State) {i : Nat} (h : i = 3 ∨ i = 6 ∨ i = 7 ∨ 12 ≤ i) :
    s.partStateWord.getLsbD i = false := by
  by_cases hi : i < 32
  · rw [partStateWord_getLsbD s hi]
    have brk : (decide (4 ≤ i) && s.brk.state.code.getLsbD (i - 4)) = false := by
      by_cases four : 4 ≤ i
      · rw [getLsbD_of_toNat_lt (breakState_code_lt _) (by omega), Bool.and_false]
      · rw [decide_eq_false four, Bool.false_and]
    have head : (decide (8 ≤ i) && s.trav.head.code.getLsbD (i - 8)) = false := by
      by_cases eight : 8 ≤ i
      · rw [getLsbD_of_toNat_lt (headState_code_lt _) (by omega), Bool.and_false]
      · rw [decide_eq_false eight, Bool.false_and]
    rw [brk, head, decide_eq_false (show ¬ i = 0 by omega), decide_eq_false (show ¬ i = 1 by omega),
      decide_eq_false (show ¬ i = 2 by omega)]
    simp
  · exact BitVec.getLsbD_of_ge _ _ (Nat.le_of_not_lt hi)

theorem partStateWord_break (s : State) : s.partStateWord.extractLsb' 4 2 = s.brk.state.code.setWidth 2 := by
  refine BitVec.eq_of_getLsbD_eq fun i hi => ?_
  rw [BitVec.getLsbD_extractLsb', BitVec.getLsbD_setWidth, partStateWord_getLsbD s (by omega)]
  simp only [hi, decide_true, Bool.true_and, Nat.add_sub_cancel_left, show ¬ 4 + i = 0 by omega,
    show ¬ 4 + i = 1 by omega, show ¬ 4 + i = 2 by omega, show 4 ≤ 4 + i by omega, show ¬ 8 ≤ 4 + i by omega,
    decide_false, Bool.and_false, Bool.false_or, Bool.false_and, Bool.or_false]

theorem partStateWord_head (s : State) : s.partStateWord.extractLsb' 8 4 = s.trav.head.code.setWidth 4 := by
  refine BitVec.eq_of_getLsbD_eq fun i hi => ?_
  rw [BitVec.getLsbD_extractLsb', BitVec.getLsbD_setWidth, partStateWord_getLsbD s (by omega),
    getLsbD_of_toNat_lt (breakState_code_lt _) (show 2 ≤ 8 + i - 4 by omega)]
  simp only [hi, decide_true, Bool.true_and, Nat.add_sub_cancel_left, show ¬ 8 + i = 0 by omega,
    show ¬ 8 + i = 1 by omega, show ¬ 8 + i = 2 by omega, show 8 ≤ 8 + i by omega, decide_false, Bool.and_false,
    Bool.false_or]

theorem partStateWord_link (s : State) : s.partStateWord.getLsbD 2 = s.link.up := by
  rw [partStateWord_getLsbD s (show 2 < 32 by decide)]
  simp

theorem partStateWord_life (s : State) : s.partStateWord.getLsbD 0 = decide (s.ex.life = .ready) := by
  rw [partStateWord_getLsbD s (show 0 < 32 by decide)]
  simp

theorem partStateWord_cause (s : State) : s.partStateWord.getLsbD 1 = decide (s.ex.cause = .warm) := by
  rw [partStateWord_getLsbD s (show 1 < 32 by decide)]
  simp

/-- The register reads while READY, by the register (R185). -/
theorem hostReadRegister_ready (ready : s.ex.life = .ready) :
    s.hostReadRegister 0 = s.gateWord ∧ s.hostReadRegister 1 = s.ex.notice.setWidth 32 ∧
    s.hostReadRegister 2 = s.ex.mask.setWidth 32 ∧ s.hostReadRegister 5 = 0 ∧ s.hostReadRegister 6 = 0 ∧
    s.hostReadRegister 7 = 0 := by
  refine ⟨?_, ?_, ?_, ?_, ?_, ?_⟩ <;> simp [State.hostReadRegister, ready]

/-- The register reads while STARTING (R3). -/
theorem hostReadRegister_starting (starting : s.ex.life = .starting) (sel : BitVec 3) (part : sel ≠ 3) (ident : sel ≠ 4) :
    s.hostReadRegister sel = 0 := by
  rw [State.hostReadRegister, if_neg part, if_neg ident, if_pos starting]

/-- Settles O21. -/
theorem registerReads : Obligations.RegisterReads := by
  refine ⟨fun s ready => ?_, fun s starting => ?_, rfl⟩
  · obtain ⟨gate, notice, mask, five, six, seven⟩ := hostReadRegister_ready ready
    have part : s.hostReadRegister 3 = s.partStateWord := rfl
    rw [gate, notice, mask, part]
    refine ⟨?_, ?_, fun n => ?_, fun n => ?_, ?_, partStateWord_cause s, partStateWord_link s, partStateWord_break s,
      partStateWord_head s, rfl, five, six, seven, fun i hi => ?_, fun i hi => ?_, fun i hi => partStateWord_high s hi,
      hostReadMem_ready ready⟩
    · refine BitVec.eq_of_getLsbD_eq fun i hi => ?_
      rw [BitVec.getLsbD_setWidth, BitVec.getLsbD_setWidth, gateWord_getLsbD, decide_eq_false (show ¬ i = 8 by omega),
        Bool.and_false, Bool.or_false]
    · rw [gateWord_getLsbD, getLsbD_of_toNat_lt (result_code_lt _) (by decide)]
      simp
    · have bound := Notice.bit_lt n
      rw [BitVec.getLsbD_setWidth, decide_eq_true (show n.bit < 32 by omega), Bool.true_and]
      rfl
    · have bound := Notice.bit_lt n
      rw [BitVec.getLsbD_setWidth, decide_eq_true (show n.bit < 32 by omega), Bool.true_and]
    · rw [partStateWord_life, ready]
      rfl
    · rw [gateWord_getLsbD, getLsbD_of_toNat_lt (result_code_lt _) (by omega), decide_eq_false (show ¬ i = 8 by omega)]
      simp
    · rw [BitVec.getLsbD_setWidth, BitVec.getLsbD_setWidth, BitVec.getLsbD_of_ge _ _ hi, BitVec.getLsbD_of_ge _ _ hi]
      simp
  · have part : s.hostReadRegister 3 = s.partStateWord := rfl
    have zero := hostReadRegister_starting starting
    rw [part]
    refine ⟨zero 0 (by decide) (by decide), zero 1 (by decide) (by decide), zero 2 (by decide) (by decide), ?_,
      partStateWord_link s, partStateWord_head s, rfl, zero 5 (by decide) (by decide), zero 6 (by decide) (by decide),
      zero 7 (by decide) (by decide), fun wa => ?_⟩
    · rw [partStateWord_life, starting]
      rfl
    · exact if_pos starting

/-! ## The record store -/

theorem getLsbD_foldl_twoPow (cs : List Nat) (w : Word) (i : Nat) :
    (cs.foldl (fun w c => w ||| BitVec.twoPow 32 c) w).getLsbD i = (w.getLsbD i || (decide (i < 32) && decide (i ∈ cs))) := by
  induction cs generalizing w with
  | nil => simp
  | cons c cs ih =>
    rw [List.foldl_cons, ih, BitVec.getLsbD_or, BitVec.getLsbD_twoPow, Bool.or_assoc]
    congr 1
    by_cases same : c = i
    · subst same
      simp only [List.mem_cons, true_or, decide_true, Bool.and_true]
      cases decide (c < 32) <;> rfl
    · simp [same, Ne.symm same]

theorem getLsbD_presentMask (cs : List Nat) (i : Nat) :
    (presentMask cs).getLsbD i = (decide (i < 32) && decide (i ∈ cs)) := by
  unfold presentMask
  rw [getLsbD_foldl_twoPow]
  simp

/-- The first channel with a property, in ascending order. -/
theorem find?_channels8 {p : Fin 8 → Bool} {d : Fin 8} (found : p d = true) (first : ∀ e, e < d → p e = false) :
    channels8.find? p = some d := by
  have at_ : ∀ d : Fin 8, ∃ h : d.val < channels8.length, channels8[d.val] = d := by decide
  have below : ∀ (d : Fin 8) (j : Nat) (h : j < d.val), ∃ h' : j < channels8.length, channels8[j] < d := by
    intro d j h
    have len : channels8.length = 8 := rfl
    have jlt : j < 8 := by omega
    obtain ⟨h', e⟩ := at_ ⟨j, jlt⟩
    exact ⟨h', by simp only at e; rw [e]; exact h⟩
  rw [List.find?_eq_some_iff_getElem]
  obtain ⟨h, e⟩ := at_ d
  refine ⟨found, d.val, h, e, fun j hj => ?_⟩
  obtain ⟨h', lt⟩ := below d j hj
  rw [first _ lt]
  rfl

/-- The first FREE frame in cyclic order from the pointer (R22). -/
theorem findFree_first {m : Mem} {start d : Fin 8} (free : readWord m (frameBase (start + d).val) = freeCode)
    (first : ∀ e, e < d → readWord m (frameBase (start + e).val) ≠ freeCode) : findFree m start = some (start + d) := by
  unfold findFree
  rw [List.find?_map]
  have found := find?_channels8 (p := (fun k => readWord m (frameBase k.val) == freeCode) ∘ (fun k => start + k))
    (d := d) (by simpa using free) (fun e he => by simpa using first e he)
  rw [found]
  rfl

theorem findFree_eq_none {m : Mem} {start : Fin 8} (busy : ∀ k : Fin 8, readWord m (frameBase k.val) ≠ freeCode) :
    findFree m start = none := by
  unfold findFree
  rw [List.find?_eq_none]
  intro k _
  simpa using busy k

/-- A word of a stored record (R22). -/
theorem stored_word (k : Fin 8) (ws : List Word) (s : State) {i : Nat} (hi : i < ws.length) :
    readWord (stored k ws s).mem (frameBase k.val + 4 * (i + 1)) = ws[i] := by
  have value := readWord_writeWords_get ws s.mem (frameBase k.val + 4) i hi
  rw [show frameBase k.val + 4 + 4 * i = frameBase k.val + 4 * (i + 1) by omega] at value
  rw [← value]
  exact readWord_writeWord_other _ _ _ _ (by omega)

/-- A word of the store after a live word is written. -/
theorem live_storeWord (off : Nat) (w : Word) (s : State) {a : Nat} (bound : off + 4 ≤ 0x8000) (ha : storeBase ≤ a) :
    readWord (s.live off w).mem a = readWord s.mem a :=
  readWord_writeWord_other _ _ _ _ (.inr (by simp only [liveBase, storeBase] at ha ⊢; omega))

theorem noticeSet_setNotice (n : Notice) (s : State) : (s.setNotice n).noticeSet n = true := by
  have bound := Notice.bit_lt n
  simp [State.noticeSet, State.setNotice_notice, Notice.maskBit, bound]

theorem setNotice_noticeSet (n m : Notice) {s : State} (h : s.noticeSet m = true) : (s.setNotice n).noticeSet m = true := by
  unfold State.noticeSet at h ⊢
  rw [State.setNotice_notice, BitVec.getLsbD_or, h, Bool.true_or]

/-- The words of a record as it is stored (Table 11-10). -/
def recordWords (h : RecHeader) (body : List Word) (s : State) : List Word :=
  h.words (s.ex.lastRecord + 1) (skippedWord s.ex.skipped) s.ex.generation (16 + body.length) ++ body

theorem produce_found (h : RecHeader) (body : List Word) {k : Fin 8} (found : findFree s.mem s.ex.nextFrame = some k) :
    s.produce h body = ((stored k (recordWords h body s) s).live 0x028 0).setNotice
      (if h.outcome = .complete ∧ h.alarmRaised = 0 then Notice.record else Notice.recordX) := by
  rw [produce_eq, found]
  rfl

theorem produce_found_registers (h : RecHeader) (body : List Word) {k : Fin 8}
    (found : findFree s.mem s.ex.nextFrame = some k) :
    (s.produce h body).ex.nextFrame = k + 1 ∧ (s.produce h body).ex.skipped = 0 := by
  rw [produce_found h body found, State.setNotice_nextFrame, State.setNotice_skipped, State.live_ex]
  exact ⟨rfl, rfl⟩

theorem produce_lost (h : RecHeader) (body : List Word) (busy : findFree s.mem s.ex.nextFrame = none) :
    s.produce h body = ((lost s).live 0x028 (skippedWord (s.ex.skipped + 1))).setNotice .lost := by
  rw [produce_eq, busy]

/-- A word of the record that is produced. -/
theorem produce_word (h : RecHeader) (body : List Word) {k : Fin 8} (found : findFree s.mem s.ex.nextFrame = some k)
    {i : Nat} (hi : i < 15 + body.length) :
    readWord (s.produce h body).mem (frameBase k.val + 4 * (i + 1)) = (recordWords h body s)[i]'(by
      rw [recordWords, List.length_append, length_recHeader_words]; exact hi) := by
  rw [produce_found h body found]
  exact (live_storeWord 0x028 0 _ (by decide) (by simp only [frameBase]; omega)).trans (stored_word _ _ _ _)

theorem live_liveWord (off : Nat) (w : Word) (s : State) : (s.live off w).liveWord off = w :=
  readWord_writeWord_same _ _ _

theorem setNotice_liveWord (n : Notice) (s : State) (off : Nat) : (s.setNotice n).liveWord off = s.liveWord off := by
  unfold State.liveWord
  rw [State.setNotice_mem]

/-- A header word of the record that is produced (Table 8-1). -/
theorem produce_headerWord (h : RecHeader) (body : List Word) {k : Fin 8}
    (found : findFree s.mem s.ex.nextFrame = some k) {i : Nat} (hi : i < 15) :
    readWord (s.produce h body).mem (frameBase k.val + 4 * (i + 1)) =
      (h.words (s.ex.lastRecord + 1) (skippedWord s.ex.skipped) s.ex.generation (16 + body.length))[i] := by
  rw [produce_word h body found (by omega)]
  exact List.getElem_append_left hi

theorem produce_state (h : RecHeader) (body : List Word) {k : Fin 8} (found : findFree s.mem s.ex.nextFrame = some k) :
    readWord (s.produce h body).mem (frameBase k.val) = readyCode := by
  rw [produce_found h body found]
  exact (live_storeWord 0x028 0 _ (by decide) (Nat.le_add_right _ _)).trans (readWord_writeWord_same _ _ _)

theorem produce_bodyWord (h : RecHeader) (body : List Word) {k : Fin 8}
    (found : findFree s.mem s.ex.nextFrame = some k) {i : Nat} (hi : i < body.length) :
    readWord (s.produce h body).mem (frameBase k.val + 64 + 4 * i) = body[i] := by
  have word := produce_word h body found (i := 15 + i) (by omega)
  rw [show frameBase k.val + 4 * (15 + i + 1) = frameBase k.val + 64 + 4 * i by omega] at word
  rw [word]
  simp only [recordWords]
  rw [List.getElem_append_right (by rw [length_recHeader_words]; omega)]
  simp only [length_recHeader_words, Nat.add_sub_cancel_left]

/-- A produced record leaves the store's bytes outside its frame's first words (R22). -/
theorem produce_sameBytes (h : RecHeader) (body : List Word) {k : Fin 8}
    (found : findFree s.mem s.ex.nextFrame = some k) {lo hi : Nat} (store : storeBase ≤ lo)
    (out : hi ≤ frameBase k.val ∨ frameBase k.val + 64 + 4 * body.length ≤ lo) :
    SameBytes (s.produce h body).mem s.mem lo hi := by
  rw [produce_found h body found]
  refine sameBytes_trans (live_sameBytes _ 0x028 0 (.inr (le_trans (by decide) store))) (stored_sameBytes k _ s ?_)
  rw [recordWords, List.length_append, length_recHeader_words]
  omega

theorem skippedWord_of_lt {n : Nat} (h : n < 4294967296) : skippedWord n = BitVec.ofNat 32 n := if_pos h

/-- Settles O46. -/
theorem recordStore : Obligations.RecordStore := by
  refine ⟨fun cs i => ?_, fun h body s size => ⟨produce_number s h body, fun d free first => ?_, fun busy => ?_⟩⟩
  · rw [getLsbD_presentMask]
    simp only [Bool.and_eq_true, decide_eq_true_eq, List.mem_map]
    exact ⟨And.right, fun ⟨c, hc, e⟩ => ⟨by omega, c, hc, e⟩⟩
  · have found := findFree_first free first
    have word := fun i (hi : i < 15) => produce_headerWord h body found hi
    refine ⟨produce_state h body found, word 0 (by decide), word 1 (by decide),
      fun i hi => produce_bodyWord h body found hi, word 14 (by decide),
      fun bound => (word 2 (by decide)).trans (skippedWord_of_lt bound),
      ⟨word 3 (by decide), word 4 (by decide), word 5 (by decide), word 6 (by decide), word 7 (by decide),
        word 8 (by decide), word 9 (by decide), word 10 (by decide), word 11 (by decide),
        (word 12 (by decide)).trans ?_, word 13 (by decide)⟩,
      produce_sameBytes h body found (by simp only [frameBase]; omega) (.inr (Nat.le_refl _)), ?_, ?_, ?_, ?_,
      fun j ne => produce_sameBytes h body found (Nat.le_add_right _ _) ?_⟩
    · rfl
    · exact (produce_found_registers h body found).1
    · exact (produce_found_registers h body found).2
    · rw [produce_found h body found, setNotice_liveWord, live_liveWord]
    · rw [produce_found h body found]
      split <;> exact noticeSet_setNotice _ _
    · have other : j.val ≠ (s.ex.nextFrame + d).val := fun e => ne (Fin.ext e)
      simp only [frameBase, frameSize]
      omega
  · have none := findFree_eq_none (start := s.ex.nextFrame) busy
    rw [produce_lost h body none, State.setNotice_mem, State.setNotice_nextFrame, State.setNotice_skipped,
      setNotice_liveWord, live_liveWord, State.live_ex]
    exact ⟨live_sameBytes (lost s) 0x028 _ (.inr (by decide)), rfl, rfl, noticeSet_setNotice _ _, skippedWord_of_lt⟩

/-! ## Rows that wait for their threshold (log entry 1) -/

/-- An event that changes nothing leaves a settled state. -/
theorem event_of_same {f : State → State} (settled : s.Settled) (same : f s = s) : s.event f = s := by
  unfold State.event
  split
  · rw [same, endEvent_of_settled s settled]
  · rfl

theorem checkBatchFull_of_lt (h : ∀ b, s.bin.batch = some b → b.frames < s.page.fpFrames) : s.checkBatchFull = s := by
  unfold State.checkBatchFull
  split
  · rename_i b found
    exact if_neg (Nat.not_le.2 (h b found))
  · rfl

/-- Settles O38. -/
theorem thresholdRowsWait : Obligations.ThresholdRowsWait := by
  intro s sound
  have waits : ∀ {f : State → State}, f s = s → Host.Outcome.next (s.event f) = (.next s : Host.Outcome State Fault Refusal) :=
    fun same => congrArg Host.Outcome.next (event_of_same sound.settled same)
  have held : ∀ {b : Bool} {t : State}, b = false → (if b = true then t else s) = s :=
    fun no => if_neg (by rw [no]; exact Bool.false_ne_true)
  refine ⟨fun no => waits (held no), fun no => waits (held no), fun no => waits (held no),
    fun below => waits (checkBatchFull_of_lt below), fun none p => waits (if_pos none), fun no => waits (held no),
    fun no => waits (held no), fun no => waits (held no), fun no => waits (held no), fun no => waits (held no),
    fun no => waits ?_, waits (stdStart_of_not_due s sound.settled.start), fun none slots => waits ?_,
    fun h => congrArg Host.Outcome.next (if_neg ?_)⟩
  · rw [no]
    rfl
  · unfold State.frameReceived
    rw [none]
  · rintro ⟨starting, inactive⟩
    rcases h with ready | active
    · rw [ready] at starting
      cases starting
    · rw [active] at inactive
      cases inactive

end Sys2Proof.Proofs
end

section
/-!
PROOFS. The answers of the gate: a concluded field of a mode write, a refused apply, the apply by the gate state, a fault
acknowledge.
-/
namespace Sys2Proof.Proofs

open Sys2Proof.Machine Sys2Proof.Laws

variable {s t u : State}

/-! ## Events of the running part -/

/-- A command that is an event completes with what the event leaves at its end. -/
theorem completes_event {c : Instr} {f : State → State} {P : State → Prop} (run : exec c s = .next (s.event f))
    (ready : s.ex.life = .ready) (h : P (f s).endEvent) : Completes c s P :=
  ⟨_, run.trans (congrArg Host.Outcome.next (event_ready s f ready)), h⟩

/-- A command that is an event whose result is settled completes with that result. -/
theorem completes_settled {c : Instr} {f : State → State} {P : State → Prop} (run : exec c s = .next (s.event f))
    (ready : s.ex.life = .ready) (settled : (f s).Settled) (h : P (f s)) : Completes c s P :=
  completes_event run ready (by rw [endEvent_of_settled _ settled]; exact h)

/-- The same for an event whose state before its end is known. -/
theorem completes_run {c : Instr} {f : State → State} {P : State → Prop} (run : exec c s = .next (s.event f))
    (ready : s.ex.life = .ready) (same : f s = u) (h : P u.endEvent) : Completes c s P :=
  completes_event run ready (by rw [same]; exact h)

theorem completes_rest {c : Instr} {f : State → State} {P : State → Prop} (run : exec c s = .next (s.event f))
    (ready : s.ex.life = .ready) (same : f s = u) (settled : u.Settled) (h : P u) : Completes c s P :=
  completes_run run ready same (by rw [endEvent_of_settled _ settled]; exact h)

/-- With the head neither PARKED nor STANDARDIZING, its shutter closed and the command word at rest, nothing waits for
the end of the event. -/
theorem settled_of_shut (parked : s.trav.head ≠ .parked) (std : s.trav.head ≠ .standardizing)
    (shut : s.trav.head.shutterOpen = false) (shutter : s.link.shutter = false) (ref : s.link.ref = false) :
    s.Settled where
  start := by simp [State.stdStartDue, parked]
  shutter := by simp [State.shutterDemand, std, shut, shutter]
  ref := by simp [State.refDemand, std, ref]

/-! ## The conclusion of a mode write (R16) -/

/-- The event leaves s but for the registers of the gate, and writes the live mode result alone. -/
structure Concluded (r : Result) (s t : State) : Prop where
  mem : t.mem = writeWord s.mem 0x08010 r.code
  accepted : r = .accepted → t = { s with mem := t.mem, ex := { s.ex with gateResult := .accepted } }
  refused : r ≠ .accepted →
    t = { s with mem := t.mem, ex := { s.ex with gateResult := r, notice := s.ex.notice ||| 64#13 } }

theorem concludeMode_concluded (r : Result) (s : State) : Concluded r s (s.concludeMode r) := by
  unfold State.concludeMode
  by_cases accepted : r = .accepted
  · subst accepted
    rw [if_pos rfl]
    exact ⟨rfl, fun _ => rfl, fun no => absurd rfl no⟩
  · rw [if_neg accepted]
    refine ⟨rfl, fun yes => absurd yes accepted, fun _ => ?_⟩
    rw [← maskBit_refused]
    rfl

theorem Concluded.result {r : Result} (h : Concluded r s t) : t.liveWord 0x010 = r.code := by
  rw [State.liveWord, h.mem]
  exact readWord_writeWord_same _ _ _

theorem Concluded.sameBytes {r : Result} (h : Concluded r s t) {lo hi : Nat} (out : hi ≤ 0x08010 ∨ 0x08014 ≤ lo) :
    SameBytes t.mem s.mem lo hi := by
  rw [h.mem]
  exact sameBytes_writeWord _ _ _ out

theorem concludeMode_settled {r : Result} (h : s.Settled) : (s.concludeMode r).Settled := by
  have same := concludeMode_concluded r s
  by_cases accepted : r = .accepted
  · rw [same.accepted accepted]
    exact settled_congr h rfl rfl rfl rfl rfl rfl
  · rw [same.refused accepted]
    exact settled_congr h rfl rfl rfl rfl rfl rfl

/-! ## A refused apply (R10) -/

/-- What a structural check may find: the offset of a field, and a code of its own. -/
def IsFinding (f : Result × Nat) : Prop := f.2 ≠ 0 ∧ f.1 ≠ .busy ∧ f.1 ≠ .none

theorem orElse_isFinding {a b : CheckFailure} (ha : ∀ f, a = some f → IsFinding f)
    (hb : ∀ f, b = some f → IsFinding f) : ∀ f, (a <|> b) = some f → IsFinding f := by
  intro f h
  cases a with
  | none => exact hb f h
  | some g => exact ha f h

theorem map_isFinding (o : Option Nat) (code : Result) {k : Nat} (pos : 0 < k) (busy : code ≠ .busy)
    (none : code ≠ .none) : ∀ f, (o.map fun c => (code, chanOff c k)) = some f → IsFinding f := by
  intro f h
  obtain ⟨c, -, rfl⟩ := Option.map_eq_some_iff.1 h
  refine ⟨?_, busy, none⟩
  unfold chanOff
  omega

/-- The failing check of a refused apply has a code of its own, and its offset is never 0 (R9, R10). -/
theorem validatePage_isFinding (p : Page) : ∀ f, validatePage p = some f → IsFinding f := by
  refine orElse_isFinding ?plan (orElse_isFinding ?bins (orElse_isFinding ?period (orElse_isFinding ?slots
    (orElse_isFinding (map_isFinding _ .badRoles (by decide) (by decide) (by decide))
      (orElse_isFinding (map_isFinding _ .badTable (by decide) (by decide) (by decide))
        (orElse_isFinding ?cues ?edge))))))
  case slots =>
    intro f h
    unfold checkSlots at h
    split at h
    · cases h
      exact ⟨by unfold chanOff; omega, Result.noConfusion, Result.noConfusion⟩
    · exact map_isFinding _ .badSlots (by decide) (by decide) (by decide) f h
  all_goals
    intro f h
    simp only [checkPlan, checkBins, checkPeriod, checkCues, checkEdge] at h
    unfold IsFinding
    grind

theorem gateIdle_eq (s : State) :
    s.gateIdle = { s with mem := s.gateIdle.mem, ex := { s.ex with applyPending := false } } := by
  rw [← gateIdle_spec]
  unfold State.gateIdle
  split <;> rfl

theorem gateIdle_liveWord (pending : s.ex.applyPending = true) : s.gateIdle.liveWord 0x004 = 0 := by
  unfold State.gateIdle
  rw [if_pos pending]
  exact live_liveWord 0x004 0 _

theorem refuseApply_eq (code : Result) (off : Nat) (s : State) :
    s.refuseApply code off = { s with
      mem := (s.refuseApply code off).mem
      ex := { s.ex with applyPending := false, gateResult := code, notice := s.ex.notice ||| 64#13 } } := by
  have idle := gateIdle_eq (({ s with ex.gateResult := code } : State).liveWords 0x008 [code.code, Word.ofCount off])
  unfold State.refuseApply
  rw [State.setNotice_mem, State.setNotice, maskBit_refused, idle]
  rfl

/-- The two words of the live apply result (R10). -/
theorem refuseApply_results (code : Result) (off : Nat) (s : State) :
    (s.refuseApply code off).liveWord 0x008 = code.code ∧ (s.refuseApply code off).liveWord 0x00C = BitVec.ofNat 32 off := by
  let v := ({ s with ex.gateResult := code } : State).liveWords 0x008 [code.code, Word.ofCount off]
  have idle : SameBytes (s.refuseApply code off).mem v.mem 0x08008 0x40000 := gateIdle_sameBytes v (.inr (Nat.le_refl _))
  have word := fun i (hi : i < 2) => readWord_writeWords_get [code.code, Word.ofCount off] s.mem (liveBase + 0x008) i hi
  exact ⟨(readWord_of_sameBytes idle (by decide) (by decide)).trans (word 0 (by decide)),
    (readWord_of_sameBytes idle (by decide) (by decide)).trans (word 1 (by decide))⟩

theorem refuseApply_gateState (code : Result) (off : Nat) (pending : s.ex.applyPending = true) :
    (s.refuseApply code off).liveWord 0x004 = 0 := gateIdle_liveWord pending

/-- An apply that the gate takes in an event of its own (R7, R8). -/
theorem completes_applyNow {c : Instr} {P : State → Prop} (ready : s.ex.life = .ready) (scan : s.bin.scan = none)
    (std : s.trav.head ≠ .standardizing)
    (taken : (c = .apply ∧ s.ex.applyPending = false) ∨ (c = .pendingApplyTaken ∧ s.ex.applyPending = true))
    (h : P s.applyNow.endEvent) : Completes c s P := by
  have point : s.atApplyPoint = true := by simp [State.atApplyPoint, scan, std]
  rcases taken with ⟨rfl, idle⟩ | ⟨rfl, pending⟩
  · refine completes_event (f := State.applyWrite) rfl ready ?_
    rw [State.applyWrite, if_neg (by simp [idle]), if_pos point]
    exact h
  · refine completes_event (f := fun s => if s.ex.applyPending && s.atApplyPoint then s.applyNow else s) rfl ready ?_
    rw [pending, point]
    exact h

/-- Between events a refused apply leaves the head to what it was doing. -/
theorem applyNow_refused (sound : s.Sound) (ready : s.ex.life = .ready) {code : Result} {off : Nat}
    (check : validatePage s.staged = some (code, off)) : s.applyNow.endEvent = s.refuseApply code off := by
  have same := refuseApply_eq code off s
  have settle : s.applyNow = s.refuseApply code off := by
    unfold State.applyNow Recomputed.settle
    rw [applyTake_refused s check]
    dsimp only
    by_cases unhomed : (s.refuseApply code off).trav.head = .unhomed
    · have stop : (s.refuseApply code off).arb.goal = .stop := by
        rw [same] at unhomed ⊢
        exact sound.head.unhomed ready unhomed
      rw [if_pos (.inr unhomed), State.takeGoalStill, unhomed]
      exact if_pos stop
    · rw [if_neg (by simp [unhomed])]
  rw [settle, endEvent_of_settled]
  rw [same]
  exact settled_congr sound.settled rfl rfl rfl rfl rfl rfl

/-- Settles O24. -/
theorem refusedApply : Obligations.RefusedApply := by
  constructor
  · intro s code off check
    obtain ⟨result, offset⟩ := refuseApply_results code off s
    rw [applyTake_refused s check]
    exact ⟨(validatePage_isFinding _ _ check).1, rfl, refuseApply_eq code off s, result, offset,
      refuseApply_sameBytes code off s (.inl (Nat.le_refl _)), refuseApply_sameBytes code off s (.inr (Nat.le_refl _))⟩
  · intro c s code off sound ready scan std taken check
    obtain ⟨result, offset⟩ := refuseApply_results code off s
    refine completes_applyNow ready scan std taken ?_
    rw [applyNow_refused sound ready check]
    exact ⟨refuseApply_eq code off s, result, offset, refuseApply_gateState code off,
      refuseApply_sameBytes code off s (.inl (Nat.le_refl _)), refuseApply_sameBytes code off s (.inr (Nat.le_refl _))⟩

end Sys2Proof.Proofs
end

section
/-!
PROOFS. An accepted apply: the page it leaves, its words in the live area, the changed groups and channels; the apply by
the gate state.
-/
namespace Sys2Proof.Proofs

open Sys2Proof.Machine Sys2Proof.Laws

variable {s t u : State}

/-! ## The changes of an accepted apply -/

/-- The offsets that an accepted apply changes (R12 step 1). -/
def changedOffsets (s : State) : Changes := (pageDiffs s.staged s.page).map Prod.fst

/-- The changed offsets are the words of the active page that the copy changes. -/
theorem mem_changedOffsets {off : Nat} (aligned : off % 4 = 0) :
    off ∈ changedOffsets s ↔ activePage (copied s) off ≠ s.page off := by
  unfold changedOffsets
  rw [List.mem_map]
  constructor
  · rintro ⟨d, hd, rfl⟩
    obtain ⟨⟨f, hf, rfl⟩, differs⟩ := mem_pageDiffs.1 hd
    rw [copied_field hf]
    exact differs
  · intro differs
    by_cases field : ∃ kind, (off, kind) ∈ pageFields
    · obtain ⟨kind, h⟩ := field
      rw [copied_field h] at differs
      exact ⟨(off, clampField s.staged off kind), mem_pageDiffs.2 ⟨⟨_, h, rfl⟩, differs⟩, rfl⟩
    · exact absurd (copied_other aligned (fun kind h => field ⟨kind, h⟩) s) differs

theorem changedOffsets_aligned {off : Nat} (h : off ∈ changedOffsets s) : off % 4 = 0 := by
  obtain ⟨d, hd, rfl⟩ := List.mem_map.1 h
  exact (pageDiffs_aligned hd).1

/-- A group or a channel changed exactly when one of its words did (R12 step 4). -/
theorem within_changedOffsets (lo hi : Nat) :
    (changedOffsets s).within lo hi = true ↔
      ∃ off, lo ≤ off ∧ off < hi ∧ off % 4 = 0 ∧ activePage (copied s) off ≠ s.page off := by
  simp only [Changes.within, List.any_eq_true, Bool.and_eq_true, decide_eq_true_eq]
  constructor
  · rintro ⟨off, h, low, high⟩
    exact ⟨off, low, high, changedOffsets_aligned h, (mem_changedOffsets (changedOffsets_aligned h)).1 h⟩
  · rintro ⟨off, low, high, aligned, differs⟩
    exact ⟨off, (mem_changedOffsets aligned).2 differs, low, high⟩

/-- The flag of each group at its bit, and 0 elsewhere (Table 11-7). -/
theorem groupWord_getLsbD (ch : Changes) (i : Nat) :
    ch.groupWord.getLsbD i = (((((((((ch.plan && decide (i = 0)) || (ch.link && decide (i = 1))) ||
      (ch.std && decide (i = 2))) || (ch.fixed && decide (i = 3))) || (ch.channels && decide (i = 4))) ||
      (ch.tables && decide (i = 5))) || (ch.limits && decide (i = 6))) || (ch.breakGroup && decide (i = 7)))) := by
  have flag : ∀ (b : Bool) (k : Nat), k < 32 → (Word.ofBool b <<< k).getLsbD i = (b && decide (i = k)) := by
    intro b k hk
    rw [BitVec.getLsbD_shiftLeft, getLsbD_ofBool]
    cases b
    · simp
    · rw [Bool.eq_iff_iff]
      simp only [Bool.and_eq_true, decide_eq_true_eq, Bool.not_eq_true', decide_eq_false_iff_not, true_and]
      omega
  unfold Changes.groupWord
  simp only [BitVec.getLsbD_or, flag _ _ (show 1 < 32 by decide), flag _ _ (show 2 < 32 by decide),
    flag _ _ (show 3 < 32 by decide), flag _ _ (show 4 < 32 by decide), flag _ _ (show 5 < 32 by decide),
    flag _ _ (show 6 < 32 by decide), flag _ _ (show 7 < 32 by decide), getLsbD_ofBool]

theorem channelMask_getLsbD (ch : Changes) (k : Fin 8) : ch.channelMask.getLsbD k.val = ch.channel k.val := by
  have bound := k.isLt
  unfold Changes.channelMask
  rw [getLsbD_presentMask, Bool.eq_iff_iff]
  simp only [Bool.and_eq_true, decide_eq_true_eq, List.mem_filter, List.mem_range]
  exact ⟨fun h => h.2.2, fun h => ⟨by omega, bound, h⟩⟩

theorem channelMask_high (ch : Changes) {i : Nat} (hi : 8 ≤ i) : ch.channelMask.getLsbD i = false := by
  unfold Changes.channelMask
  rw [getLsbD_presentMask, decide_eq_false (p := i ∈ _), Bool.and_false]
  simp only [List.mem_filter, List.mem_range]
  omega

/-! ## What the apply writes -/

theorem acceptApply_gateResult (s : State) : s.acceptApply.ex.gateResult = .accepted := by
  rw [State.acceptApply, State.setNotice_gateResult, gateIdle_spec]
  rfl

/-- The memory of the copy and of the two blocks of live words (R12 steps 2, 4 and 5). -/
theorem acceptApply_sameBytes (s : State) {lo hi : Nat} (h : hi ≤ 0x08004 ∨ 0x08028 ≤ lo) :
    SameBytes s.acceptApply.mem (copied s) lo hi := by
  unfold State.acceptApply
  refine sameBytes_trans (gateIdle_sameBytes _ (by omega)) (sameBytes_trans (liveWords_sameBytes _ 0x008 _ ?_)
    (liveWords_sameBytes _ 0x01C _ ?_))
  · simp only [liveBase, List.length_cons, List.length_nil]
    omega
  · simp only [liveBase, List.length_cons, List.length_nil]
    omega

/-- The live words of the apply result (R12 step 5). -/
theorem acceptApply_results (s : State) : s.acceptApply.liveWord 0x008 = 1 ∧ s.acceptApply.liveWord 0x00C = 0 := by
  unfold State.acceptApply State.liveWord
  have idle := fun v => gateIdle_sameBytes v (lo := 0x08008) (hi := 0x08010) (.inr (Nat.le_refl _))
  have word := fun m i hi => readWord_writeWords_get [Result.accepted.code, 0] m (liveBase + 0x008) i hi
  exact ⟨(readWord_of_sameBytes (idle _) (by decide) (by decide)).trans (word _ 0 (by decide)),
    (readWord_of_sameBytes (idle _) (by decide) (by decide)).trans (word _ 1 (by decide))⟩

/-- The live words of the changed groups, the changed channels and the generation (R12 step 4). -/
theorem acceptApply_flags (s : State) :
    s.acceptApply.liveWord 0x01C = (changedOffsets s).groupWord ∧
      s.acceptApply.liveWord 0x020 = (changedOffsets s).channelMask ∧
      s.acceptApply.liveWord 0x024 = s.ex.generation + 1 := by
  unfold State.acceptApply State.liveWord
  have idle := fun v => sameBytes_trans (gateIdle_sameBytes (State.liveWords 0x008 [Result.accepted.code, 0] v)
    (lo := 0x0801C) (hi := 0x08028) (.inr (by decide))) (liveWords_sameBytes v 0x008 _ (.inr (by decide)))
  have word := fun m i hi => readWord_writeWords_get [(changedOffsets s).groupWord, (changedOffsets s).channelMask,
    s.ex.generation + 1] m (liveBase + 0x01C) i hi
  exact ⟨(readWord_of_sameBytes (idle _) (by decide) (by decide)).trans (word _ 0 (by simp)),
    (readWord_of_sameBytes (idle _) (by decide) (by decide)).trans (word _ 1 (by simp)),
    (readWord_of_sameBytes (idle _) (by decide) (by decide)).trans (word _ 2 (by simp))⟩

theorem acceptApply_head (s : State) : s.acceptApply.trav = s.trav := by
  unfold State.acceptApply
  rw [State.setNotice_trav, State.gateIdle_trav]
  rfl

/-- In HOLDING an apply discards the batch (R136). -/
theorem applyBinning_batch (h : ApplyHandoff) (holding : s.trav.head = .holding) :
    (s.applyBinning h).bin.batch = none := by
  unfold State.applyBinning
  rw [if_pos holding]
  dsimp only
  split
  · have own : Reg.edges ∈ ({ .edges } : Set Reg) := rfl
    exact (((setEdges_evolves _ _ own).trans (setMiss_evolves .front 0)).trans (setMiss_evolves .back 0)).frame.batch
      (by simp) rfl
  · rfl

/-- What follows steps 1 to 5 of an accepted apply in its event: the reactions, the goal, the end of the event. -/
theorem applyNow_evolves (check : validatePage s.staged = none) :
    Evolves applyOwned s.acceptApply s.applyNow.endEvent := by
  unfold State.applyNow
  rw [applyTake_accepted s check]
  exact (applyReactions_evolves _ (Set.Subset.refl _)).settle.trans endEvent_evolves

/-- The words that an accepted apply writes stand at the end of its event. -/
theorem applyNow_gate (check : validatePage s.staged = none) : GateStill applyOwned s.acceptApply s.applyNow.endEvent :=
  (applyNow_evolves check).gateStill (acceptApply_applyPending s)

theorem applyNow_result (check : validatePage s.staged = none) :
    s.applyNow.endEvent.ex.applyPending = false ∧ s.applyNow.endEvent.ex.gateResult = .accepted ∧
      s.applyNow.endEvent.liveWord 0x008 = 1 ∧ s.applyNow.endEvent.liveWord 0x00C = 0 := by
  have gate := applyNow_gate check
  have results := gate.results (by simp [applyOwned])
  exact ⟨gate.pending.trans (acceptApply_applyPending s),
    (gate.result (by simp [applyOwned])).trans (acceptApply_gateResult s),
    (readWord_of_sameBytes results (by decide) (by decide)).trans (acceptApply_results s).1,
    (readWord_of_sameBytes results (by decide) (by decide)).trans (acceptApply_results s).2⟩

theorem applyNow_flags (check : validatePage s.staged = none) :
    s.applyNow.endEvent.liveWord 0x01C = (changedOffsets s).groupWord ∧
      s.applyNow.endEvent.liveWord 0x020 = (changedOffsets s).channelMask ∧
      s.applyNow.endEvent.liveWord 0x024 = s.ex.generation + 1 := by
  have flags := (applyNow_gate check).flags (by simp [applyOwned])
  obtain ⟨group, mask, generation⟩ := acceptApply_flags s
  exact ⟨(readWord_of_sameBytes flags (by decide) (by decide)).trans group,
    (readWord_of_sameBytes flags (by decide) (by decide)).trans mask,
    (readWord_of_sameBytes flags (by decide) (by decide)).trans generation⟩

/-- The page at the end of the event is the copied one. -/
theorem applyNow_page (check : validatePage s.staged = none) {off : Nat} (ho : off + 4 ≤ 0x4000) :
    s.applyNow.endEvent.page off = activePage (copied s) off := by
  have held := (applyNow_evolves check).pageHeld (acceptApply_applyPending s)
  exact page_of_sameBytes (s := { s with mem := copied s })
    (sameBytes_trans held.active (acceptApply_sameBytes s (.inl (by decide)))) ho

theorem applyNow_batch (check : validatePage s.staged = none) (holding : s.trav.head = .holding) :
    s.applyNow.endEvent.bin.batch = none := by
  let h : ApplyHandoff := { changes := changedOffsets s, before := s.page, after := s.acceptApply.page }
  have rest : Evolves applyOwned ((s.acceptApply.applyLink h).applyBinning h) s.applyNow.endEvent := by
    unfold State.applyNow
    rw [applyTake_accepted s check]
    exact (applyReactions_afterBinning h (Set.Subset.refl _)).settle.trans endEvent_evolves
  refine rest.frame.batch (by simp [applyOwned]) (applyBinning_batch h ?_)
  have head : (s.acceptApply.applyLink h).trav = s.acceptApply.trav := by
    unfold State.applyLink
    split <;> rfl
  rw [head, acceptApply_head, holding]

/-- Settles O25. -/
theorem acceptedApply : Obligations.AcceptedApply := by
  intro c s ready scan std taken check
  refine completes_applyNow ready scan std taken ?_
  obtain ⟨idle, result, code, offset⟩ := applyNow_result check
  obtain ⟨group, mask, generation⟩ := applyNow_flags check
  have page : ∀ {off : Nat}, off + 4 ≤ 0x4000 → s.applyNow.endEvent.page off = activePage (copied s) off :=
    applyNow_page check
  have held := (applyNow_evolves check).pageHeld (acceptApply_applyPending s)
  have notice := (applyNow_evolves check).frame.notices (by simp [applyOwned]) _ (noticeSet_setNotice .applied _)
  have differs : ∀ {lo hi : Nat}, hi ≤ 0x4000 → ((changedOffsets s).within lo hi = true ↔
      ∃ off, lo ≤ off ∧ off < hi ∧ off % 4 = 0 ∧ s.applyNow.endEvent.page off ≠ s.page off) := by
    intro lo hi high
    rw [within_changedOffsets]
    refine exists_congr fun off => and_congr_right fun _ => and_congr_right fun below => and_congr_right fun aligned => ?_
    rw [page (by omega)]
  rw [group, mask]
  refine ⟨fun off kind h => (page (pageFields_aligned _ h).2).trans (copied_field h s),
    fun off high aligned h => (page (by omega)).trans (copied_other aligned h s),
    held.generation.trans (acceptApply_generation s), result, idle, notice, code, offset, generation, rfl, rfl,
    applyNow_batch check, ?_, ?_, ?_, ?_, ?_, ?_, ?_, ?_, fun k => ?_, fun i hi => ⟨?_, channelMask_high _ hi⟩⟩
  case refine_9 =>
    rw [channelMask_getLsbD]
    exact differs (by have bound := k.isLt; unfold chanOff; omega)
  case refine_10 =>
    rw [groupWord_getLsbD]
    simp [show ¬ i = 0 by omega, show ¬ i = 1 by omega, show ¬ i = 2 by omega, show ¬ i = 3 by omega,
      show ¬ i = 4 by omega, show ¬ i = 5 by omega, show ¬ i = 6 by omega, show ¬ i = 7 by omega]
  all_goals
    refine Iff.trans ?_ (differs (by decide))
    rw [groupWord_getLsbD]
    simp [Changes.plan, Changes.link, Changes.std, Changes.fixed, Changes.channels, Changes.tables, Changes.limits,
      Changes.breakGroup]

/-! ## The apply by the gate state (R7) -/

/-- Settles O23. -/
theorem applyByGateState : Obligations.ApplyByGateState := by
  intro s sound ready
  have settled : ∀ t : State, t.arb = s.arb → t.trav = s.trav → t.link = s.link → t.std = s.std → t.Settled := by
    intro t arb trav link std
    exact settled_congr sound.settled (by rw [arb]) (by rw [trav]) (by rw [link]) (by rw [link]) (by rw [link])
      (by rw [std])
  refine ⟨fun pending => ?_, fun idle scan std => ?_, fun idle busy => ?_⟩
  · refine congrArg Host.Outcome.next ?_
    rw [event_ready _ _ ready, State.applyWrite, if_pos pending]
    have rest := settled (({ s with ex.gateResult := .busy } : State).setNotice .refused) rfl rfl rfl rfl
    refine (endEvent_of_settled _ rest).trans ?_
    rw [State.setNotice, maskBit_refused]
  · refine completes_applyNow ready scan std (.inl ⟨rfl, idle⟩) ?_
    cases check : validatePage s.staged with
    | none =>
      obtain ⟨off, result, code, -⟩ := applyNow_result check
      rw [result]
      exact ⟨off, Result.noConfusion, Result.noConfusion, code⟩
    | some f =>
      obtain ⟨code, off⟩ := f
      obtain ⟨-, busy, none⟩ := validatePage_isFinding _ _ check
      have result : (s.refuseApply code off).ex.gateResult = code := by rw [refuseApply_eq]
      rw [applyNow_refused sound ready check, result]
      exact ⟨refuseApply_applyPending code off s, busy, none, (refuseApply_results code off s).1⟩
  · have point : ¬ s.atApplyPoint = true := by
      simp only [State.atApplyPoint, Bool.and_eq_true, Option.isNone_iff_eq_none, decide_eq_true_eq]
      exact fun h => busy.elim (fun no => no h.1) h.2
    have write : s.applyWrite = ({ s with ex.applyPending := true } : State).live 0x004 1 := by
      rw [State.applyWrite, if_neg (by simp [idle]), if_neg point]
    refine completes_settled (f := State.applyWrite) rfl ready ?_ ?_
    · rw [write]
      exact settled _ rfl rfl rfl rfl
    · rw [write]
      exact ⟨rfl, live_liveWord 0x004 1 _, live_sameBytes _ 0x004 1 (.inl (Nat.le_refl _)),
        live_sameBytes _ 0x004 1 (.inr (Nat.le_refl _))⟩

end Sys2Proof.Proofs
end

section
/-!
PROOFS. What a head that takes a goal leaves as it was; the fields FAULT_ACK and STD_NOW of a mode write.
-/
namespace Sys2Proof.Proofs

open Sys2Proof.Machine Sys2Proof.Laws

variable {s t u : State}

/-! ## The page beside the live area -/

theorem live_page (off : Nat) (w : Word) (s : State) {o : Nat} (ho : o + 4 ≤ 0x4000) : (s.live off w).page o = s.page o :=
  page_of_sameBytes (live_sameBytes s off w (.inl (Nat.le_add_right _ _))) ho

theorem enabledChannels_congr {p q : Page} (h : ∀ off, off + 4 ≤ 0x4000 → q off = p off) :
    q.enabledChannels = p.enabledChannels := by
  refine List.filter_congr fun c _ => ?_
  have bound := c.isLt
  rw [Page.enabled, Page.enabled, h _ (by unfold chanOff; omega)]

/-! ## The head state -/

/-- The drive in a head state just entered (R50, R52). -/
def entered (h : HeadState) (tr : Traverse) : Traverse :=
  { tr with head := h, stillness := 0, stallTime := 0, dwellTimer := none }

theorem setHead_of_ne {h : HeadState} (ne : s.trav.head ≠ h) :
    s.setHead h = ({ s with trav := entered h s.trav } : State).live 0x038 h.code := if_neg ne

theorem setHead_sameBytes (h : HeadState) (s : State) {lo hi : Nat} (out : hi ≤ 0x08038 ∨ 0x0803C ≤ lo) :
    SameBytes (s.setHead h).mem s.mem lo hi := by
  unfold State.setHead
  split
  · exact sameBytes_refl _ _ _
  · exact live_sameBytes _ 0x038 _ out

/-- The position of a head that enters HOMING: at the front switch it is known at once (R56). -/
def homingPosition (s : State) : Word :=
  if s.trav.frontLim = true then Word.ofSigned (-(s.page.homeMargin : Int)) else s.trav.position

/-- A head that is not homing yet enters HOMING; at the front switch it is homed at once (R56). -/
theorem enterHoming_of_ne (ne : s.trav.head ≠ .homing) :
    s.enterHoming = { s with
      mem := writeWord s.mem 0x08038 1
      trav := { entered .homing s.trav with homed := s.trav.frontLim, position := homingPosition s } } := by
  let v : State := ({ s with trav := entered .homing { s.trav with homed := false } } : State).live 0x038 1
  have enter : ({ s with trav.homed := false } : State).setHead .homing = v := setHead_of_ne ne
  have whole : s.enterHoming = if s.trav.frontLim = true then v.setHomingPosition else v := by
    unfold State.enterHoming
    dsimp only
    rw [enter]
    rfl
  have margin : v.page.homeMargin = s.page.homeMargin := congrArg BitVec.toNat (live_page _ _ _ (by decide))
  unfold homingPosition
  rw [whole]
  cases lim : s.trav.frontLim with
  | true =>
    rw [if_pos rfl, if_pos rfl, State.setHomingPosition, margin]
    rfl
  | false =>
    rw [if_neg Bool.false_ne_true, if_neg Bool.false_ne_true]
    rfl

/-! ## What a taken goal leaves -/

/-- What a head leaves as it was when it takes a goal without an abort: the arbiter, the sequencer, the break monitor, the
link state, the position and what the exchange controller holds besides records and notices. -/
structure HeadKept (s t : State) : Prop where
  arb : t.arb = s.arb
  std : t.std = s.std
  brk : t.brk = s.brk
  up : t.link.up = s.link.up
  filters : t.filters = s.filters
  ex : t.ex = { s.ex with lastRecord := t.ex.lastRecord, skipped := t.ex.skipped, nextFrame := t.ex.nextFrame,
                          notice := t.ex.notice }

theorem HeadKept.trans (h1 : HeadKept s t) (h2 : HeadKept t u) : HeadKept s u where
  arb := h2.arb.trans h1.arb
  std := h2.std.trans h1.std
  brk := h2.brk.trans h1.brk
  up := h2.up.trans h1.up
  filters := h2.filters.trans h1.filters
  ex := by rw [h2.ex, h1.ex]

theorem HeadKept.refl (s : State) : HeadKept s s := ⟨rfl, rfl, rfl, rfl, rfl, rfl⟩

theorem setHead_kept (h : HeadState) (s : State) : HeadKept s (s.setHead h) := by
  unfold State.setHead
  split
  · exact .refl s
  · exact ⟨rfl, rfl, rfl, rfl, rfl, rfl⟩

/-- The drive's own registers are no part of what a taken goal keeps. -/
theorem setTrav_kept (tr : Traverse) (s : State) : HeadKept s { s with trav := tr } := ⟨rfl, rfl, rfl, rfl, rfl, rfl⟩

theorem enterHoming_kept (s : State) : HeadKept s s.enterHoming := by
  have enter := (setTrav_kept { s.trav with homed := false } s).trans (setHead_kept .homing _)
  unfold State.enterHoming
  dsimp only
  split
  · exact enter.trans (setTrav_kept _ _)
  · exact enter

theorem openScan_kept (d : ScanDir) (s : State) : HeadKept s (s.openScan d) := ⟨rfl, rfl, rfl, rfl, rfl, rfl⟩

theorem endBatch_kept (outcome : RecOutcome) (s : State) : HeadKept s (s.endBatch outcome) := by
  have dropped : HeadKept s { s with bin.batch := none } := ⟨rfl, rfl, rfl, rfl, rfl, rfl⟩
  have record : ∀ (v : State) (b : Batch), HeadKept v (v.produceFixed b outcome) := fun v b =>
    ⟨State.produce_arb .., State.produce_std .., State.produce_brk .., by rw [State.produceFixed, State.produce_link],
      State.produce_filters .., produce_ex ..⟩
  unfold State.endBatch
  split
  · exact .refl s
  · cases outcome with
    | brk => exact dropped.trans (record _ _)
    | link => exact dropped.trans (record _ _)
    | fault => exact dropped.trans (record _ _)
    | complete => exact dropped
    | thin => exact dropped
    | aborted => exact dropped

theorem HeadMove.kept (h : HeadMove s t) : HeadKept s t := by
  induction h with
  | stay s => exact .refl s
  | homing s => exact enterHoming_kept s
  | unhomed s => exact (setTrav_kept _ s).trans (setHead_kept _ _)
  | returning s => exact (setTrav_kept _ s).trans (setHead_kept _ _)
  | movingToHold s => exact (setTrav_kept _ s).trans (setHead_kept _ _)
  | standing s => exact setHead_kept _ s
  | stopping s => exact setHead_kept _ s
  | depart s d => exact (setHead_kept _ s).trans (openScan_kept d _)
  | batchEnded outcome _ ih => exact (endBatch_kept outcome _).trans ih
  | stood _ ih => exact (setHead_kept _ _).trans ih

/-! ## FAULT_ACK -/

/-- A fault acknowledge that is taken (R68): from FAULTED by UNHOMED to what the goal asks. -/
structure Acknowledged (s t : State) : Prop where
  frame : t = { s with trav := t.trav, mem := t.mem }
  head : t.trav.head = if s.arb.goal = .stop then .unhomed else .homing
  homed : t.trav.homed = (decide (s.arb.goal ≠ .stop) && s.trav.frontLim)
  position : t.trav.position = if s.arb.goal ≠ .stop ∧ s.trav.frontLim = true
    then Word.ofSigned (-(s.page.homeMargin : Int)) else s.trav.position
  duty : t.trav.duty = 0
  cause : t.trav.faultCause = s.trav.faultCause
  code : t.liveWord 0x038 = t.trav.head.code
  same : ∀ {lo hi : Nat}, hi ≤ 0x08038 ∨ 0x0803C ≤ lo → SameBytes t.mem s.mem lo hi

theorem enterUnhomed_of_faulted (faulted : s.trav.head = .faulted) :
    s.enterUnhomed =
      ({ s with trav := entered .unhomed { s.trav with duty := 0, homed := false } } : State).live 0x038 0 :=
  setHead_of_ne (s := { s with trav := { s.trav with duty := 0, homed := false } })
    (by rw [faulted]; exact HeadState.noConfusion)

theorem takeGoalStill_unhomed {p e : Bool} (unhomed : s.trav.head = .unhomed) :
    s.takeGoalStill p e = if s.arb.goal = .stop then s else s.enterHoming := by
  rw [State.takeGoalStill, unhomed]

theorem acknowledged (faulted : s.trav.head = .faulted) :
    Acknowledged s (s.enterUnhomed.takeGoalStill false false) := by
  have same : ∀ (w : Word) {lo hi : Nat}, hi ≤ 0x08038 ∨ 0x0803C ≤ lo →
      SameBytes (writeWord s.mem 0x08038 w) s.mem lo hi := fun w _ _ out => sameBytes_writeWord _ _ _ out
  let v : State := ({ s with trav := entered .unhomed { s.trav with duty := 0, homed := false } } : State).live 0x038 0
  rw [enterUnhomed_of_faulted faulted, takeGoalStill_unhomed (s := v) rfl]
  by_cases stop : s.arb.goal = .stop
  · rw [if_pos (show v.arb.goal = .stop from stop)]
    exact
      { frame := rfl
        head := (if_pos stop).symm
        homed := by rw [stop]; rfl
        position := (if_neg fun h => h.1 stop).symm
        duty := rfl
        cause := rfl
        code := live_liveWord 0x038 0 _
        same := same 0 }
  · have position : homingPosition v = homingPosition s := by
      unfold homingPosition
      rw [Page.homeMargin, live_page _ _ _ (by decide)]
      rfl
    rw [if_neg (show ¬ v.arb.goal = .stop from stop), enterHoming_of_ne (s := v) HeadState.noConfusion, position]
    exact
      { frame := rfl
        head := (if_neg stop).symm
        homed := by rw [decide_eq_true stop]; rfl
        position := if_congr (by simp [stop]) rfl rfl
        duty := rfl
        cause := rfl
        code := readWord_writeWord_same v.mem 0x08038 1
        same := fun out => sameBytes_trans (sameBytes_writeWord v.mem 0x08038 1 out) (same 0 out) }

/-- Settles O31. -/
theorem faultAck : Obligations.FaultAck := by
  intro v s sound ready
  have settled := sound.settled
  refine ⟨fun ignored => ?_, fun value faulted active => ?_, fun value faulted clear => ?_⟩
  · have none : ∀ d, ¬ (v ≠ 0 ∧ s.trav.head = .faulted ∧ s.trav.drvFault = d) :=
      fun d ⟨value, faulted, _⟩ => ignored.elim value fun other => other faulted
    have run : (s.takeFaultAck v).concludeMode (s.faultAckResult v) = s.concludeMode .accepted := by
      rw [State.takeFaultAck, State.faultAckResult, if_neg (none _), if_neg (none _)]
    have done := concludeMode_concluded .accepted s
    exact completes_rest (f := fun s => (s.takeFaultAck v).concludeMode (s.faultAckResult v)) rfl ready run
      (concludeMode_settled settled) ⟨done.accepted rfl, done.result, done.sameBytes (.inl (Nat.le_refl _)),
        done.sameBytes (.inr (Nat.le_refl _))⟩
  · have run : (s.takeFaultAck v).concludeMode (s.faultAckResult v) = s.concludeMode .faultPersists := by
      have taken : s.takeFaultAck v = s := if_neg fun h => Bool.noConfusion (h.2.2.symm.trans active)
      have result : s.faultAckResult v = .faultPersists := if_pos ⟨value, faulted, active⟩
      rw [taken, result]
    have done := concludeMode_concluded .faultPersists s
    exact completes_rest (f := fun s => (s.takeFaultAck v).concludeMode (s.faultAckResult v)) rfl ready run
      (concludeMode_settled settled) ⟨done.refused Result.noConfusion, done.result, done.sameBytes (.inl (Nat.le_refl _)),
        done.sameBytes (.inr (Nat.le_refl _))⟩
  · let u := s.enterUnhomed.takeGoalStill false false
    have ack : Acknowledged s u := acknowledged faulted
    have run : (s.takeFaultAck v).concludeMode (s.faultAckResult v) = u.concludeMode .accepted := by
      have taken : s.takeFaultAck v = u := if_pos ⟨value, faulted, clear⟩
      have result : s.faultAckResult v = .accepted := if_neg fun h => Bool.noConfusion (h.2.2.symm.trans clear)
      rw [taken, result]
    have rest : u.Settled := by
      have shutter : s.link.shutter = false := by
        rw [settled.shutter, State.shutterDemand, faulted]
        rfl
      have ref : s.link.ref = false := by
        rw [settled.ref, State.refDemand, faulted]
        rfl
      have link : u.link = s.link := by rw [ack.frame]
      have head := ack.head
      by_cases stop : s.arb.goal = .stop
      · rw [if_pos stop] at head
        exact settled_of_shut (by rw [head]; decide) (by rw [head]; decide) (by rw [head]; rfl) (by rw [link, shutter])
          (by rw [link, ref])
      · rw [if_neg stop] at head
        exact settled_of_shut (by rw [head]; decide) (by rw [head]; decide) (by rw [head]; rfl) (by rw [link, shutter])
          (by rw [link, ref])
    have done := concludeMode_concluded .accepted u
    refine completes_rest (f := fun s => (s.takeFaultAck v).concludeMode (s.faultAckResult v)) rfl ready run
      (concludeMode_settled rest) ?_
    · have trav : (u.concludeMode .accepted).trav = u.trav := by rw [done.accepted rfl]
      have arb : u.arb = s.arb := by rw [ack.frame]
      have notice : u.ex.notice = s.ex.notice := by rw [ack.frame]
      have code : (u.concludeMode .accepted).liveWord 0x038 = u.trav.head.code :=
        (readWord_of_sameBytes (done.sameBytes (.inr (Nat.le_refl _))) (hi := 0x40000) (by decide) (by decide)).trans
          ack.code
      rw [trav]
      refine ⟨ack.head, ack.duty, ack.homed, ack.position, ack.cause, by rw [done.accepted rfl]; exact arb,
        by rw [done.accepted rfl], by rw [done.accepted rfl]; exact notice, done.result, code,
        sameBytes_trans (done.sameBytes (.inl (Nat.le_refl _))) (ack.same (by decide)),
        sameBytes_trans (done.sameBytes (.inr (Nat.le_refl _))) (ack.same (by decide)),
        sameBytes_trans (done.sameBytes (.inr (by decide))) (ack.same (by decide))⟩

end Sys2Proof.Proofs
end

section
/-!
PROOFS. The goal record after a command: what a recompute leaves, that the goal is the claims' after every operation that
hands one; the fields STD_NOW and MODE_REQ of a mode write.
-/
namespace Sys2Proof.Proofs

open Sys2Proof.Machine Sys2Proof.Laws

variable {s t u : State}

/-! ## The end of an event -/

/-- Where no standardize waits to be started, the end of an event moves the command word alone (R35). -/
theorem endEvent_frame (rest : s.stdStartDue = false) : s.endEvent = { s with link := s.endEvent.link } := by
  unfold State.endEvent
  rw [stdStart_of_not_due s rest]
  exact commandCompare_frame s

theorem commandCompare_up (s : State) : s.commandCompare.link.up = s.link.up := by
  unfold State.commandCompare
  split <;> rfl

/-- What the end of an event never moves. -/
structure EndKept (s t : State) : Prop where
  ex : t.ex = s.ex
  arb : t.arb = s.arb
  brk : t.brk = s.brk
  up : t.link.up = s.link.up
  stdNow : t.std.stdNow = s.std.stdNow
  due : t.std.due = s.std.due
  filters : t.filters = s.filters

theorem endEvent_kept (s : State) : EndKept s s.endEvent := by
  unfold State.endEvent
  rw [commandCompare_frame]
  cases due : s.stdStartDue with
  | false =>
    rw [stdStart_of_not_due s due]
    exact ⟨rfl, rfl, rfl, commandCompare_up s, rfl, rfl, rfl⟩
  | true =>
    unfold State.stdStart
    rw [if_pos due]
    exact ⟨State.setHead_ex .., State.setHead_arb .., State.setHead_brk ..,
      (commandCompare_up _).trans (by rw [State.setHead_link]), by dsimp only; rw [State.setHead_std],
      by dsimp only; rw [State.setHead_std], State.setHead_filters ..⟩

/-! ## The claims (R74) -/

theorem claimedGoal_congr (brk : t.breakDemand = s.breakDemand) (link : t.linkDemand = s.linkDemand)
    (park : t.arb.panelPark = s.arb.panelPark) (request : t.ex.reqMode = s.ex.reqMode)
    (stdNow : t.std.stdNow = s.std.stdNow) (due : t.std.due = s.std.due) : t.claimedGoal = s.claimedGoal := by
  unfold State.claimedGoal
  rw [brk, link, park, request, stdNow, due]

theorem linkDemand_congr (life : t.ex.life = s.ex.life) (up : t.link.up = s.link.up) : t.linkDemand = s.linkDemand := by
  unfold State.linkDemand
  rw [life, up]

theorem breakDemand_congr (h : t.brk.state = s.brk.state) : t.breakDemand = s.breakDemand := by
  unfold State.breakDemand
  rw [h]

/-- The goal record's goal is the claims' (R73). -/
def GoalFits (s : State) : Prop := s.arb.goal = s.claimedGoal

theorem HeadKept.claims (h : HeadKept s t) : t.claimedGoal = s.claimedGoal :=
  claimedGoal_congr (breakDemand_congr (by rw [h.brk])) (linkDemand_congr (by rw [h.ex]) h.up) (by rw [h.arb])
    (by rw [h.ex]) (by rw [h.std]) (by rw [h.std])

theorem HeadKept.fits (h : HeadKept s t) (fits : GoalFits s) : GoalFits t := by
  unfold GoalFits
  rw [h.arb, h.claims]
  exact fits

theorem EndKept.fits (h : EndKept s t) (fits : GoalFits s) : GoalFits t := by
  unfold GoalFits
  rw [claimedGoal_congr (breakDemand_congr (by rw [h.brk])) (linkDemand_congr (by rw [h.ex]) h.up) (by rw [h.arb])
    (by rw [h.ex]) h.stdNow h.due, h.arb]
  exact fits

theorem recompute_panelPark (ev : GoalEvent) (s : State) :
    (s.recompute ev).state.arb.panelPark = s.arb.panelPark :=
  ((recompute_evolves (own := ∅) ev).frame.panel (Set.notMem_empty _)).1

/-- A recompute does not move the claims that it reads. -/
theorem recompute_claims (ev : GoalEvent) (s : State) : (s.recompute ev).state.claimedGoal = s.claimedGoal := by
  have frame := recompute_frame s ev
  exact claimedGoal_congr (breakDemand_congr (by rw [frame])) (linkDemand_congr (by rw [frame]) (by rw [frame]))
    (recompute_panelPark ev s) (by rw [frame]) (by rw [frame]) (by rw [frame])

theorem recompute_fits (ev : GoalEvent) (s : State) : GoalFits (s.recompute ev).state :=
  (recompute_goal s ev).trans (recompute_claims ev s).symm

/-- A recompute changes the record exactly where the goal, the permission or a taken hold position differs (R73). -/
theorem recompute_changed_iff (ev : GoalEvent) (s : State) :
    (s.recompute ev).changed = true ↔ s.claimedGoal ≠ s.arb.goal ∨ (!s.arb.panelInhibit) ≠ s.arb.granted ∨
      (s.claimedGoal = .hold ∧ s.ex.holdPos ≠ s.arb.holdPos) := by
  unfold State.recompute
  dsimp only
  split
  · rename_i h
    exact iff_of_true rfl (h.imp_right (Or.imp_right of_decide_eq_true))
  · rename_i h
    exact iff_of_false Bool.false_ne_true fun differs => h (differs.imp_right (Or.imp_right decide_eq_true))

theorem live_kept (off : Nat) (w : Word) (s : State) : HeadKept s (s.live off w) := ⟨rfl, rfl, rfl, rfl, rfl, rfl⟩

/-! ## Every operation that hands a goal leaves the claims' goal -/

theorem takeWatch_breakDemand (s : State) : s.takeWatch.2.breakDemand = s.breakDemand := by
  have moved : ∀ (v : State) (b : BreakState), b ≠ .broken → (v.setBreakState b).breakDemand = false := by
    intro v b other
    rw [State.breakDemand, State.setBreakState_state, decide_eq_false other]
  unfold State.takeWatch
  cases state : s.brk.state with
  | broken => rfl
  | disarmed =>
    dsimp only
    have idle : s.breakDemand = false := by rw [State.breakDemand, state]; rfl
    split
    · exact (moved _ .watch BreakState.noConfusion).trans idle.symm
    · rfl
  | watch =>
    dsimp only
    have idle : s.breakDemand = false := by rw [State.breakDemand, state]; rfl
    split
    · rfl
    · exact (moved _ .disarmed BreakState.noConfusion).trans idle.symm

/-- Of the blocks that the arbiter reads, the watch moves the break monitor alone. -/
theorem takeWatch_frame (s : State) :
    s.takeWatch.2 = { s with brk := s.takeWatch.2.brk, mem := s.takeWatch.2.mem } := by
  have set : ∀ (v : State) (b : BreakState), v.setBreakState b =
      { v with brk := (v.setBreakState b).brk, mem := (v.setBreakState b).mem } := by
    intro v b
    unfold State.setBreakState
    split <;> rfl
  unfold State.takeWatch
  split
  · rfl
  · split
    · exact set _ _
    · rfl
  · split
    · rfl
    · exact set _ _

theorem takeWatch_fits (fits : GoalFits s) : GoalFits s.takeWatch.2 := by
  have frame := takeWatch_frame s
  have claims : s.takeWatch.2.claimedGoal = s.claimedGoal :=
    claimedGoal_congr (takeWatch_breakDemand s) (linkDemand_congr (by rw [frame]) (by rw [frame])) (by rw [frame])
      (by rw [frame]) (by rw [frame]) (by rw [frame])
  have arb : s.takeWatch.2.arb = s.arb := by rw [frame]
  unfold GoalFits
  rw [claims, arb]
  exact fits

theorem writeHistory_fits (head : HeadState) (cues : BitVec 4) (pos cuePos : Word) (work : OpenWork) (record : Word)
    (fits : GoalFits s) : GoalFits (s.writeHistory head cues pos cuePos work record) := by
  have claims : (s.writeHistory head cues pos cuePos work record).claimedGoal = s.claimedGoal :=
    claimedGoal_congr rfl rfl rfl rfl rfl rfl
  unfold GoalFits
  rw [claims, State.writeHistory_arb]
  exact fits

theorem setNotice_fits (n : Notice) (fits : GoalFits s) : GoalFits (s.setNotice n) := by
  have claims : (s.setNotice n).claimedGoal = s.claimedGoal := claimedGoal_congr rfl rfl rfl rfl rfl rfl
  unfold GoalFits
  rw [claims, State.setNotice_arb]
  exact fits

theorem declareAtApply_fits (s : State) : GoalFits s.declareAtApply.state :=
  setNotice_fits .brk (writeHistory_fits _ _ _ _ _ _ (recompute_fits .breakRaised s.breakStart))

theorem applyBreak_fits (h : ApplyHandoff) (fits : GoalFits s) : GoalFits (s.applyBreak h).state := by
  unfold State.applyBreak
  dsimp only
  split
  · exact recompute_fits _ _
  · split
    · exact declareAtApply_fits _
    · exact takeWatch_fits (s := s.applyCounts h) fits

theorem applyTake_fits (fits : GoalFits s) : GoalFits s.applyTake.state := by
  cases check : validatePage s.staged with
  | some f =>
    obtain ⟨code, off⟩ := f
    rw [applyTake_refused s check]
    show GoalFits (s.refuseApply code off)
    rw [refuseApply_eq]
    exact fits
  | none =>
    rw [applyTake_accepted s check]
    exact applyBreak_fits _ (recompute_fits _ _)

theorem applyPoint_fits (fits : GoalFits s) : GoalFits s.applyPoint.state := by
  cases pending : s.ex.applyPending with
  | false => rw [applyPoint_idle s pending]; exact fits
  | true => rw [applyPoint_pending s pending]; exact applyTake_fits fits

theorem abortScan_kept (outcome : RecOutcome) (s : State) : HeadKept s (s.abortScan outcome) := by
  unfold State.abortScan
  split
  · exact .refl s
  · rename_i ctx _
    have record : HeadKept s (s.profileAbort ctx outcome) :=
      ⟨State.produce_arb .., State.produce_std .., State.produce_brk .., by rw [State.profileAbort, State.produce_link],
        State.produce_filters .., produce_ex ..⟩
    have closed : HeadKept (s.profileAbort ctx outcome) { s.profileAbort ctx outcome with bin.scan := none } :=
      ⟨rfl, rfl, rfl, rfl, rfl, rfl⟩
    exact (record.trans closed).trans (live_kept _ _ _)

theorem enterAborted_move (g : Goal) (s : State) : HeadMove s (s.enterAborted g) := by
  cases g with
  | park => exact .returning s
  | stop => exact .stopping s
  | home => exact .homing s
  | hold => exact .movingToHold s
  | scan => exact .stay s
  | standardize => exact .stay s

theorem takeGoalStill_kept (p e : Bool) (s : State) : HeadKept s (s.takeGoalStill p e) := (takeGoalStill_move p e s).kept

theorem thenEnter_kept (r : Recomputed) {step : State → State} (h : ∀ v, HeadKept v (step v)) :
    HeadKept r.state (r.thenEnter step) := by
  have both : HeadKept r.state
      (if r.changed then (step r.state).takeGoalStill r.posChanged false else step r.state) := by
    split
    · exact (h _).trans (takeGoalStill_kept _ _ _)
    · exact h _
  unfold Recomputed.thenEnter
  split
  case h_1 => exact .refl _
  case h_2 => exact takeGoalStill_kept _ _ _
  all_goals exact both

theorem abortForGoal_fits (fits : GoalFits s) : GoalFits s.abortForGoal :=
  (thenEnter_kept _ fun v => (enterAborted_move s.arb.goal v).kept).fits
    (applyPoint_fits ((abortScan_kept s.arb.cause.outcome s).fits fits))

theorem settle_fits {r : Recomputed} (fits : GoalFits r.state) : GoalFits r.settle := by
  unfold Recomputed.settle
  split
  · exact (takeGoalStill_kept _ _ _).fits fits
  · exact fits

theorem takeGoal_fits (p : Bool) (fits : GoalFits s) : GoalFits (s.takeGoal p) := by
  have still := (takeGoalStill_kept p false s).fits fits
  have abort := abortForGoal_fits fits
  have home : GoalFits s.abandonForHome := settle_fits (recompute_fits _ _)
  unfold State.takeGoal
  split
  iterate 2
    split
    iterate 2 exact fits
    iterate 4 exact abort
  · split
    · exact home
    · exact fits
  all_goals exact still

theorem handGoal_fits (ev : GoalEvent) (s : State) : GoalFits (s.handGoal ev) := by
  rcases handGoal_cases s ev with ⟨-, e⟩ | ⟨-, e⟩
  · rw [e]
    exact recompute_fits ev s
  · rw [e]
    exact takeGoal_fits _ (recompute_fits ev s)

theorem Concluded.fits {r : Result} (h : Concluded r s t) (fits : GoalFits s) : GoalFits t := by
  by_cases accepted : r = .accepted
  · rw [h.accepted accepted]
    exact fits
  · rw [h.refused accepted]
    exact fits

/-! ## STD_NOW -/

/-- With no request of the host for another goal than the scan's, STD_NOW gives the goal STANDARDIZE; else it gives what
was given without it. -/
theorem claimedGoal_stdNow (s : State) :
    ({ s with std.stdNow := true } : State).claimedGoal = .standardize ∨
      (({ s with std.stdNow := true } : State).claimedGoal = s.claimedGoal ∧ s.claimedGoal ≠ .hold) := by
  unfold State.claimedGoal
  have demands : ({ s with std.stdNow := true } : State).breakDemand = s.breakDemand ∧
    ({ s with std.stdNow := true } : State).linkDemand = s.linkDemand := ⟨rfl, rfl⟩
  rw [demands.1, demands.2]
  dsimp only
  by_cases demand : (s.breakDemand || s.linkDemand || s.arb.panelPark) = true
  · rw [if_pos demand, if_pos demand]
    exact .inr ⟨rfl, Goal.noConfusion⟩
  · rw [if_neg demand, if_neg demand]
    cases s.ex.reqMode with
    | stop => exact .inr ⟨rfl, Goal.noConfusion⟩
    | home => exact .inr ⟨rfl, Goal.noConfusion⟩
    | park => exact .inl rfl
    | scan => exact .inl (if_pos (Bool.or_true _))
    | hold => exact .inl (if_pos (Bool.or_true _))

theorem claimedGoal_of_stdNow (broken : s.brk.state ≠ .broken) (up : s.link.up = true) (park : s.arb.panelPark = false)
    (stop : s.ex.reqMode ≠ .stop) (home : s.ex.reqMode ≠ .home) :
    ({ s with std.stdNow := true } : State).claimedGoal = .standardize := by
  unfold State.claimedGoal
  have demand : (({ s with std.stdNow := true } : State).breakDemand ||
      ({ s with std.stdNow := true } : State).linkDemand || s.arb.panelPark) = false := by
    simp [State.breakDemand, State.linkDemand, broken, up, park]
  dsimp only
  rw [if_neg (by rw [demand]; exact Bool.false_ne_true)]
  cases request : s.ex.reqMode with
  | stop => exact absurd request stop
  | home => exact absurd request home
  | park => exact if_pos rfl
  | scan => exact if_pos (Bool.or_true _)
  | hold => exact if_pos (Bool.or_true _)

/-- Under the goal STANDARDIZE the head goes on, or returns (R54, R57, R60, R63). -/
theorem takeGoal_standardize (p : Bool) (goal : s.arb.goal = .standardize) : HeadMove s (s.takeGoal p) := by
  unfold State.takeGoal
  rw [goal]
  split
  iterate 2 exact .stay s
  · exact .stay s
  all_goals exact takeGoalStill_move p false s

theorem takeGoal_parked_standardize (p : Bool) (goal : s.arb.goal = .standardize) (parked : s.trav.head = .parked) :
    s.takeGoal p = s := by
  unfold State.takeGoal State.takeGoalStill
  rw [parked, goal]

/-- STD_NOW by itself hands STANDARDIZE or nothing. -/
theorem stdNow_goal (sound : s.Sound) (ready : s.ex.life = .ready) (granted : s.arb.granted = !s.arb.panelInhibit)
    (changed : (({ s with std.stdNow := true } : State).recompute .other).changed = true) :
    ({ s with std.stdNow := true } : State).claimedGoal = .standardize := by
  rcases claimedGoal_stdNow s with std | ⟨same, hold⟩
  · exact std
  · rcases (recompute_changed_iff _ _).1 changed with goal | permission | position
    · exact absurd (same.trans (sound.goal.goal ready).symm) goal
    · exact absurd granted.symm permission
    · exact absurd (same.symm.trans position.1) hold

/-- What a recompute leaves, with the goal that the claims give. -/
theorem recompute_ex (ev : GoalEvent) (s : State) :
    (s.recompute ev).state.ex = s.ex ∧ (s.recompute ev).state.std = s.std ∧ (s.recompute ev).state.trav = s.trav ∧
      (s.recompute ev).state.link = s.link ∧ (s.recompute ev).state.bin = s.bin ∧
      (s.recompute ev).state.filters = s.filters ∧ (s.recompute ev).state.brk = s.brk := by
  rw [recompute_frame s ev]
  exact ⟨rfl, rfl, rfl, rfl, rfl, rfl, rfl⟩

/-- The goal is handed without an apply point: the head moves under it. -/
theorem handGoal_stdNow (sound : s.Sound) (ready : s.ex.life = .ready) (granted : s.arb.granted = !s.arb.panelInhibit) :
    HeadMove (({ s with std.stdNow := true } : State).recompute .other).state
      (({ s with std.stdNow := true } : State).handGoal .other) := by
  rcases handGoal_cases { s with std.stdNow := true } .other with ⟨-, e⟩ | ⟨changed, e⟩
  · rw [e]
    exact .stay _
  · rw [e]
    exact takeGoal_standardize _ ((recompute_goal _ _).trans (stdNow_goal sound ready granted changed))

/-- A head PARKED stays so under the goal STANDARDIZE: the end of the event starts the standardize. -/
theorem handGoal_stdNow_parked (parked : s.trav.head = .parked)
    (goal : ({ s with std.stdNow := true } : State).claimedGoal = .standardize) :
    ({ s with std.stdNow := true } : State).handGoal .other =
      (({ s with std.stdNow := true } : State).recompute .other).state := by
  obtain ⟨-, -, trav, -⟩ := recompute_ex .other { s with std.stdNow := true }
  rcases handGoal_cases { s with std.stdNow := true } .other with ⟨-, e⟩ | ⟨-, e⟩
  · exact e
  · rw [e, takeGoal_parked_standardize _ ((recompute_goal _ _).trans goal) (by rw [trav]; exact parked)]

/-- A standardize starts at the end of the event (R111). -/
structure StdStarted (s t : State) : Prop where
  head : t.trav.head = .standardizing
  shutter : t.link.shutter = true
  ref : t.link.ref = false
  ctx : ∃ ctx, t.std.ctx = some ctx ∧ ctx.phase = .settleOpen ∧ ctx.count = 0 ∧
    ctx.startTime = s.link.timeCounter ∧ ctx.chans.map StdChan.chan = s.page.enabledChannels

theorem endEvent_started (due : s.stdStartDue = true) : StdStarted s s.endEvent := by
  have head : s.stdStart.trav.head = .standardizing := by
    unfold State.stdStart
    rw [if_pos due]
    exact setHead_head _ _
  have ctx : ∃ ctx, s.stdStart.std.ctx = some ctx ∧ ctx.phase = .settleOpen ∧ ctx.count = 0 ∧
      ctx.startTime = s.link.timeCounter ∧ ctx.chans.map StdChan.chan = s.page.enabledChannels := by
    unfold State.stdStart
    rw [if_pos due]
    dsimp only
    rw [State.setHead_std]
    refine ⟨_, rfl, rfl, rfl, rfl, ?_⟩
    rw [List.map_map]
    exact List.map_id _
  obtain ⟨shutter, ref⟩ := endEvent_carries s
  have frame : s.endEvent = { s.stdStart with link := s.endEvent.link } := commandCompare_frame s.stdStart
  have demand : s.endEvent.shutterDemand = s.stdStart.shutterDemand ∧ s.endEvent.refDemand = s.stdStart.refDemand := by
    rw [frame]
    exact ⟨rfl, rfl⟩
  obtain ⟨c, some, phase, rest⟩ := ctx
  refine ⟨by rw [frame]; exact head, ?_, ?_, c, by rw [frame]; exact some, phase, rest⟩
  · rw [shutter, demand.1, State.shutterDemand, if_pos head, some]
    rfl
  · rw [ref, demand.2, State.refDemand, some]
    simp [phase, StdPhase.refIn]

/-- Settles O30. -/
theorem stdNow : Obligations.StdNow := by
  intro v s sound ready
  let asked : State := { s with std.stdNow := true }
  refine ⟨fun value granted => ?_, fun zero => ?_⟩
  · have run : (if v = 0 then s else (s.takeStdNow v).handGoal .other).concludeMode .accepted =
        (asked.handGoal .other).concludeMode .accepted := by
      have taken : s.takeStdNow v = asked := if_neg value
      rw [if_neg value, taken]
    have done := concludeMode_concluded .accepted (asked.handGoal .other)
    have kept := (handGoal_stdNow sound ready granted).kept
    obtain ⟨ex, std, trav, link, -⟩ := recompute_ex .other asked
    have ended := endEvent_kept ((asked.handGoal .other).concludeMode .accepted)
    refine completes_run (f := fun s => (if v = 0 then s else (s.takeStdNow v).handGoal .other).concludeMode .accepted)
      rfl ready run ⟨?_, ?_, ?_, fun broken up park stop home => ?_⟩
    · rw [ended.stdNow, done.accepted rfl]
      dsimp only
      rw [kept.std, std]
    · rw [ended.ex, done.accepted rfl]
    · rw [ended.ex, done.accepted rfl]
      dsimp only
      rw [kept.ex]
      dsimp only
      rw [ex]
    · have goal : asked.claimedGoal = .standardize := claimedGoal_of_stdNow broken up park stop home
      have arb : (asked.handGoal .other).arb.goal = .standardize := by
        rw [kept.arb]
        exact (recompute_goal asked .other).trans goal
      refine ⟨by rw [ended.arb, done.accepted rfl]; exact arb, fun parked => ?_⟩
      have stays : asked.handGoal .other = (asked.recompute .other).state := handGoal_stdNow_parked parked goal
      have due : ((asked.handGoal .other).concludeMode .accepted).stdStartDue = true := by
        rw [done.accepted rfl, State.stdStartDue]
        dsimp only
        rw [arb, stays, trav, link]
        simp [asked, parked, up]
      obtain ⟨head, shutter, ref, ctx, some, phase, count, time, chans⟩ := endEvent_started due
      refine ⟨head, shutter, ref, ctx, some, phase, count, time.trans ?_, chans.trans (enabledChannels_congr ?_)⟩
      · rw [done.accepted rfl]
        dsimp only
        rw [stays, link]
      · intro off bound
        refine page_of_sameBytes (sameBytes_trans (done.sameBytes (.inl (by decide))) ?_) bound
        rw [stays]
        exact recompute_sameBytes asked .other (.inl (by decide))
  · have run : (if v = 0 then s else (s.takeStdNow v).handGoal .other).concludeMode .accepted = s.concludeMode .accepted := by
      rw [if_pos zero]
    have done := concludeMode_concluded .accepted s
    exact completes_rest (f := fun s => (if v = 0 then s else (s.takeStdNow v).handGoal .other).concludeMode .accepted)
      rfl ready run (concludeMode_settled sound.settled)
      ⟨done.accepted rfl, done.result, done.sameBytes (.inl (Nat.le_refl _)), done.sameBytes (.inr (Nat.le_refl _))⟩

end Sys2Proof.Proofs
end

section
/-!
PROOFS. A mode request: the request held and shown, what the recompute gives, and the head that takes it.
-/
namespace Sys2Proof.Proofs

open Sys2Proof.Machine Sys2Proof.Laws

variable {s t u v w : State}

/-! ## The request -/

theorem ofWord_code (m : ReqMode) : ReqMode.ofWord m.code = some m := by cases m <;> rfl

theorem ofWord_eq_some {req : Word} (low : 1 ≤ req.toNat) (high : req.toNat ≤ 5) :
    ∃ m, ReqMode.ofWord req = some m ∧ m.code = req := by
  have cases_ : req = 1 ∨ req = 2 ∨ req = 3 ∨ req = 4 ∨ req = 5 := by bv_omega
  rcases cases_ with rfl | rfl | rfl | rfl | rfl
  · exact ⟨.scan, rfl, rfl⟩
  · exact ⟨.hold, rfl, rfl⟩
  · exact ⟨.park, rfl, rfl⟩
  · exact ⟨.stop, rfl, rfl⟩
  · exact ⟨.home, rfl, rfl⟩

theorem ofWord_eq_none {req : Word} (h : req = 0 ∨ 5 < req.toNat) : ReqMode.ofWord req = none := by
  unfold ReqMode.ofWord
  rw [if_neg (by bv_omega), if_neg (by bv_omega), if_neg (by bv_omega), if_neg (by bv_omega), if_neg (by bv_omega)]

/-- A request that is not refused (R14). -/
theorem modeReqResult_accepted (m : ReqMode) (channels : m = .scan ∨ m = .hold → s.page.enabledChannels ≠ []) :
    s.modeReqResult m.code = .accepted := by
  unfold State.modeReqResult
  rw [ofWord_code]
  cases m with
  | scan => exact if_neg (channels (.inl rfl))
  | hold => exact if_neg (channels (.inr rfl))
  | park => rfl
  | stop => rfl
  | home => rfl

/-- A refused request hands nothing. -/
theorem takeRequests_refused {req holdPos : Word} (refused : s.modeReqResult req ≠ .accepted) :
    s.takeRequests req holdPos 0 = s := by
  have none : s.takeModeReq req holdPos = s := if_neg refused
  unfold State.takeRequests
  dsimp only
  rw [if_neg (by simp [refused]), none]
  exact if_pos rfl

theorem takeRequests_accepted {m : ReqMode} {holdPos : Word} (accepted : s.modeReqResult m.code = .accepted) :
    s.takeRequests m.code holdPos 0 = (s.acceptMode m holdPos).handGoal .other := by
  have taken : s.takeModeReq m.code holdPos = s.acceptMode m holdPos := by
    unfold State.takeModeReq
    rw [if_pos accepted, ofWord_code]
  unfold State.takeRequests
  dsimp only
  rw [if_pos (.inl accepted), taken]
  exact congrArg _ (if_pos rfl)

/-- The request is held and shown (R14). -/
structure Requested (m : ReqMode) (pos : Int) (s t : State) : Prop where
  frame : t = { s with mem := t.mem, ex := { s.ex with reqMode := m, holdPos := pos } }
  word : t.liveWord 0x014 = m.code
  same : ∀ {lo hi : Nat}, hi ≤ 0x08014 ∨ 0x0801C ≤ lo → SameBytes t.mem s.mem lo hi

theorem acceptMode_requested (m : ReqMode) (holdPos : Word) (s : State) :
    Requested m (if m = .hold then s.heldPosition holdPos else s.ex.holdPos) s (s.acceptMode m holdPos) := by
  have shown : ∀ (v : State) {lo hi : Nat}, hi ≤ 0x08014 ∨ 0x0801C ≤ lo →
      SameBytes (v.live 0x014 m.code).mem v.mem lo hi := fun v _ _ out =>
    live_sameBytes v 0x014 _ (by simp only [liveBase]; omega)
  unfold State.acceptMode
  by_cases hold : m = .hold
  · rw [if_pos hold, if_pos hold]
    refine ⟨rfl, ?_, fun out => sameBytes_trans (live_sameBytes _ 0x018 _ (by simp only [liveBase]; omega)) (shown _ out)⟩
    exact (readWord_writeWord_other _ _ _ _ (.inl (by decide))).trans (live_liveWord 0x014 m.code _)
  · rw [if_neg hold, if_neg hold]
    exact ⟨rfl, live_liveWord 0x014 m.code _, fun out => shown { s with ex.reqMode := m } out⟩

/-- The registers of the request after the goal is handed, the result shown and the event ended. -/
theorem modeReq_kept (h : Requested m pos s u) :
    let t := ((u.handGoal .other).concludeMode .accepted).endEvent
    t.ex.reqMode = m ∧ t.ex.holdPos = pos ∧ t.ex.gateResult = .accepted ∧ t.liveWord 0x010 = 1 ∧
      t.liveWord 0x014 = m.code ∧ t.arb.goal = t.claimedGoal := by
  have ended := endEvent_kept ((u.handGoal .other).concludeMode .accepted)
  have done := concludeMode_concluded .accepted (u.handGoal .other)
  have handed := handGoal_evolves (own := ∅) (s := u) .other
  have end_ := endEvent_evolves (own := ∅) (s := (u.handGoal .other).concludeMode .accepted)
  obtain ⟨mode, pos⟩ := handed.frame.request (Set.notMem_empty _)
  have words := handed.frame.requestWords (Set.notMem_empty _)
  have endWords := end_.frame.requestWords (Set.notMem_empty _)
  have endResult := end_.frame.modeResult (Set.notMem_empty _)
  dsimp only
  refine ⟨?_, ?_, ?_, ?_, ?_, ended.fits (done.fits (handGoal_fits _ _))⟩
  · rw [ended.ex, done.accepted rfl]
    exact mode.trans (by rw [h.frame])
  · rw [ended.ex, done.accepted rfl]
    exact pos.trans (by rw [h.frame])
  · rw [ended.ex, done.accepted rfl]
  · exact (readWord_of_sameBytes endResult (by decide) (by decide)).trans done.result
  · refine (readWord_of_sameBytes endWords (by decide) (by decide)).trans ?_
    refine (readWord_of_sameBytes (done.sameBytes (.inr (by decide))) (lo := 0x08014) (hi := 0x0801C) (by decide)
      (by decide)).trans ?_
    exact (readWord_of_sameBytes words (by decide) (by decide)).trans h.word

theorem modeReq_refused {req holdPos : Word} {r : Result} (sound : s.Sound) (ready : s.ex.life = .ready)
    (result : s.modeReqResult req = r) (refused : r ≠ .accepted) :
    Completes (.modeReq req holdPos) s (fun t =>
      t = { s with mem := t.mem, ex := { s.ex with gateResult := r, notice := s.ex.notice ||| 64#13 } } ∧
      t.liveWord 0x010 = r.code ∧ SameBytes t.mem s.mem 0 0x08010 ∧ SameBytes t.mem s.mem 0x08014 0x40000) := by
  have run : (s.takeRequests req holdPos 0).concludeMode (s.modeReqResult req) = s.concludeMode r := by
    rw [result, takeRequests_refused (by rw [result]; exact refused)]
  have done := concludeMode_concluded r s
  exact completes_rest (f := fun s => (s.takeRequests req holdPos 0).concludeMode (s.modeReqResult req)) rfl ready run
    (concludeMode_settled sound.settled)
    ⟨done.refused refused, done.result, done.sameBytes (.inl (Nat.le_refl _)), done.sameBytes (.inr (Nat.le_refl _))⟩

/-- A request that is accepted runs as: held, handed, answered. -/
theorem completes_modeReq {P : State → Prop} (m : ReqMode) (holdPos : Word) (ready : s.ex.life = .ready)
    (channels : m = .scan ∨ m = .hold → s.page.enabledChannels ≠ [])
    (h : P (((s.acceptMode m holdPos).handGoal .other).concludeMode .accepted).endEvent) :
    Completes (.modeReq m.code holdPos) s P := by
  have accepted := modeReqResult_accepted m channels
  refine completes_run (f := fun s => (s.takeRequests m.code holdPos 0).concludeMode (s.modeReqResult m.code)) rfl ready ?_ h
  rw [accepted, takeRequests_accepted accepted]

/-- The clauses of MODE_REQ by the value of the request. -/
theorem modeReq_fields (req holdPos : Word) (s : State) (sound : s.Sound) (ready : s.ex.life = .ready) :
    ((req = 0 ∨ 5 < req.toNat) → Completes (.modeReq req holdPos) s (fun t =>
      t = { s with mem := t.mem, ex := { s.ex with gateResult := .badMode, notice := s.ex.notice ||| 64#13 } } ∧
      t.liveWord 0x010 = 11 ∧ SameBytes t.mem s.mem 0 0x08010 ∧ SameBytes t.mem s.mem 0x08014 0x40000)) ∧
    ((req = 1 ∨ req = 2) → s.page.enabledChannels = [] → Completes (.modeReq req holdPos) s (fun t =>
      t = { s with mem := t.mem, ex := { s.ex with gateResult := .noChannels, notice := s.ex.notice ||| 64#13 } } ∧
      t.liveWord 0x010 = 12 ∧ SameBytes t.mem s.mem 0 0x08010 ∧ SameBytes t.mem s.mem 0x08014 0x40000)) ∧
    (1 ≤ req.toNat → req.toNat ≤ 5 → (req.toNat ≤ 2 → s.page.enabledChannels ≠ []) →
      Completes (.modeReq req holdPos) s (fun t =>
        t.ex.reqMode.code = req ∧ t.liveWord 0x014 = req ∧ t.ex.gateResult = .accepted ∧ t.liveWord 0x010 = 1 ∧
        t.ex.holdPos = (if req = 2 then clampInt s.page.fTurn s.page.bTurn holdPos.toInt else s.ex.holdPos) ∧
        t.arb.goal = t.claimedGoal)) := by
  refine ⟨fun bad => ?_, fun mode none => ?_, fun low high channels => ?_⟩
  · refine modeReq_refused (r := .badMode) sound ready ?_ Result.noConfusion
    unfold State.modeReqResult
    rw [ofWord_eq_none bad]
  · refine modeReq_refused (r := .noChannels) sound ready ?_ Result.noConfusion
    unfold State.modeReqResult
    rcases mode with rfl | rfl
    · exact if_pos none
    · exact if_pos none
  · obtain ⟨m, -, rfl⟩ := ofWord_eq_some low high
    refine completes_modeReq m holdPos ready (fun h => channels (by rcases h with rfl | rfl <;> decide)) ?_
    obtain ⟨mode, pos, result, code, word, goal⟩ := modeReq_kept (acceptMode_requested m holdPos s)
    refine ⟨congrArg ReqMode.code mode, word, result, code, pos.trans (if_congr ?_ rfl rfl), goal⟩
    cases m <;> decide

end Sys2Proof.Proofs
end

section
/-!
PROOFS. What the head does with an accepted request where nothing else demands it (R57, R58, R61, R63).
-/
namespace Sys2Proof.Proofs

open Sys2Proof.Machine Sys2Proof.Laws

variable {s t u v w : State}

/-! ## The goal of a request -/

/-- The goal that a request gives where no claim stands above it (R74). -/
def goalOf : ReqMode → Goal
  | .scan => .scan | .hold => .hold | .park => .park | .stop => .stop | .home => .home

/-- No break, no link loss, no panel demand, no standardize and no apply waits. -/
structure Undisturbed (s : State) : Prop where
  broken : s.brk.state ≠ .broken
  up : s.link.up = true
  park : s.arb.panelPark = false
  inhibit : s.arb.panelInhibit = false
  due : s.std.due = false
  stdNow : s.std.stdNow = false
  idle : s.ex.applyPending = false

theorem no_demand (broken : s.brk.state ≠ .broken) (up : s.link.up = true) (park : s.arb.panelPark = false) :
    (s.breakDemand || s.linkDemand || s.arb.panelPark) = false := by
  simp [State.breakDemand, State.linkDemand, broken, up, park]

theorem Undisturbed.claims (h : Undisturbed s) : s.claimedGoal = goalOf s.ex.reqMode := by
  unfold State.claimedGoal
  rw [if_neg (by rw [no_demand h.broken h.up h.park]; exact Bool.false_ne_true), h.due, h.stdNow]
  cases s.ex.reqMode <;> rfl

/-- What a recompute that changes the record leaves. -/
structure GoalGiven (g : Goal) (s v : State) : Prop where
  goal : v.arb.goal = g
  claims : v.claimedGoal = g
  granted : v.arb.granted = !s.arb.panelInhibit
  cause : v.arb.cause = goalCauseOf .other g
  trav : v.trav = s.trav
  std : v.std = s.std
  link : v.link = s.link
  bin : v.bin = s.bin
  filters : v.filters = s.filters
  alarms : v.alarms = s.alarms
  brk : v.brk = s.brk
  ex : v.ex = { s.ex with reqMode := v.ex.reqMode, holdPos := v.ex.holdPos }
  same : ∀ {lo hi : Nat}, hi ≤ 0x08014 ∨ 0x08044 ≤ lo → SameBytes v.mem s.mem lo hi

theorem recompute_cause (ev : GoalEvent) (changed : (s.recompute ev).changed = true) :
    (s.recompute ev).state.arb.cause = goalCauseOf ev s.claimedGoal := by
  revert changed
  unfold State.recompute
  dsimp only
  split
  · exact fun _ => rfl
  · exact fun no => absurd no Bool.false_ne_true

/-- A request that changes the goal is handed to the head (R73). -/
theorem request_given {m : ReqMode} {pos : Int} {g : Goal} (h : Requested m pos s u) (claims : u.claimedGoal = g)
    (differs : g ≠ s.arb.goal) :
    ∃ v p, GoalGiven g s v ∧ u.handGoal .other = v.takeGoal p := by
  have arb : u.arb = s.arb := by rw [h.frame]
  have changed : (u.recompute .other).changed = true :=
    (recompute_changed_iff _ _).2 (.inl (by rw [claims, arb]; exact differs))
  have frame := recompute_frame u .other
  have same := fun {lo hi : Nat} => recompute_sameBytes u .other (lo := lo) (hi := hi)
  have granted := recompute_granted u .other
  have cause := recompute_cause .other changed
  have goal := recompute_goal u .other
  rcases handGoal_cases u .other with ⟨no, -⟩ | ⟨-, handed⟩
  · rw [changed] at no
    cases no
  · refine ⟨_, _, ⟨goal.trans claims, (recompute_claims .other u).trans claims, by rw [granted, arb],
      by rw [cause, claims], ?_, ?_, ?_, ?_, ?_, ?_, ?_, ?_, ?_⟩, handed⟩
    iterate 8 rw [frame, h.frame]
    exact fun out => sameBytes_trans (same (by omega)) (h.same (by omega))

/-! ## The answer -/

/-- The state after the result is shown and the event has ended, where no standardize waits to be started. -/
structure Answered (w t : State) : Prop where
  frame : t = { w with ex := { w.ex with gateResult := .accepted }, link := t.link, mem := t.mem }
  shutter : t.link.shutter = w.shutterDemand
  ref : t.link.ref = w.refDemand
  same : ∀ {lo hi : Nat}, hi ≤ 0x08010 ∨ 0x08014 ≤ lo → SameBytes t.mem w.mem lo hi

theorem stdStartDue_of_goal (goal : w.arb.goal ≠ .standardize) : w.stdStartDue = false := by
  simp [State.stdStartDue, goal]

theorem answered (rest : w.stdStartDue = false) : Answered w (w.concludeMode .accepted).endEvent := by
  have done := concludeMode_concluded .accepted w
  have rest : (w.concludeMode .accepted).stdStartDue = false := by
    rw [done.accepted rfl]
    exact rest
  have frame := endEvent_frame rest
  obtain ⟨shutter, ref⟩ := endEvent_carries (w.concludeMode .accepted)
  have demands : ∀ l : HeadLink, ({ w.concludeMode .accepted with link := l } : State).shutterDemand = w.shutterDemand ∧
      ({ w.concludeMode .accepted with link := l } : State).refDemand = w.refDemand := by
    intro l
    rw [done.accepted rfl]
    exact ⟨rfl, rfl⟩
  refine ⟨?_, ?_, ?_, fun out => ?_⟩
  · rw [frame, done.accepted rfl]
  · rw [shutter, frame]
    exact (demands _).1
  · rw [ref, frame]
    exact (demands _).2
  · rw [frame]
    exact done.sameBytes out

theorem Answered.liveWord (h : Answered w t) {off : Nat} (out : 0x014 ≤ off) (bound : off + 4 ≤ 0x1000) :
    t.liveWord off = w.liveWord off :=
  readWord_of_sameBytes (h.same (lo := 0x08014) (hi := 0x09000) (.inr (Nat.le_refl _)))
    (by simp only [liveBase]; omega) (by simp only [liveBase]; omega)

/-- A request that changes the goal: its goal is handed to the head and the event answered. -/
theorem completes_given {P : State → Prop} (m : ReqMode) (holdPos : Word) (ready : s.ex.life = .ready)
    (channels : m = .scan ∨ m = .hold → s.page.enabledChannels ≠ [])
    (claims : (s.acceptMode m holdPos).claimedGoal = goalOf m) (differs : goalOf m ≠ s.arb.goal)
    (h : ∀ v p, GoalGiven (goalOf m) s v → ∃ w, v.takeGoal p = w ∧ w.arb.goal ≠ .standardize ∧
      ∀ t, Answered w t → P t) : Completes (.modeReq m.code holdPos) s P := by
  obtain ⟨v, p, given, handed⟩ := request_given (acceptMode_requested m holdPos s) claims differs
  obtain ⟨w, taken, goal, answers⟩ := h v p given
  refine completes_modeReq m holdPos ready channels ?_
  rw [handed, taken]
  exact answers _ (answered (stdStartDue_of_goal goal))

theorem Requested.undisturbed {m : ReqMode} {pos : Int} (h : Requested m pos s u) (calm : Undisturbed s) : Undisturbed u := by
  rw [h.frame]
  exact ⟨calm.broken, calm.up, calm.park, calm.inhibit, calm.due, calm.stdNow, calm.idle⟩

theorem acceptMode_claims (m : ReqMode) (holdPos : Word) (calm : Undisturbed s) :
    (s.acceptMode m holdPos).claimedGoal = goalOf m := by
  have requested := acceptMode_requested m holdPos s
  rw [(requested.undisturbed calm).claims, requested.frame]

/-! ## Departures (R57, R58) -/

/-- A departed head: the traverse's state, and a scan open at the time and the position of the departure. -/
structure Departed (d : ScanDir) (v w : State) : Prop where
  head : w.trav.head = d.headState
  arb : w.arb = v.arb
  scan : ∃ ctx, w.bin.scan = some ctx ∧ ctx.dir = d ∧ ctx.startTime = v.link.timeCounter ∧
    ctx.startPos = v.trav.position
  shown : w.liveWord 0x058 = 1

theorem depart_departed (d : ScanDir) (v : State) : Departed d v (v.depart d) where
  head := setHead_head v _
  arb := State.setHead_arb ..
  scan := ⟨_, rfl, rfl, congrArg HeadLink.timeCounter (State.setHead_link ..), State.setHead_position ..⟩
  shown := (readWord_writeWord_other _ _ _ _ (.inl (by decide))).trans (live_liveWord 0x058 _ _)

theorem GoalGiven.page {g : Goal} (h : GoalGiven g s v) {off : Nat} (ho : off + 4 ≤ 0x4000) : v.page off = s.page off :=
  page_of_sameBytes (h.same (.inl (by decide))) ho

theorem takeGoal_parked_scan (p : Bool) (parked : v.trav.head = .parked) (goal : v.arb.goal = .scan)
    (granted : v.arb.granted = true) : v.takeGoal p = v.depart .outbound := by
  unfold State.takeGoal State.takeGoalStill
  rw [parked, goal]
  exact if_pos granted

theorem takeGoal_parked_hold (p : Bool) (parked : v.trav.head = .parked) (goal : v.arb.goal = .hold)
    (granted : v.arb.granted = true) : v.takeGoal p = v.enterMovingToHold := by
  unfold State.takeGoal State.takeGoalStill
  rw [parked, goal]
  exact if_pos granted

theorem takeGoal_standing_scan (p : Bool) (standing : v.trav.head = .standing) (goal : v.arb.goal = .scan)
    (granted : v.arb.granted = true) : v.takeGoal p = v.depart v.departureFromStanding := by
  unfold State.takeGoal State.takeGoalStill State.scanFromStanding
  rw [standing, goal]
  exact if_pos granted

theorem takeGoal_standing_park (p : Bool) (standing : v.trav.head = .standing) (goal : v.arb.goal = .park) :
    v.takeGoal p = v.enterReturning := by
  unfold State.takeGoal State.takeGoalStill
  rw [standing, goal]

theorem takeGoal_holding_park (p : Bool) (holding : v.trav.head = .holding) (goal : v.arb.goal = .park) :
    v.takeGoal p = (v.endBatch v.arb.cause.outcome).enterReturning := by
  unfold State.takeGoal State.takeGoalStill
  rw [holding, goal]

theorem takeGoal_traversing (p : Bool) (head : v.trav.head = .outbound ∨ v.trav.head = .inbound)
    (scan : v.arb.goal ≠ .scan) (std : v.arb.goal ≠ .standardize) : v.takeGoal p = v.abortForGoal := by
  unfold State.takeGoal
  cases goal : v.arb.goal with
  | scan => exact absurd goal scan
  | standardize => exact absurd goal std
  | park => rcases head with h | h <;> rw [h]
  | stop => rcases head with h | h <;> rw [h]
  | home => rcases head with h | h <;> rw [h]
  | hold => rcases head with h | h <;> rw [h]

/-- What a departure opens, from the state in which the command found the machine. -/
def Opens (d : ScanDir) (s t : State) : Prop :=
  ∃ ctx, t.bin.scan = some ctx ∧ ctx.dir = d ∧ ctx.startTime = s.link.timeCounter ∧
    ctx.startPos = s.trav.position ∧ t.liveWord 0x058 = 1

theorem departs (d : ScanDir) (given : GoalGiven .scan s v) :
    (v.depart d).arb.goal ≠ .standardize ∧
      ∀ t, Answered (v.depart d) t → t.trav.head = d.headState ∧ t.arb.goal = .scan ∧ Opens d s t := by
  obtain ⟨head, arb, ⟨ctx, scan, dir, time, pos⟩, shown⟩ := depart_departed d v
  have goal : (v.depart d).arb.goal = .scan := by rw [arb, given.goal]
  refine ⟨by rw [goal]; exact Goal.noConfusion, fun t answer => ⟨by rw [answer.frame]; exact head,
    by rw [answer.frame]; exact goal, ctx, by rw [answer.frame]; exact scan, dir, ?_, ?_,
    (answer.liveWord (by decide) (by decide)).trans shown⟩⟩
  · rw [time, given.link]
  · rw [pos, given.trav]

theorem modeReq_parked (holdPos : Word) (ready : s.ex.life = .ready) (calm : Undisturbed s)
    (channels : s.page.enabledChannels ≠ []) (parked : s.trav.head = .parked) (goal : s.arb.goal = .park) :
    Completes (.modeReq 1 holdPos) s (fun t => t.trav.head = .outbound ∧ t.arb.goal = .scan ∧ Opens .outbound s t) ∧
      Completes (.modeReq 2 holdPos) s (fun t => t.trav.head = .movingToHold ∧ t.arb.goal = .hold ∧ t.bin = s.bin ∧
        t.link.shutter = true) := by
  constructor
  · refine completes_given .scan holdPos ready (fun _ => channels) (acceptMode_claims _ _ calm)
      (by rw [goal]; exact Goal.noConfusion) fun v p given => ⟨_, takeGoal_parked_scan p ?_ given.goal ?_, departs .outbound given⟩
    · rw [given.trav, parked]
    · rw [given.granted, calm.inhibit]
      rfl
  · refine completes_given .hold holdPos ready (fun _ => channels) (acceptMode_claims _ _ calm)
      (by rw [goal]; exact Goal.noConfusion) fun v p given => ⟨_, takeGoal_parked_hold p ?_ given.goal ?_, ?_, fun t answer => ?_⟩
    · rw [given.trav, parked]
    · rw [given.granted, calm.inhibit]
      rfl
    · rw [State.enterMovingToHold, State.setHead_arb]
      exact fun no => Goal.noConfusion (given.goal.symm.trans no)
    · have head : v.enterMovingToHold.trav.head = .movingToHold := setHead_head _ _
      refine ⟨by rw [answer.frame]; exact head, ?_, ?_, ?_⟩
      · rw [answer.frame, State.enterMovingToHold, State.setHead_arb]
        exact given.goal
      · rw [answer.frame, State.enterMovingToHold, State.setHead_bin]
        exact given.bin
      · rw [answer.shutter, State.shutterDemand, head, if_neg HeadState.noConfusion]
        rfl

theorem modeReq_standing (holdPos : Word) (ready : s.ex.life = .ready) (calm : Undisturbed s)
    (channels : s.page.enabledChannels ≠ []) (standing : s.trav.head = .standing) (goal : s.arb.goal = .stop) :
    Completes (.modeReq 1 holdPos) s (fun t =>
        if s.pos ≤ (s.page.fTurn + s.page.bTurn) / 2 then t.trav.head = .outbound ∧ Opens .outbound s t
        else t.trav.head = .inbound ∧ Opens .inbound s t) ∧
      Completes (.modeReq 3 holdPos) s (fun t => t.trav.head = .returning ∧ t.arb.goal = .park ∧ t.bin = s.bin) := by
  constructor
  · refine completes_given .scan holdPos ready (fun _ => channels) (acceptMode_claims _ _ calm)
      (by rw [goal]; exact Goal.noConfusion) fun v p given => ⟨_, takeGoal_standing_scan p ?_ given.goal ?_, ?_⟩
    · rw [given.trav, standing]
    · rw [given.granted, calm.inhibit]
      rfl
    · have side : v.departureFromStanding =
          if s.pos ≤ (s.page.fTurn + s.page.bTurn) / 2 then .outbound else .inbound := by
        rw [State.departureFromStanding, State.pos, Page.fTurn, Page.bTurn, given.page (by decide), given.page (by decide),
          given.trav]
        rfl
      rw [side]
      by_cases near : s.pos ≤ (s.page.fTurn + s.page.bTurn) / 2
      · rw [if_pos near]
        obtain ⟨stays, opens⟩ := departs .outbound given
        refine ⟨stays, fun t answer => ?_⟩
        rw [if_pos near]
        exact ⟨(opens t answer).1, (opens t answer).2.2⟩
      · rw [if_neg near]
        obtain ⟨stays, opens⟩ := departs .inbound given
        refine ⟨stays, fun t answer => ?_⟩
        rw [if_neg near]
        exact ⟨(opens t answer).1, (opens t answer).2.2⟩
  · refine completes_given .park holdPos ready (by simp) (acceptMode_claims _ _ calm)
      (by rw [goal]; exact Goal.noConfusion) fun v p given => ⟨_, takeGoal_standing_park p ?_ given.goal, ?_, fun t answer => ?_⟩
    · rw [given.trav, standing]
    · rw [State.enterReturning, State.setHead_arb]
      exact fun no => Goal.noConfusion (given.goal.symm.trans no)
    · refine ⟨by rw [answer.frame]; exact setHead_head _ _, ?_, ?_⟩
      · rw [answer.frame, State.enterReturning, State.setHead_arb]
        exact given.goal
      · rw [answer.frame, State.enterReturning, State.setHead_bin]
        exact given.bin

/-! ## A batch ended (R63, R135) -/

theorem endBatch_aborted (s : State) : s.endBatch .aborted = { s with bin.batch := none } := by
  unfold State.endBatch
  split
  · rename_i none
    rw [← none]
  · rfl

theorem modeReq_holding (holdPos : Word) (ready : s.ex.life = .ready) (calm : Undisturbed s)
    (holding : s.trav.head = .holding) (goal : s.arb.goal = .hold) :
    Completes (.modeReq 3 holdPos) s (fun t =>
      t.trav.head = .returning ∧ t.bin.batch = none ∧ t.ex.lastRecord = s.ex.lastRecord) := by
  refine completes_given .park holdPos ready (by simp) (acceptMode_claims _ _ calm)
    (by rw [goal]; exact Goal.noConfusion) fun v p given => ⟨_, takeGoal_holding_park p ?_ given.goal, ?_, fun t answer => ?_⟩
  · rw [given.trav, holding]
  · rw [given.cause, State.enterReturning, State.setHead_arb]
    show (v.endBatch .aborted).arb.goal ≠ _
    rw [endBatch_aborted]
    exact fun no => Goal.noConfusion (given.goal.symm.trans no)
  · have ended : v.endBatch v.arb.cause.outcome = { v with bin.batch := none } := by
      rw [given.cause]
      exact endBatch_aborted v
    rw [ended] at answer
    refine ⟨by rw [answer.frame]; exact setHead_head _ _, ?_, ?_⟩
    · rw [answer.frame, State.enterReturning, State.setHead_bin]
    · rw [answer.frame, State.enterReturning, State.setHead_ex]
      have last : v.ex.lastRecord = s.ex.lastRecord := by rw [given.ex]
      exact last

end Sys2Proof.Proofs
end

section
/-!
PROOFS. A traverse that a request aborts, and its record (R61, R152, R154).
-/
namespace Sys2Proof.Proofs

open Sys2Proof.Machine Sys2Proof.Laws

variable {s t u v w : State}

/-! ## A record seen through later writes -/

theorem findFree_congr {m n : Mem} (same : SameBytes m n storeBase 0x40000) (start : Fin 8) :
    findFree m start = findFree n start := by
  have word : ∀ k : Fin 8, readWord m (frameBase k.val) = readWord n (frameBase k.val) := fun k => by
    have bound := k.isLt
    refine readWord_of_sameBytes same (Nat.le_add_right _ _) ?_
    simp only [frameBase, storeBase, frameSize]
    omega
  unfold findFree
  simp only [word]

/-- The state word and the header of a record of no body, in a memory that agrees with the record's on the store. -/
theorem record_words {h : RecHeader} {body : List Word} {k : Fin 8} (found : findFree s.mem s.ex.nextFrame = some k)
    {m : Mem} (same : SameBytes m (s.produce h body).mem storeBase 0x40000) :
    readWord m (frameBase k.val + 4 * 0) = readyCode ∧
      ∀ i (hi : i < 15), readWord m (frameBase k.val + 4 * (i + 1)) =
        (h.words (s.ex.lastRecord + 1) (skippedWord s.ex.skipped) s.ex.generation (16 + body.length))[i] := by
  have bound := k.isLt
  refine ⟨(readWord_of_sameBytes same ?_ ?_).trans (produce_state h body found),
    fun i hi => (readWord_of_sameBytes same ?_ ?_).trans (produce_headerWord h body found hi)⟩
  all_goals
    simp only [frameBase, storeBase, frameSize]
    omega

/-! ## The drive alone moves -/

/-- Only the drive's registers and the live head state move. -/
structure DriveMoved (s t : State) : Prop where
  frame : t = { s with trav := t.trav, mem := t.mem }
  same : ∀ {lo hi : Nat}, hi ≤ 0x08038 ∨ 0x0803C ≤ lo → SameBytes t.mem s.mem lo hi

theorem DriveMoved.trans (h1 : DriveMoved s t) (h2 : DriveMoved t u) : DriveMoved s u where
  frame := by rw [h2.frame, h1.frame]
  same out := sameBytes_trans (h2.same out) (h1.same out)

theorem setHead_driveMoved (h : HeadState) (s : State) : DriveMoved s (s.setHead h) where
  frame := by
    unfold State.setHead
    split <;> rfl
  same := setHead_sameBytes h s

theorem setTrav_driveMoved (tr : Traverse) (s : State) : DriveMoved s { s with trav := tr } :=
  ⟨rfl, fun _ => sameBytes_refl _ _ _⟩

theorem enterHoming_driveMoved (s : State) : DriveMoved s s.enterHoming := by
  have enter := (setTrav_driveMoved { s.trav with homed := false } s).trans (setHead_driveMoved .homing _)
  unfold State.enterHoming
  dsimp only
  split
  · exact enter.trans (setTrav_driveMoved _ _)
  · exact enter

theorem enterHoming_head (s : State) : s.enterHoming.trav.head = .homing := by
  unfold State.enterHoming
  dsimp only
  split
  · exact setHead_head _ _
  · exact setHead_head _ _

theorem enterAborted_driveMoved (g : Goal) (s : State) : DriveMoved s (s.enterAborted g) := by
  cases g with
  | park => exact (setTrav_driveMoved _ s).trans (setHead_driveMoved _ _)
  | stop => exact setHead_driveMoved _ s
  | home => exact enterHoming_driveMoved s
  | hold => exact (setTrav_driveMoved _ s).trans (setHead_driveMoved _ _)
  | scan => exact ⟨rfl, fun _ => sameBytes_refl _ _ _⟩
  | standardize => exact ⟨rfl, fun _ => sameBytes_refl _ _ _⟩

/-- The head state that an aborted traverse leaves for (R61). -/
def abortedHead : Goal → HeadState
  | .hold => .movingToHold | .park => .returning | .stop => .stopping | .home => .homing
  | .scan => .outbound | .standardize => .outbound

theorem enterAborted_head {g : Goal} (scan : g ≠ .scan) (std : g ≠ .standardize) (s : State) :
    (s.enterAborted g).trav.head = abortedHead g := by
  cases g with
  | park => exact setHead_head _ _
  | stop => exact setHead_head _ _
  | home => exact enterHoming_head s
  | hold => exact setHead_head _ _
  | scan => exact absurd rfl scan
  | standardize => exact absurd rfl std

/-! ## The abort -/

theorem abortScan_some {ctx : ScanCtx} (found : s.bin.scan = some ctx) (outcome : RecOutcome) :
    s.abortScan outcome = ({ s.profileAbort ctx outcome with bin.scan := none } : State).live 0x058 0 := by
  unfold State.abortScan
  rw [found]
  rfl

/-- The scan ended by a goal with no apply pending: the record, then the head state of the goal. -/
theorem abortForGoal_idle (idle : s.ex.applyPending = false) (head : s.trav.head = .outbound ∨ s.trav.head = .inbound)
    {ctx : ScanCtx} (found : s.bin.scan = some ctx) :
    s.abortForGoal = (s.abortScan s.arb.cause.outcome).enterAborted s.arb.goal := by
  have kept := abortScan_kept s.arb.cause.outcome s
  have trav : (s.abortScan s.arb.cause.outcome).trav = s.trav := by
    rw [abortScan_some found]
    exact State.produce_trav ..
  unfold State.abortForGoal
  rw [applyPoint_idle _ (by rw [kept.ex]; exact idle)]
  unfold Recomputed.thenEnter
  dsimp only
  rw [trav]
  rcases head with h | h
  · rw [h]
    rfl
  · rw [h]
    rfl

/-- What the clause of the traverses says of a request that takes the head to h. -/
def ScanAborted (h : HeadState) (s t : State) : Prop :=
  t.trav.head = h ∧ t.bin.scan = none ∧ t.liveWord 0x058 = 0 ∧ t.ex.lastRecord = s.ex.lastRecord + 1 ∧
  t.filters = s.filters ∧ t.std.scanCount = s.std.scanCount ∧
  ∀ k, findFree s.mem s.ex.nextFrame = some k →
    let word := fun i => readWord t.mem (frameBase k.val + 4 * i)
    word 0 = readyCode ∧ word 1 = 1 ∧ word 2 = s.ex.lastRecord + 1 ∧ word 4 = 6 ∧ word 6 = s.ex.generation ∧
    word 8 = s.link.timeCounter ∧ word 12 = 0 ∧ word 14 = 0 ∧ word 15 = 16 ∧
    ∀ ctx, s.bin.scan = some ctx →
      word 5 = (if ctx.dir = .outbound then 1 else 2) ∧ word 7 = ctx.startTime ∧
      word 9 = BitVec.ofInt 32 ctx.front ∧ word 10 = BitVec.ofInt 32 ctx.back ∧
      word 11 = BitVec.ofNat 32 ctx.nBins ∧ word 13 = (if ctx.firstAfterBreak = true then 1 else 0)

theorem dir_code (d : ScanDir) : d.code = if d = .outbound then 1 else 2 := by cases d <;> rfl

theorem scanAborted_of_given {g : Goal} (given : GoalGiven g s v) {ctx : ScanCtx} (found : s.bin.scan = some ctx)
    (scan : g ≠ .scan) (std : g ≠ .standardize) (answer : Answered ((v.abortScan .aborted).enterAborted g) t) :
    ScanAborted (abortedHead g) s t := by
  have found' : v.bin.scan = some ctx := by rw [given.bin, found]
  have moved := enterAborted_driveMoved g (v.abortScan .aborted)
  have kept := abortScan_kept .aborted v
  have last : (v.abortScan .aborted).ex.lastRecord = s.ex.lastRecord + 1 := by
    rw [abortScan_some found']
    exact (produce_number v _ []).trans (by rw [given.ex])
  have shown : (v.abortScan .aborted).liveWord 0x058 = 0 := by
    rw [abortScan_some found']
    exact live_liveWord _ _ _
  have closed : (v.abortScan .aborted).bin.scan = none := by
    rw [abortScan_some found']
    rfl
  have store : SameBytes t.mem (v.profileAbort ctx .aborted).mem storeBase 0x40000 := by
    refine sameBytes_trans (answer.same (.inr (by decide))) (sameBytes_trans (moved.same (.inr (by decide))) ?_)
    rw [abortScan_some found']
    exact live_sameBytes _ 0x058 0 (.inr (by decide))
  refine ⟨by rw [answer.frame]; exact enterAborted_head scan std _, ?_, ?_, ?_, ?_, ?_, fun k free => ?_⟩
  · rw [answer.frame, moved.frame]
    exact closed
  · refine (answer.liveWord (by decide) (by decide)).trans ?_
    exact (readWord_of_sameBytes (moved.same (lo := 0x0803C) (hi := 0x09000) (.inr (Nat.le_refl _))) (by decide)
      (by decide)).trans shown
  · rw [answer.frame, moved.frame]
    exact last
  · rw [answer.frame, moved.frame]
    exact kept.filters.trans given.filters
  · rw [answer.frame, moved.frame]
    dsimp only
    rw [kept.std, given.std]
  · have free' : findFree v.mem v.ex.nextFrame = some k := by
      rw [given.ex, findFree_congr (given.same (.inr (by decide)))]
      exact free
    have time : v.link.timeCounter = s.link.timeCounter := by rw [given.link]
    have generation : v.ex.generation = s.ex.generation := by rw [given.ex]
    have number : v.ex.lastRecord = s.ex.lastRecord := by rw [given.ex]
    obtain ⟨ready, words⟩ := record_words free' store
    refine ⟨ready, words 0 (by decide), (words 1 (by decide)).trans (congrArg (· + 1) number), words 3 (by decide),
      (words 5 (by decide)).trans generation, (words 7 (by decide)).trans time, words 11 (by decide), words 13 (by decide),
      words 14 (by decide), fun ctx' found'' => ?_⟩
    rw [found] at found''
    cases found''
    exact ⟨(words 4 (by decide)).trans (dir_code ctx.dir), words 6 (by decide), words 8 (by decide), words 9 (by decide),
      words 10 (by decide), words 12 (by decide)⟩

/-- A request for another goal than SCAN aborts the traverse. -/
theorem modeReq_traversing (m : ReqMode) (other : m ≠ .scan) (holdPos : Word) (sound : s.Sound) (ready : s.ex.life = .ready)
    (calm : Undisturbed s) (channels : s.page.enabledChannels ≠ [])
    (head : s.trav.head = .outbound ∨ s.trav.head = .inbound) (goal : s.arb.goal = .scan) :
    Completes (.modeReq m.code holdPos) s (ScanAborted (abortedHead (goalOf m)) s) := by
  have scan : goalOf m ≠ .scan := by cases m <;> simp_all [goalOf]
  have std : goalOf m ≠ .standardize := by cases m <;> simp [goalOf]
  have open_ : s.bin.scan.isSome = true := by
    rw [sound.head.scan]
    rcases head with h | h <;> rw [h] <;> rfl
  obtain ⟨ctx, found⟩ := Option.isSome_iff_exists.1 open_
  refine completes_given m holdPos ready (fun _ => channels) (acceptMode_claims _ _ calm) (by rw [goal]; exact scan)
    fun v p given => ⟨(v.abortScan .aborted).enterAborted (goalOf m), ?_, ?_, fun t answer =>
      scanAborted_of_given given found scan std answer⟩
  · have cause : v.arb.cause.outcome = .aborted := by
      rw [given.cause, goalCauseOf, if_neg std]
      rfl
    rw [takeGoal_traversing p (by rw [given.trav]; exact head) (by rw [given.goal]; exact scan)
      (by rw [given.goal]; exact std), abortForGoal_idle (by rw [given.ex]; exact calm.idle)
      (by rw [given.trav]; exact head) (by rw [given.bin]; exact found), cause, given.goal]
  · rw [(enterAborted_driveMoved _ _).frame]
    dsimp only
    rw [(abortScan_kept .aborted v).arb, given.goal]
    exact std

/-- The clauses of MODE_REQ for a head that nothing else demands. -/
theorem modeReq_head (holdPos : Word) (s : State) (sound : s.Sound) (ready : s.ex.life = .ready) (calm : Undisturbed s)
    (channels : s.page.enabledChannels ≠ []) (head : s.trav.head = .outbound ∨ s.trav.head = .inbound)
    (goal : s.arb.goal = .scan) :
    ∀ p ∈ [((2 : Word), HeadState.movingToHold), (3, .returning), (4, .stopping), (5, .homing)],
      Completes (.modeReq p.1 holdPos) s (ScanAborted p.2 s) := by
  have aborts := fun m other => modeReq_traversing m other holdPos sound ready calm channels head goal
  intro p member
  simp only [List.mem_cons, List.not_mem_nil, or_false] at member
  rcases member with rfl | rfl | rfl | rfl
  · exact aborts .hold ReqMode.noConfusion
  · exact aborts .park ReqMode.noConfusion
  · exact aborts .stop ReqMode.noConfusion
  · exact aborts .home ReqMode.noConfusion

end Sys2Proof.Proofs
end

section
/-!
PROOFS. What an apply never does: it ends no standardize, produces no record, and takes the head to UNHOMED or FAULTED
alone. The goal HOME that ends a standardize (R62, R119).
-/
namespace Sys2Proof.Proofs

open Sys2Proof.Machine Sys2Proof.Laws

variable {s t u v w : State}

/-! ## Operations that produce no record -/

/-- The head has no position, or is about to find it. -/
def Lost (s : State) : Prop := s.trav.head = .unhomed ∨ s.trav.head = .faulted ∨ s.trav.head = .homing

/-- No standardize ends or is asked, no record is produced, and the head at most loses its position or faults. -/
structure NoRecord (s t : State) : Prop where
  ctx : t.std.ctx = s.std.ctx := by rfl
  scanCount : t.std.scanCount = s.std.scanCount := by rfl
  stdNow : t.std.stdNow = s.std.stdNow := by rfl
  lastRecord : t.ex.lastRecord = s.ex.lastRecord := by rfl
  store : ∀ hi, SameBytes t.mem s.mem storeBase hi := by exact fun _ => sameBytes_refl _ _ _
  head : t.trav.head = s.trav.head ∨ Lost t := by exact .inl rfl

theorem NoRecord.refl (s : State) : NoRecord s s := { }

theorem NoRecord.trans (h1 : NoRecord s t) (h2 : NoRecord t u) : NoRecord s u where
  ctx := h2.ctx.trans h1.ctx
  scanCount := h2.scanCount.trans h1.scanCount
  stdNow := h2.stdNow.trans h1.stdNow
  lastRecord := h2.lastRecord.trans h1.lastRecord
  store hi := sameBytes_trans (h2.store hi) (h1.store hi)
  head := by
    rcases h2.head with same | lost
    · unfold Lost
      rw [same]
      exact h1.head
    · exact .inr lost

theorem live_noRecord (off : Nat) (w : Word) (s : State) (h : off + 4 ≤ 0x8000 := by decide) : NoRecord s (s.live off w) :=
  { store := fun _ => live_sameBytes s off w (.inr (by simp only [liveBase, storeBase]; omega)) }

theorem liveWords_noRecord (off : Nat) (ws : List Word) (s : State) (h : off + 4 * ws.length ≤ 0x8000) :
    NoRecord s (s.liveWords off ws) :=
  { store := fun _ => liveWords_sameBytes s off ws (.inr (by simp only [liveBase, storeBase]; omega)) }

theorem setNotice_noRecord (n : Notice) (s : State) : NoRecord s (s.setNotice n) := { }

theorem setAlarm_noRecord (i : Fin 48) (e : AlarmEntry) (s : State) : NoRecord s (s.setAlarm i e) := by
  unfold State.setAlarm
  split
  · exact .refl s
  · have set : NoRecord s { s with alarms := s.alarms.set i.val e i.isLt } := { }
    refine set.trans (liveWords_noRecord _ _ _ ?_)
    simp only [AlarmEntry.words, List.length_cons, List.length_nil]
    omega

theorem clearAlarm_noRecord (i : Fin 48) (v : Option Int) (s : State) : NoRecord s (s.clearAlarm i v) := by
  unfold State.clearAlarm
  dsimp only
  split
  · exact (setAlarm_noRecord i _ s).trans (setNotice_noRecord _ _)
  · exact setAlarm_noRecord i _ s

theorem setHead_noRecord (h : HeadState) (lost : h = .unhomed ∨ h = .faulted ∨ h = .homing) (s : State) :
    NoRecord s (s.setHead h) := by
  have head : (s.setHead h).trav.head = h := setHead_head s h
  exact
    { ctx := by rw [State.setHead_std], scanCount := by rw [State.setHead_std], stdNow := by rw [State.setHead_std]
      lastRecord := by rw [State.setHead_ex]
      store := fun _ => setHead_sameBytes h s (.inr (by decide))
      head := .inr (by unfold Lost; rw [head]; exact lost) }

theorem enterUnhomed_noRecord (s : State) : NoRecord s s.enterUnhomed := by
  have off : NoRecord s { s with trav := { s.trav with duty := 0, homed := false } } := { }
  exact off.trans (setHead_noRecord .unhomed (.inl rfl) _)

theorem enterHoming_noRecord (s : State) : NoRecord s s.enterHoming := by
  have off : NoRecord s { s with trav.homed := false } := { }
  have enter := off.trans (setHead_noRecord .homing (.inr (.inr rfl)) _)
  have set : ∀ v : State, NoRecord v v.setHomingPosition := fun v => { }
  unfold State.enterHoming
  dsimp only
  split
  · exact enter.trans (set _)
  · exact enter

theorem enterFaulted_noRecord (cause : FaultCause) (s : State) : NoRecord s (s.enterFaulted cause) := by
  have off : NoRecord s { s with trav := { s.trav with duty := 0, homed := false, faultCause := cause } } := { }
  exact ((off.trans (setHead_noRecord .faulted (.inr (.inl rfl)) _)).trans (live_noRecord 0x048 _ _)).trans
    (setNotice_noRecord _ _)

theorem setEdges_noRecord (front back : Int) (s : State) : NoRecord s (s.setEdges front back) := by
  have set : NoRecord s { s with bin := { s.bin with edgeFront := front, edgeBack := back } } := { }
  exact set.trans (liveWords_noRecord 0x060 _ _ (by simp))

theorem setMiss_noRecord (side : Side) (n : Nat) (s : State) : NoRecord s (s.setMiss side n) := by
  have set : NoRecord s (missSet side n s) := by cases side <;> exact { }
  rw [setMiss_eq]
  split
  · exact set.trans (clearAlarm_noRecord _ _ _)
  · exact set

theorem recompute_noRecord (ev : GoalEvent) (s : State) : NoRecord s (s.recompute ev).state := by
  obtain ⟨ex, std, trav, -⟩ := recompute_ex ev s
  exact
    { ctx := by rw [std], scanCount := by rw [std], stdNow := by rw [std], lastRecord := by rw [ex]
      store := fun _ => recompute_sameBytes s ev (.inr (by decide))
      head := .inl (by rw [trav]) }

theorem foldl_noRecord {α : Type} {f : State → α → State} (h : ∀ s a, NoRecord s (f s a)) (l : List α) (s : State) :
    NoRecord s (l.foldl f s) := by
  induction l generalizing s with
  | nil => exact .refl s
  | cons a l ih => exact (h s a).trans (ih _)

theorem ite_noRecord {p : Prop} [Decidable p] (h : NoRecord s t) : NoRecord s (if p then t else s) := by
  split
  · exact h
  · exact .refl s

/-! ## The reactions of the blocks (Table 1-5) -/

theorem applyLink_noRecord (h : ApplyHandoff) (s : State) : NoRecord s (s.applyLink h) := by
  unfold State.applyLink
  exact ite_noRecord { }

theorem applyBinning_noRecord (h : ApplyHandoff) (s : State) : NoRecord s (s.applyBinning h) := by
  have discarded : NoRecord s (if s.trav.head = .holding then s.discardBatch else s) := ite_noRecord { }
  unfold State.applyBinning
  dsimp only
  split
  · exact ((discarded.trans (setEdges_noRecord _ _ _)).trans (setMiss_noRecord .front 0 _)).trans
      (setMiss_noRecord .back 0 _)
  · exact discarded

theorem applyTraverse_noRecord (h : ApplyHandoff) (s : State) : NoRecord s (s.applyTraverse h) := by
  have unhomed : NoRecord s (if h.changes.has 0x058 && s.trav.homed then s.enterUnhomed else s) :=
    ite_noRecord (enterUnhomed_noRecord s)
  unfold State.applyTraverse
  dsimp only
  generalize (if h.changes.has 0x058 && s.trav.homed then s.enterUnhomed else s) = v at unhomed ⊢
  exact unhomed.trans (ite_noRecord (enterFaulted_noRecord _ v))

theorem setRef_noRecord (c : Fin 8) (r : RefRecord) (s : State) : NoRecord s (s.setRef c r) := by
  have set : NoRecord s { s with std.refs := s.std.refs.set c.val r c.isLt } := { }
  refine set.trans (liveWords_noRecord _ _ _ ?_)
  have bound := c.isLt
  simp only [RefRecord.words, List.length_cons, List.length_nil]
  omega

theorem applyRef_noRecord (h : ApplyHandoff) (s : State) (c : Fin 8) : NoRecord s (s.applyRef h c) := by
  have tried : ∀ v : State, NoRecord v (v.setUntried c (h.after.enabled c)) := fun v => { }
  unfold State.applyRef
  exact ite_noRecord (((setRef_noRecord c _ s).trans (clearAlarm_noRecord _ _ _)).trans (tried _))

theorem applyStd_noRecord (h : ApplyHandoff) (s : State) : NoRecord s (s.applyStd h) := by
  have told : ∀ v : State, NoRecord v v.tellDue := fun v => { }
  exact (foldl_noRecord (applyRef_noRecord h) channels8 s).trans (told _)

theorem applyProfile_noRecord (h : ApplyHandoff) (s : State) : NoRecord s (s.applyProfile h) := by
  have unseed : ∀ (v : State) (c : Fin 9), NoRecord v (v.unseed c) := fun v c => { }
  have channels := foldl_noRecord (f := fun s (c : Fin 8) => if h.unseeds c then s.unseed c.castSucc else s)
    (fun v c => ite_noRecord (unseed v _)) channels8 s
  unfold State.applyProfile
  dsimp only
  split
  · exact { }
  · exact channels.trans (ite_noRecord (unseed _ _))

theorem liveDisable_noRecord (c : Fin 9) (s : State) : NoRecord s (s.liveDisable c) :=
  (live_noRecord _ _ s (by omega)).trans (live_noRecord _ _ _ (by omega))

theorem applyConvert_noRecord (h : ApplyHandoff) (s : State) : NoRecord s (s.applyConvert h) := by
  have channels := foldl_noRecord (f := fun s (c : Fin 8) => if h.disabled c then s.liveDisable c.castSucc else s)
    (fun v c => ite_noRecord (liveDisable_noRecord _ v)) channels8 s
  unfold State.applyConvert
  exact channels.trans (ite_noRecord (liveDisable_noRecord _ _))

theorem resetEntry_noRecord (i : Fin 48) (clear : Bool) (s : State) : NoRecord s (s.resetEntry i clear) := by
  unfold State.resetEntry
  split
  · exact clearAlarm_noRecord _ _ s
  · exact setAlarm_noRecord _ _ s

theorem dropChannel_noRecord (k : Fin 9) (s : State) : NoRecord s (s.dropChannel k) :=
  foldl_noRecord (fun v _ => resetEntry_noRecord _ _ v) scanKinds s

theorem applyLimits_noRecord (h : ApplyHandoff) (s : State) : NoRecord s (s.applyLimits h) := by
  have limit : ∀ (v : State) (k : Fin 9), NoRecord v (v.applyLimit h k) := by
    intro v k
    unfold State.applyLimit
    exact ite_noRecord (foldl_noRecord (fun v _ => resetEntry_noRecord _ _ v) scanKinds v)
  have channels := (foldl_noRecord limit channels9 s).trans
    (foldl_noRecord (f := fun s (c : Fin 8) => if h.disabled c then s.dropChannel c.castSucc else s)
      (fun v c => ite_noRecord (dropChannel_noRecord _ v)) channels8 _)
  unfold State.applyLimits
  exact channels.trans (ite_noRecord (dropChannel_noRecord _ _))

theorem setBreakState_noRecord (b : BreakState) (s : State) : NoRecord s (s.setBreakState b) := by
  unfold State.setBreakState
  split
  · exact .refl s
  · have set : NoRecord s { s with brk.state := b } := { }
    exact set.trans (live_noRecord 0x04C _ _)

theorem takeWatch_noRecord (s : State) : NoRecord s s.takeWatch.2 := by
  have cleared : NoRecord s s.clearCounts := { }
  unfold State.takeWatch
  split
  · exact .refl s
  · split
    · exact cleared.trans (setBreakState_noRecord _ _)
    · exact .refl s
  · split
    · exact .refl s
    · exact cleared.trans (setBreakState_noRecord _ _)

theorem historyWrite_noRecord (i : Fin 32) (off : Nat) (ws : List Word) (h : off + 4 * ws.length ≤ 64) (s : State) :
    NoRecord s { s with mem := writeWords s.mem (historyAddr i + off) ws } := by
  have range := historyAddr_range i
  exact { store := fun _ => sameBytes_writeWords _ _ _ (.inr (by simp only [storeBase]; omega)) }

theorem declareAtApply_noRecord (s : State) : NoRecord s s.declareAtApply.state := by
  have numbered : NoRecord s { s with brk := { s.brk with number := s.brk.number + 1, latch := false } } := { }
  have cleared : ∀ v : State, NoRecord v v.clearCounts := fun v => { }
  have start : NoRecord s s.breakStart :=
    ((numbered.trans (live_noRecord 0x050 _ _)).trans (cleared _)).trans (setBreakState_noRecord _ _)
  have written : ∀ (v : State) (h : HeadState) (cues : BitVec 4) (p q : Word) (o : OpenWork) (r : Word),
      NoRecord v (v.writeHistory h cues p q o r) := by
    intro v h cues p q o r
    have newest : NoRecord v { v with brk.newest := v.brk.newest + 1 } := { }
    exact (newest.trans (historyWrite_noRecord (v.brk.newest + 1) 0 _ (by simp) _)).trans (live_noRecord 0x054 _ _)
  exact ((start.trans (recompute_noRecord .breakRaised _)).trans (written _ _ _ _ _ _ _)).trans (setNotice_noRecord _ _)

theorem resumeCore_noRecord (s : State) : NoRecord s s.resumeCore := by
  have cleared : NoRecord s s.clearCounts := { }
  have resumed : ∀ v : State, NoRecord v v.binResume := by
    intro v
    have first : ∀ w : State, NoRecord w { w with bin.firstAfterBreak := true } := fun w => { }
    exact (((setMiss_noRecord .front 0 v).trans (setMiss_noRecord .back 0 _)).trans
      (ite_noRecord (setEdges_noRecord _ _ _))).trans (first _)
  have unseeded : ∀ v : State, NoRecord v v.unseedAll := fun v => { }
  exact ((((cleared.trans (setBreakState_noRecord _ _)).trans (resumed _)).trans (unseeded _)).trans
    (historyWrite_noRecord _ 40 [_] (by simp) _)).trans (setNotice_noRecord _ _)

theorem applyBreak_noRecord (h : ApplyHandoff) (s : State) : NoRecord s (s.applyBreak h).state := by
  have counts : NoRecord s (s.applyCounts h) := { }
  unfold State.applyBreak
  dsimp only
  split
  · exact (counts.trans (resumeCore_noRecord _)).trans (recompute_noRecord _ _)
  · split
    · exact (counts.trans (takeWatch_noRecord _)).trans (declareAtApply_noRecord _)
    · exact counts.trans (takeWatch_noRecord _)

theorem applyReactions_noRecord (h : ApplyHandoff) (s : State) : NoRecord s (s.applyReactions h).state :=
  ((((((((applyLink_noRecord h s).trans (applyBinning_noRecord h _)).trans (applyTraverse_noRecord h _)).trans
    (applyStd_noRecord h _)).trans (applyProfile_noRecord h _)).trans (applyConvert_noRecord h _)).trans
    (applyLimits_noRecord h _)).trans (recompute_noRecord .other _)).trans (applyBreak_noRecord h _)

/-! ## The apply -/

theorem gateIdle_noRecord (s : State) : NoRecord s s.gateIdle := by
  have idle : NoRecord s { s with ex.applyPending := false } := { }
  unfold State.gateIdle
  exact ite_noRecord (idle.trans (live_noRecord 0x004 0 _))

theorem acceptApply_noRecord (s : State) : NoRecord s s.acceptApply := by
  have copy : NoRecord s { s with mem := copied s, ex := { s.ex with
      generation := s.ex.generation + 1, gateResult := .accepted } } :=
    { store := fun _ => copied_sameBytes s (.inr (by decide)) }
  exact (((copy.trans (liveWords_noRecord 0x01C _ _ (by simp))).trans (liveWords_noRecord 0x008 _ _ (by decide))).trans
    (gateIdle_noRecord _)).trans (setNotice_noRecord _ _)

theorem applyTake_noRecord (s : State) : NoRecord s s.applyTake.state := by
  cases check : validatePage s.staged with
  | some f =>
    obtain ⟨code, off⟩ := f
    rw [applyTake_refused s check]
    have store := fun hi => refuseApply_sameBytes code off s (lo := storeBase) (hi := hi) (.inr (by decide))
    have same := refuseApply_eq code off s
    exact { ctx := by rw [same], scanCount := by rw [same], stdNow := by rw [same], lastRecord := by rw [same]
            store := store, head := .inl (by rw [same]) }
  | none =>
    rw [applyTake_accepted s check]
    exact (acceptApply_noRecord s).trans (applyReactions_noRecord _ _)

theorem applyPoint_noRecord (s : State) : NoRecord s s.applyPoint.state := by
  cases pending : s.ex.applyPending with
  | false => rw [applyPoint_idle s pending]; exact .refl s
  | true => rw [applyPoint_pending s pending]; exact applyTake_noRecord s

/-- A head that has no position takes a goal: it begins to find it, or gives it up. -/
theorem takeGoalStill_noRecord (p e : Bool) (lost : Lost s) : NoRecord s (s.takeGoalStill p e) := by
  unfold State.takeGoalStill
  rcases lost with h | h | h
  · rw [h]
    dsimp only
    split
    · exact .refl s
    · exact enterHoming_noRecord s
  · rw [h]
    exact .refl s
  · rw [h]
    dsimp only
    exact ite_noRecord (enterUnhomed_noRecord s)

theorem settle_noRecord {r : Recomputed} (lost : Lost r.state) : NoRecord r.state r.settle := by
  unfold Recomputed.settle
  exact ite_noRecord (takeGoalStill_noRecord _ _ lost)

theorem NoRecord.lost (h : NoRecord s t) (lost : Lost s) : Lost t := by
  rcases h.head with same | now
  · unfold Lost
    rw [same]
    exact lost
  · exact now

end Sys2Proof.Proofs
end

section
/-!
PROOFS. The goal HOME ends a standardize: its record, what it leaves, and the whole of MODE_REQ (R62, R118, R119).
-/
namespace Sys2Proof.Proofs

open Sys2Proof.Machine Sys2Proof.Laws

variable {s t u v w : State}

/-! ## The record of an early end -/

/-- A word of blocks of four. -/
theorem getElem?_flatMap_four {α β : Type} {f : α → List β} (len : ∀ a, (f a).length = 4) (l : List α) {i j : Nat}
    (hi : i < l.length) (hj : j < 4) : (l.flatMap f)[4 * i + j]? = (f l[i])[j]? := by
  induction l generalizing i with
  | nil => exact absurd hi (Nat.not_lt_zero _)
  | cons a l ih =>
    rw [List.flatMap_cons]
    cases i with
    | zero => rw [List.getElem?_append_left (by rw [len]; omega), Nat.mul_zero, Nat.zero_add]; rfl
    | succ i =>
      rw [List.getElem?_append_right (by rw [len]; omega), len, show 4 * (i + 1) + j - 4 = 4 * i + j by omega]
      exact ih (Nat.lt_of_succ_lt_succ hi)

theorem length_flatMap_four {α β : Type} {f : α → List β} (len : ∀ a, (f a).length = 4) (l : List α) :
    (l.flatMap f).length = 4 * l.length := by
  rw [List.length_flatMap]
  simp only [len]
  rw [List.map_const', List.sum_replicate, smul_eq_mul, Nat.mul_comm]

/-- The four words of a channel in a STDZ record (R118). -/
def entryWords (e : StdEntry) : List Word :=
  [Word.ofCount e.oldRef, Word.ofCount e.newRef, Word.ofSigned e.check, e.result.code]

/-- The entry of a channel at an early end (R119). -/
def earlyEntry (result : StdResult) (c : StdChan) : StdEntry :=
  { chan := c.chan, oldRef := if c.old.accepted then c.old.value else 0, newRef := 0, check := 0, result := result }

/-- The header of a STDZ record that raised no alarm (Table 8-1). -/
def earlyHeader (ctx : StdCtx) (outcome : RecOutcome) (time : Word) : RecHeader :=
  { kind := .stdz, outcome := outcome, direction := 0, startTime := ctx.startTime, endTime := time
    front := 0, back := 0, nBins := 0, present := presentMask (ctx.chans.map (fun c => c.chan.val))
    firstAfterBreak := false, alarmRaised := 0 }

/-- The body of the record of an early end. -/
def earlyBody (ctx : StdCtx) (result : StdResult) : List Word := (ctx.chans.map (earlyEntry result)).flatMap entryWords

theorem stdEarlyEnd_some {ctx : StdCtx} (found : s.std.ctx = some ctx) (outcome : RecOutcome) (result : StdResult) :
    s.stdEarlyEnd outcome result =
      (s.produce (earlyHeader ctx outcome s.link.timeCounter) (earlyBody ctx result)).finishStd := by
  unfold State.stdEarlyEnd
  rw [found]
  rfl

theorem length_earlyBody (ctx : StdCtx) (result : StdResult) : (earlyBody ctx result).length = 4 * ctx.chans.length := by
  unfold earlyBody
  rw [length_flatMap_four (fun _ => rfl), List.length_map]

theorem earlyBody_getElem? (ctx : StdCtx) (result : StdResult) {i j : Nat} (hi : i < ctx.chans.length) (hj : j < 4) :
    (earlyBody ctx result)[4 * i + j]? = (entryWords (earlyEntry result ctx.chans[i]))[j]? := by
  unfold earlyBody
  rw [getElem?_flatMap_four (fun _ => rfl) _ (by rw [List.length_map]; exact hi) hj, List.getElem_map]

/-- The due condition after an end of a standardize is that of the untried marks (R109). -/
theorem finishStd_due (s : State) : s.finishStd.std.due = true ↔ ∃ c : Fin 8, s.std.untried[c] = true := by
  have due : s.finishStd.std.due = (({ s.setNotice .stdz with
    std := { (s.setNotice .stdz).std with scanCount := 0, stdNow := false, ctx := none } } : State).dueCondition) := rfl
  rw [due, State.dueCondition]
  simp only [Bool.or_eq_true, Bool.and_eq_true, decide_eq_true_eq, List.any_eq_true]
  constructor
  · rintro (⟨⟨low, -⟩, zero⟩ | ⟨c, -, untried⟩)
    · omega
    · exact ⟨c, untried⟩
  · rintro ⟨c, untried⟩
    exact .inr ⟨c, List.mem_finRange c, untried⟩

/-- What an early end leaves before the head moves. -/
structure EarlyEnd (ctx : StdCtx) (outcome : RecOutcome) (result : StdResult) (s t : State) : Prop where
  ended : t.std.ctx = none
  stdz : t.noticeSet .stdz = true
  scanCount : t.std.scanCount = 0
  stdNow : t.std.stdNow = false
  lastRecord : t.ex.lastRecord = s.ex.lastRecord + 1
  store : ∀ hi, SameBytes t.mem (s.produce (earlyHeader ctx outcome s.link.timeCounter) (earlyBody ctx result)).mem
    storeBase hi
  refs : t.std.refs = s.std.refs
  untried : t.std.untried = s.std.untried
  alarms : t.alarms = s.alarms
  due : t.std.due = true ↔ ∃ c : Fin 8, s.std.untried[c] = true
  arb : t.arb = s.arb
  link : t.link = s.link
  brk : t.brk = s.brk
  pending : t.ex.applyPending = s.ex.applyPending
  reqMode : t.ex.reqMode = s.ex.reqMode
  life : t.ex.life = s.ex.life

theorem stdEarlyEnd_earlyEnd {ctx : StdCtx} (found : s.std.ctx = some ctx) (outcome : RecOutcome) (result : StdResult) :
    EarlyEnd ctx outcome result s (s.stdEarlyEnd outcome result) := by
  let r := s.produce (earlyHeader ctx outcome s.link.timeCounter) (earlyBody ctx result)
  have std : r.std = s.std := State.produce_std ..
  have ex : r.ex = { s.ex with lastRecord := r.ex.lastRecord, skipped := r.ex.skipped, nextFrame := r.ex.nextFrame,
                               notice := r.ex.notice } := produce_ex ..
  have mem : r.finishStd.mem = r.mem := rfl
  rw [stdEarlyEnd_some found]
  exact
    { ended := rfl, stdz := noticeSet_setNotice .stdz r, scanCount := rfl, stdNow := rfl
      lastRecord := produce_number s _ _
      store := fun _ => by rw [mem]; exact sameBytes_refl r.mem _ _
      refs := by show r.std.refs = _; rw [std]
      untried := by show r.std.untried = _; rw [std]
      alarms := State.produce_alarms ..
      due := by rw [finishStd_due, std]
      arb := State.produce_arb ..
      link := State.produce_link ..
      brk := State.produce_brk ..
      pending := by show r.ex.applyPending = _; rw [ex]
      reqMode := by show r.ex.reqMode = _; rw [ex]
      life := by show r.ex.life = _; rw [ex] }

/-! ## The goal HOME during a standardize -/

theorem takeGoal_standardizing_home (p : Bool) (head : v.trav.head = .standardizing) (goal : v.arb.goal = .home) :
    v.takeGoal p = v.abandonForHome := by
  unfold State.takeGoal
  rw [head]
  exact if_pos goal

theorem abandonForHome_eq (s : State) : ∃ changed posChanged, s.abandonForHome = Recomputed.settle
    ⟨(((s.stdEarlyEnd .aborted .abandoned).enterHoming).applyPoint.state.recompute .other).state, changed, posChanged⟩ :=
  ⟨_, _, rfl⟩

/-- The head under an early end for HOME: HOMING, and then the apply point. -/
theorem abandonForHome_noRecord (s : State) :
    NoRecord ((s.stdEarlyEnd .aborted .abandoned).enterHoming) s.abandonForHome ∧ Lost s.abandonForHome := by
  have point := (applyPoint_noRecord (s.stdEarlyEnd .aborted .abandoned).enterHoming).trans (recompute_noRecord .other _)
  have lost := point.lost (.inr (.inr (enterHoming_head _)))
  obtain ⟨changed, posChanged, e⟩ := abandonForHome_eq s
  rw [e]
  have settled := settle_noRecord (r := ⟨_, changed, posChanged⟩) lost
  exact ⟨point.trans settled, settled.lost lost⟩

/-- From the record of an early end for HOME on, at most one apply is taken. -/
theorem abandonForHome_evolves_end (s : State) :
    Evolves ∅ (s.stdEarlyEnd .aborted .abandoned) s.abandonForHome := by
  have point : Evolves ∅ (s.stdEarlyEnd .aborted .abandoned)
      ((((s.stdEarlyEnd .aborted .abandoned).enterHoming).applyPoint).state.recompute .other).state :=
    (enterHoming_evolves.trans applyPoint_evolves).trans (recompute_evolves .other)
  exact Evolves.settle (r := ⟨_, _, _⟩) point

theorem claimedGoal_eq_home : s.claimedGoal = .home ↔
    (s.breakDemand || s.linkDemand || s.arb.panelPark) = false ∧ s.ex.reqMode = .home := by
  unfold State.claimedGoal
  cases s.breakDemand || s.linkDemand || s.arb.panelPark with
  | true => exact iff_of_false Goal.noConfusion fun h => Bool.noConfusion h.1
  | false =>
    rw [if_neg Bool.false_ne_true]
    cases s.ex.reqMode with
    | home => exact iff_of_true rfl ⟨rfl, rfl⟩
    | stop => exact iff_of_false Goal.noConfusion fun h => ReqMode.noConfusion h.2
    | park => refine iff_of_false ?_ fun h => ReqMode.noConfusion h.2; dsimp only; split <;> exact Goal.noConfusion
    | scan => refine iff_of_false ?_ fun h => ReqMode.noConfusion h.2; dsimp only; split <;> exact Goal.noConfusion
    | hold => refine iff_of_false ?_ fun h => ReqMode.noConfusion h.2; dsimp only; split <;> exact Goal.noConfusion

theorem EarlyEnd.claims_home {ctx : StdCtx} {o : RecOutcome} {r : StdResult} (e : EarlyEnd ctx o r s t)
    (claims : s.claimedGoal = .home) : t.enterHoming.claimedGoal = .home := by
  rw [(enterHoming_kept t).claims]
  obtain ⟨demand, home⟩ := claimedGoal_eq_home.1 claims
  refine claimedGoal_eq_home.2 ⟨?_, e.reqMode.trans home⟩
  rw [breakDemand_congr (s := s) (by rw [e.brk]), linkDemand_congr (s := s) e.life (by rw [e.link]), e.arb]
  exact demand

/-- With no apply pending the head is HOMING under the goal HOME. -/
theorem abandonForHome_idle (idle : (s.stdEarlyEnd .aborted .abandoned).ex.applyPending = false)
    (claims : (s.stdEarlyEnd .aborted .abandoned).enterHoming.claimedGoal = .home) :
    s.abandonForHome = (((s.stdEarlyEnd .aborted .abandoned).enterHoming).recompute .other).state := by
  let n := (s.stdEarlyEnd .aborted .abandoned).enterHoming
  have pending : n.ex.applyPending = false := by
    rw [(enterHoming_kept _).ex]
    exact idle
  have head : (n.recompute .other).state.trav.head = .homing := by
    rw [(recompute_ex .other n).2.2.1]
    exact enterHoming_head _
  have goal : (n.recompute .other).state.arb.goal = .home := (recompute_goal n .other).trans claims
  have still : ∀ p, (n.recompute .other).state.takeGoalStill p false = (n.recompute .other).state := by
    intro p
    rw [State.takeGoalStill, head]
    exact if_neg (by rw [goal]; exact Goal.noConfusion)
  unfold State.abandonForHome
  dsimp only
  rw [applyPoint_idle n pending]
  unfold Recomputed.settle
  dsimp only
  split
  · exact still _
  · rfl

/-- A word of the body of a record, in a memory that agrees with the record's on the store. -/
theorem record_bodyWord {h : RecHeader} {body : List Word} {k : Fin 8} (found : findFree s.mem s.ex.nextFrame = some k)
    {m : Mem} (same : ∀ hi, SameBytes m (s.produce h body).mem storeBase hi) {i : Nat} {w : Word}
    (word : body[i]? = some w) : readWord m (frameBase k.val + 4 * (16 + i)) = w := by
  obtain ⟨hi, rfl⟩ := List.getElem?_eq_some_iff.1 word
  rw [← produce_bodyWord h body found hi, show frameBase k.val + 4 * (16 + i) = frameBase k.val + 64 + 4 * i by omega]
  refine readWord_of_sameBytes (same (frameBase k.val + 64 + 4 * i + 4)) ?_ (Nat.le_refl _)
  simp only [frameBase]
  omega

/-- The four words of a channel in the record of an early end. -/
theorem earlyBody_words {ctx : StdCtx} {h : RecHeader} {k : Fin 8} (found : findFree s.mem s.ex.nextFrame = some k)
    {m : Mem} (same : ∀ hi, SameBytes m (s.produce h (earlyBody ctx .abandoned)).mem storeBase hi) {i : Nat}
    (hi : i < ctx.chans.length) :
    let word := fun i => readWord m (frameBase k.val + 4 * i)
    word (16 + 4 * i) = (if ctx.chans[i].old.accepted = true then BitVec.ofNat 32 ctx.chans[i].old.value else 0) ∧
      word (17 + 4 * i) = 0 ∧ word (18 + 4 * i) = 0 ∧ word (19 + 4 * i) = 6 := by
  have entry := fun j (hj : j < 4) => earlyBody_getElem? ctx .abandoned hi hj
  have word := fun {j : Nat} {w : Word} (e : (earlyBody ctx .abandoned)[4 * i + j]? = some w) =>
    record_bodyWord found same e
  dsimp only
  rw [show 17 + 4 * i = 16 + (4 * i + 1) by omega, show 18 + 4 * i = 16 + (4 * i + 2) by omega,
    show 19 + 4 * i = 16 + (4 * i + 3) by omega]
  refine ⟨(word (entry 0 (by decide))).trans ?_, word (entry 1 (by decide)), word (entry 2 (by decide)),
    word (entry 3 (by decide))⟩
  simp only [earlyEntry, Word.ofCount]
  split <;> rfl

/-- With no apply pending the early end for HOME leaves the references and the marks, the head HOMING, the shutter shut. -/
structure HomingFromStd (s w : State) : Prop where
  refs : w.std.refs = s.std.refs
  untried : w.std.untried = s.std.untried
  alarms : w.alarms = s.alarms
  due : w.std.due = true ↔ ∃ c : Fin 8, s.std.untried[c] = true
  goal : w.arb.goal = .home
  head : w.trav.head = .homing

theorem abandonForHome_homing {ctx : StdCtx} (found : s.std.ctx = some ctx) (idle : s.ex.applyPending = false)
    (claims : s.claimedGoal = .home) : HomingFromStd s s.abandonForHome := by
  have early := stdEarlyEnd_earlyEnd found .aborted .abandoned
  have homing := early.claims_home claims
  have moved := enterHoming_driveMoved (s.stdEarlyEnd .aborted .abandoned)
  obtain ⟨-, std, trav, -⟩ := recompute_ex .other (s.stdEarlyEnd .aborted .abandoned).enterHoming
  have frame := recompute_frame (s.stdEarlyEnd .aborted .abandoned).enterHoming .other
  rw [abandonForHome_idle (early.pending.trans idle) homing]
  have same : (s.stdEarlyEnd .aborted .abandoned).enterHoming.std = (s.stdEarlyEnd .aborted .abandoned).std := by
    rw [moved.frame]
  exact
    { refs := by rw [std, same, early.refs]
      untried := by rw [std, same, early.untried]
      alarms := by rw [frame, moved.frame]; exact early.alarms
      due := by rw [std, same]; exact early.due
      goal := (recompute_goal _ .other).trans homing
      head := by rw [trav]; exact enterHoming_head _ }

/-- The record and the rest of an early end for HOME, as the command leaves them. -/
theorem stdEndedEarly_of_given {ctx : StdCtx} (given : GoalGiven .home s v) (found : s.std.ctx = some ctx)
    (answer : Answered v.abandonForHome t) :
    StdEndedEarly ctx 6 6 s t := by
  have early := stdEarlyEnd_earlyEnd (s := v) (by rw [given.std]; exact found) .aborted .abandoned
  let e := v.stdEarlyEnd .aborted .abandoned
  have homing : NoRecord e e.enterHoming := enterHoming_noRecord e
  have all : NoRecord e v.abandonForHome := homing.trans (abandonForHome_noRecord v).1
  have notice := (abandonForHome_evolves_end v).frame.notices (Set.notMem_empty _) _ early.stdz
  have number : v.ex.lastRecord = s.ex.lastRecord := by rw [given.ex]
  have store : ∀ hi, SameBytes t.mem
      (v.produce (earlyHeader ctx .aborted v.link.timeCounter) (earlyBody ctx .abandoned)).mem storeBase hi := fun hi =>
    sameBytes_trans (answer.same (.inr (by decide))) (sameBytes_trans (all.store hi) (early.store hi))
  refine ⟨?_, ?_, ?_, ?_, ?_, fun k free => ?_, fun idle => ?_⟩
  · rw [answer.frame]; exact all.ctx.trans early.ended
  · rw [answer.frame]; exact notice
  · rw [answer.frame]; exact all.scanCount.trans early.scanCount
  · rw [answer.frame]; exact all.stdNow.trans early.stdNow
  · rw [answer.frame]; exact (all.lastRecord.trans early.lastRecord).trans (by rw [number])
  · have free' : findFree v.mem v.ex.nextFrame = some k := by
      rw [given.ex, findFree_congr (given.same (.inr (by decide)))]
      exact free
    have time : v.link.timeCounter = s.link.timeCounter := by rw [given.link]
    have generation : v.ex.generation = s.ex.generation := by rw [given.ex]
    obtain ⟨ready, words⟩ := record_words free' (store 0x40000)
    refine ⟨ready, words 0 (by decide), (words 1 (by decide)).trans (congrArg (· + 1) number), words 3 (by decide),
      words 4 (by decide), (words 5 (by decide)).trans generation, words 6 (by decide), (words 7 (by decide)).trans time,
      words 8 (by decide), words 9 (by decide), words 10 (by decide), words 11 (by decide), words 12 (by decide),
      words 13 (by decide), (words 14 (by decide)).trans ?_, fun i hi => earlyBody_words free' store hi⟩
    rw [← length_earlyBody ctx .abandoned]
    rfl
  · have rest := abandonForHome_homing (s := v) (by rw [given.std]; exact found) (by rw [given.ex]; exact idle) given.claims
    rw [answer.frame]
    refine ⟨rest.refs.trans (by rw [given.std]), rest.untried.trans (by rw [given.std]), fun c => ?_,
      rest.due.trans (by rw [given.std])⟩
    dsimp only
    rw [rest.alarms, given.alarms]

/-- The goal HOME ends a standardize that is under way. -/
theorem modeReq_home (holdPos : Word) (s : State) (ctx : StdCtx) (sound : s.Sound) (ready : s.ex.life = .ready)
    (broken : s.brk.state ≠ .broken) (up : s.link.up = true) (park : s.arb.panelPark = false) (goal : s.arb.goal ≠ .home)
    (found : s.std.ctx = some ctx) :
    Completes (.modeReq 5 holdPos) s (fun t =>
      StdEndedEarly ctx 6 6 s t ∧
      (s.ex.applyPending = false → t.arb.goal = .home ∧ t.trav.head = .homing ∧ t.link.shutter = false ∧
        t.link.ref = false)) := by
  have requested := acceptMode_requested .home holdPos s
  have claims : (s.acceptMode .home holdPos).claimedGoal = .home := by
    rw [requested.frame]
    exact claimedGoal_eq_home.2 ⟨no_demand broken up park, rfl⟩
  have head : s.trav.head = .standardizing := by
    have open_ := sound.head.std
    rw [found] at open_
    exact of_decide_eq_true open_.symm
  obtain ⟨v, p, given, handed⟩ := request_given requested claims goal.symm
  have taken : v.takeGoal p = v.abandonForHome :=
    takeGoal_standardizing_home p (by rw [given.trav]; exact head) given.goal
  have rest : v.abandonForHome.stdStartDue = false := by
    rcases (abandonForHome_noRecord v).2 with h | h | h <;> simp [State.stdStartDue, h]
  refine completes_modeReq .home holdPos ready (by simp) ?_
  rw [handed, taken]
  have answer := answered rest
  refine ⟨stdEndedEarly_of_given given found answer, fun idle => ?_⟩
  have homing := abandonForHome_homing (s := v) (by rw [given.std]; exact found) (by rw [given.ex]; exact idle) given.claims
  refine ⟨by rw [answer.frame]; exact homing.goal, by rw [answer.frame]; exact homing.head, ?_, ?_⟩
  · rw [answer.shutter, State.shutterDemand, homing.head]
    rfl
  · rw [answer.ref, State.refDemand, homing.head]
    rfl

/-- Settles O29. -/
theorem modeReq : Obligations.ModeReq := by
  refine ⟨fun holdPos s sound ready broken up park inhibit due now idle channels => ?_, modeReq_home, modeReq_fields⟩
  have calm : Undisturbed s := ⟨broken, up, park, inhibit, due, now, idle⟩
  exact ⟨modeReq_parked holdPos ready calm channels, modeReq_standing holdPos ready calm channels,
    modeReq_head holdPos s sound ready calm channels, modeReq_holding holdPos ready calm⟩

end Sys2Proof.Proofs
end

section
/-!
PROOFS. A whole MODE write: its result, and the write that repeats what stands.
-/
namespace Sys2Proof.Proofs

open Sys2Proof.Machine Sys2Proof.Laws

variable {s t u : State}

/-! ## The result (R16) -/

/-- After its conclusion the event leaves the result where the host reads it. -/
theorem concludeMode_result (r : Result) (s : State) :
    let t := (s.concludeMode r).endEvent
    t.ex.gateResult = r ∧ t.liveWord 0x010 = r.code ∧ (r ≠ .accepted → t.noticeSet .refused = true) := by
  have done := concludeMode_concluded r s
  have ended := endEvent_kept (s.concludeMode r)
  have word := (endEvent_evolves (own := ∅) (s := s.concludeMode r)).frame.modeResult (Set.notMem_empty _)
  refine ⟨?_, (readWord_of_sameBytes word (by decide) (by decide)).trans done.result, fun refused => ?_⟩
  · rw [ended.ex]
    by_cases accepted : r = .accepted
    · rw [done.accepted accepted, accepted]
    · rw [done.refused accepted]
  · have notice : (s.concludeMode r).ex.notice = s.ex.notice ||| Notice.refused.maskBit := by
      rw [done.refused refused, maskBit_refused]
    unfold State.noticeSet
    rw [ended.ex, notice]
    exact noticeSet_setNotice .refused s

theorem breakAckResult_eq (v : Word) (s : State) :
    s.breakAckResult v = if v ≠ 0 ∧ v ≠ s.brk.number then .staleAck else .accepted := by
  unfold State.breakAckResult
  by_cases stale : v ≠ 0 ∧ v ≠ s.brk.number
  · rw [if_pos stale, if_neg fun h => h.elim stale.1 stale.2]
  · rw [if_neg stale, if_pos (or_iff_not_imp_left.2 fun value => not_not.1 fun other => stale ⟨value, other⟩)]

theorem faultAckResult_eq (v : Word) (s : State) : s.faultAckResult v =
    if v ≠ 0 ∧ s.trav.head = .faulted ∧ s.trav.drvFault = true then .faultPersists else .accepted := rfl

/-- The first problem in the order of the fields (R16). -/
theorem first_problem (a b c : Result) {stale persists : Prop} [Decidable stale] [Decidable persists]
    (hb : b = if stale then .staleAck else .accepted) (hc : c = if persists then .faultPersists else .accepted) :
    a.first (b.first c) = if a ≠ .accepted then a else if stale then .staleAck
      else if persists then .faultPersists else .accepted := by
  unfold Result.first
  by_cases accepted : a = .accepted
  · rw [if_pos accepted, if_neg (not_not.2 accepted), hb]
    by_cases st : stale
    · rw [if_pos st, if_pos st, if_neg Result.noConfusion]
    · rw [if_neg st, if_neg st, if_pos rfl, hc]
  · rw [if_neg accepted, if_pos accepted]

/-! ## A write that repeats what stands -/

/-- A request repeated alone moves the live request and the hold position that no goal reads (R73). -/
theorem takeRequests_repeat (sound : s.Sound) (ready : s.ex.life = .ready) (granted : s.arb.granted = !s.arb.panelInhibit)
    (calm : s.ex.reqMode = .park ∨ s.ex.reqMode = .stop ∨ s.ex.reqMode = .home) (holdPos : Word) :
    ∃ pos, s.takeRequests s.ex.reqMode.code holdPos 0 =
      { s with mem := writeWord s.mem 0x08014 s.ex.reqMode.code, arb := { s.arb with holdPos := pos } } := by
  have noHold : s.ex.reqMode ≠ .hold := by rcases calm with h | h | h <;> rw [h] <;> exact ReqMode.noConfusion
  have noScan : s.ex.reqMode ≠ .scan := by rcases calm with h | h | h <;> rw [h] <;> exact ReqMode.noConfusion
  let u : State := { s with mem := writeWord s.mem 0x08014 s.ex.reqMode.code }
  have accept : s.acceptMode s.ex.reqMode holdPos = u := if_neg noHold
  have claims : u.claimedGoal = s.claimedGoal := claimedGoal_congr rfl rfl rfl rfl rfl rfl
  have goal : s.claimedGoal ≠ .hold := by
    unfold State.claimedGoal
    split
    · exact Goal.noConfusion
    · rcases calm with h | h | h
      · rw [h]
        dsimp only
        split <;> exact Goal.noConfusion
      · rw [h]
        exact Goal.noConfusion
      · rw [h]
        exact Goal.noConfusion
  have unchanged : (u.recompute .other).changed = false := by
    rw [Bool.eq_false_iff]
    intro changed
    rcases (recompute_changed_iff _ _).1 changed with differs | permission | position
    · exact differs (claims.trans (sound.goal.goal ready).symm)
    · exact permission granted.symm
    · exact goal (claims.symm.trans position.1)
  refine ⟨(u.recompute .other).state.arb.holdPos, ?_⟩
  rw [takeRequests_accepted (modeReqResult_accepted _ fun h => h.elim (absurd · noScan) (absurd · noHold)), accept]
  rcases handGoal_cases u .other with ⟨-, same⟩ | ⟨changed, -⟩
  · rw [same, recompute_unchanged u .other unchanged]
  · rw [unchanged] at changed
    cases changed

/-- Settles O28. -/
theorem modeWrite : Obligations.ModeWrite := by
  constructor
  · intro s ready
    dsimp only
    refine completes_event rfl ready ?_
    rw [State.modeWrite, first_problem _ _ _ (breakAckResult_eq _ _) (faultAckResult_eq _ _)]
    exact concludeMode_result _ _
  · intro s sound ready granted calm request stdNow breakAck faultAck arm
    obtain ⟨pos, repeated⟩ := takeRequests_repeat sound ready granted calm s.staged.modeHoldPos
    let u : State := { s with mem := writeWord s.mem 0x08014 s.ex.reqMode.code, arb := { s.arb with holdPos := pos } }
    have ack : u.takeBreakAck 0 = u := if_neg fun h => h.1 rfl
    have fault : u.takeFaultAck 0 = u := if_neg fun h => h.1 rfl
    have armed : u.takeArm s.staged.modeArm = u := if_pos arm
    have result : (s.modeReqResult s.ex.reqMode.code).first ((u.breakAckResult 0).first (u.faultAckResult 0)) =
        .accepted := by
      have accepted : s.modeReqResult s.ex.reqMode.code = .accepted := modeReqResult_accepted _ fun h => by
        rcases calm with c | c | c <;> rw [c] at h <;> rcases h with h | h <;> cases h
      have none : u.faultAckResult 0 = .accepted := if_neg fun h => h.1 rfl
      rw [accepted, none, breakAckResult_eq, if_neg fun h => h.1 rfl]
      rfl
    have run : s.modeWrite s.staged.modeReq s.staged.modeHoldPos s.staged.modeStdNow s.staged.modeBreakAck
        s.staged.modeFaultAck s.staged.modeArm = u.concludeMode .accepted := by
      rw [request, stdNow, breakAck, faultAck]
      unfold State.modeWrite
      dsimp only
      rw [repeated, ack, fault, armed, result]
    have settled : u.Settled := settled_congr sound.settled rfl rfl rfl rfl rfl rfl
    have done := concludeMode_concluded .accepted u
    refine completes_rest (f := State.modeWrite s.staged.modeReq s.staged.modeHoldPos s.staged.modeStdNow
      s.staged.modeBreakAck s.staged.modeFaultAck s.staged.modeArm) rfl ready run (concludeMode_settled settled)
      ⟨?_, ?_, ?_, ?_⟩
    · rw [done.accepted rfl]
    · rw [done.accepted rfl]
    · exact sameBytes_trans (done.sameBytes (.inl (Nat.le_refl _))) (sameBytes_writeWord _ _ _ (.inl (by decide)))
    · exact sameBytes_trans (done.sameBytes (.inr (by decide))) (sameBytes_writeWord _ _ _ (.inr (Nat.le_refl _)))

end Sys2Proof.Proofs
end

section
/-!
PROOFS. The fields BREAK_ACK and ARM: acknowledgement, resumption, the watch, a declaration by LINE.
-/
namespace Sys2Proof.Proofs

open Sys2Proof.Machine Sys2Proof.Laws

variable {s t u v w : State}

/-! ## Where no apply is taken -/

/-- An event in which the gate state stands takes no apply. -/
theorem Evolves.quiet {own : Set Reg} (h : Evolves own s t) (same : t.ex.applyPending = s.ex.applyPending) :
    GateStill own s t ∧ PageHeld own s t := by
  have never : ¬ (s.ex.applyPending = true ∧ t.ex.applyPending = false) := fun ⟨pending, idle⟩ => by
    rw [same, pending] at idle
    cases idle
  exact ⟨h.gate.resolve_right never, h.page.resolve_right fun ⟨pending, idle, _⟩ => never ⟨pending, idle⟩⟩

/-! ## What an operation leaves of the break monitor -/

theorem setBreakState_brk (b : BreakState) (s : State) : (s.setBreakState b).brk = { s.brk with state := b } := by
  unfold State.setBreakState
  split
  · rename_i same
    rw [← same]
  · rfl

theorem setMiss_brk (side : Side) (n : Nat) (s : State) : (s.setMiss side n).brk = s.brk := by
  rw [setMiss_eq]
  split
  · rw [State.clearAlarm_brk]
    cases side <;> rfl
  · cases side <;> rfl

theorem binResume_brk (s : State) : s.binResume.brk = s.brk := by
  unfold State.binResume
  dsimp only
  split
  · rw [State.setEdges_brk, setMiss_brk, setMiss_brk]
  · rw [setMiss_brk, setMiss_brk]

theorem resumeCore_brk (s : State) : s.resumeCore.brk =
    { s.brk with lowCount := 0, openCount := 0, state := if s.watches then .watch else .disarmed } := by
  unfold State.resumeCore
  dsimp only
  rw [State.setNotice_brk, State.writeResumeTime_brk, State.unseedAll_brk, binResume_brk, setBreakState_brk]
  rfl

theorem foldl_brk {α : Type} {f : State → α → State} (h : ∀ s a, (f s a).brk = s.brk) (l : List α) (s : State) :
    (l.foldl f s).brk = s.brk := by
  induction l generalizing s with
  | nil => rfl
  | cons a l ih => exact (ih _).trans (h s a)

theorem ite_brk {p : Prop} [Decidable p] (h : t.brk = s.brk) : (if p then t else s).brk = s.brk := by
  split
  · exact h
  · rfl

theorem enterFaulted_brk (cause : FaultCause) (s : State) : (s.enterFaulted cause).brk = s.brk := by
  unfold State.enterFaulted
  rw [State.setNotice_brk, State.live_brk, State.setHead_brk]

theorem applyLink_brk (h : ApplyHandoff) (s : State) : (s.applyLink h).brk = s.brk := ite_brk rfl

theorem applyBinning_brk (h : ApplyHandoff) (s : State) : (s.applyBinning h).brk = s.brk := by
  have discarded : (if s.trav.head = .holding then s.discardBatch else s).brk = s.brk := ite_brk rfl
  unfold State.applyBinning
  dsimp only
  split
  · rw [setMiss_brk, setMiss_brk, State.setEdges_brk, discarded]
  · exact discarded

theorem applyTraverse_brk (h : ApplyHandoff) (s : State) : (s.applyTraverse h).brk = s.brk := by
  have unhomed : (if h.changes.has 0x058 && s.trav.homed then s.enterUnhomed else s).brk = s.brk :=
    ite_brk (State.enterUnhomed_brk s)
  exact (ite_brk (enterFaulted_brk _ _)).trans unhomed

theorem applyStd_brk (h : ApplyHandoff) (s : State) : (s.applyStd h).brk = s.brk := by
  refine (State.tellDue_brk _).trans (foldl_brk (fun _ _ => ?_) channels8 s)
  refine ite_brk ?_
  rw [State.setUntried_brk, State.clearAlarm_brk, State.setRef_brk]

theorem applyProfile_brk (h : ApplyHandoff) (s : State) : (s.applyProfile h).brk = s.brk := by
  have channels := foldl_brk (f := fun s (c : Fin 8) => if h.unseeds c then s.unseed c.castSucc else s)
    (fun v c => ite_brk (State.unseed_brk ..)) channels8 s
  unfold State.applyProfile
  dsimp only
  split
  · rfl
  · exact (ite_brk (State.unseed_brk ..)).trans channels

theorem applyConvert_brk (h : ApplyHandoff) (s : State) : (s.applyConvert h).brk = s.brk :=
  (ite_brk (State.liveDisable_brk ..)).trans
    (foldl_brk (f := fun s (c : Fin 8) => if h.disabled c then s.liveDisable c.castSucc else s)
      (fun _ _ => ite_brk (State.liveDisable_brk ..)) channels8 s)

theorem resetEntry_brk (i : Fin 48) (clear : Bool) (s : State) : (s.resetEntry i clear).brk = s.brk := by
  unfold State.resetEntry
  split
  · exact State.clearAlarm_brk ..
  · exact State.setAlarm_brk ..

theorem dropChannel_brk (k : Fin 9) (s : State) : (s.dropChannel k).brk = s.brk :=
  foldl_brk (fun v _ => resetEntry_brk _ _ v) scanKinds s

theorem applyLimits_brk (h : ApplyHandoff) (s : State) : (s.applyLimits h).brk = s.brk := by
  have limit : ∀ (v : State) (k : Fin 9), (v.applyLimit h k).brk = v.brk := fun v k =>
    ite_brk (foldl_brk (fun v _ => resetEntry_brk _ _ v) scanKinds v)
  exact (ite_brk (dropChannel_brk _ _)).trans
    ((foldl_brk (f := fun s (c : Fin 8) => if h.disabled c then s.dropChannel c.castSucc else s)
      (fun v c => ite_brk (dropChannel_brk _ v)) channels8 _).trans (foldl_brk limit channels9 s))

/-- A break stands, not acknowledged, with what names it. -/
structure BreakHeld (s t : State) : Prop where
  state : t.brk.state = .broken
  latch : t.brk.latch = false
  number : t.brk.number = s.brk.number
  newest : t.brk.newest = s.brk.newest
  armed : t.brk.armed = s.brk.armed

theorem BreakHeld.trans (h1 : BreakHeld s t) (h2 : BreakHeld t u) : BreakHeld s u :=
  ⟨h2.state, h2.latch, h2.number.trans h1.number, h2.newest.trans h1.newest, h2.armed.trans h1.armed⟩

theorem BreakHeld.of_brk (h : BreakHeld s t) (same : u.brk = t.brk) : BreakHeld s u := by
  refine ⟨?_, ?_, ?_, ?_, ?_⟩ <;> rw [same]
  exacts [h.state, h.latch, h.number, h.newest, h.armed]

/-- A break that is not acknowledged stands through the break monitor's part of an apply (R182). -/
theorem applyBreak_held (h : ApplyHandoff) (held : BreakHeld s t) : BreakHeld s (t.applyBreak h).state := by
  have counts : BreakHeld s (t.applyCounts h) := ⟨held.state, held.latch, held.number, held.newest, held.armed⟩
  have due : (t.applyCounts h).resumeDue = false := by
    rw [State.resumeDue, counts.latch, Bool.and_false, Bool.false_and]
  have watch : (t.applyCounts h).takeWatch = (false, t.applyCounts h) := by
    unfold State.takeWatch
    rw [counts.state]
  unfold State.applyBreak
  dsimp only
  rw [due, watch]
  dsimp only
  rw [counts.state]
  exact counts

theorem applyReactions_held (h : ApplyHandoff) (held : BreakHeld s t) : BreakHeld s (t.applyReactions h).state := by
  refine applyBreak_held h (held.of_brk ?_)
  rw [(recompute_ex .other _).2.2.2.2.2.2, applyLimits_brk, applyConvert_brk, applyProfile_brk, applyStd_brk,
    applyTraverse_brk, applyBinning_brk, applyLink_brk]

theorem acceptApply_brk (s : State) : s.acceptApply.brk = s.brk := by
  unfold State.acceptApply
  rw [State.setNotice_brk, State.gateIdle_brk]
  rfl

theorem applyPoint_held (held : BreakHeld s t) : BreakHeld s t.applyPoint.state := by
  cases pending : t.ex.applyPending with
  | false => rw [applyPoint_idle t pending]; exact held
  | true =>
    rw [applyPoint_pending t pending]
    cases check : validatePage t.staged with
    | some f =>
      rw [applyTake_refused t check]
      exact held.of_brk (by rw [refuseApply_eq])
    | none =>
      rw [applyTake_accepted t check]
      exact applyReactions_held _ (held.of_brk (acceptApply_brk t))

/-- A break that is not acknowledged stands while the head takes the goal PARK. -/
theorem takeGoal_park_held (p : Bool) (held : BreakHeld s t) (goal : t.arb.goal = .park) : BreakHeld s (t.takeGoal p) := by
  have aborted : BreakHeld s t.abortForGoal := by
    have point := applyPoint_held (held.of_brk (abortScan_kept t.arb.cause.outcome t).brk)
    exact point.of_brk (thenEnter_kept _ fun v => (enterAborted_move t.arb.goal v).kept).brk
  have still : BreakHeld s (t.takeGoalStill p false) := held.of_brk (takeGoalStill_kept p false t).brk
  unfold State.takeGoal
  rw [goal]
  split
  iterate 2 exact aborted
  · exact held
  all_goals exact still

end Sys2Proof.Proofs
end

section
/-!
PROOFS. BREAK_ACK and ARM: the clauses, by the state of the break monitor (R175, R179, R180).
-/
namespace Sys2Proof.Proofs

open Sys2Proof.Machine Sys2Proof.Laws

variable {s t u v w : State}

/-! ## The two runs -/

theorem completes_breakAck {P : State → Prop} {x : Word} {r : Result} (ready : s.ex.life = .ready)
    (taken : s.takeBreakAck x = u) (result : s.breakAckResult x = r) (h : P (u.concludeMode r).endEvent) :
    Completes (.breakAck x) s P :=
  completes_run (f := fun s => (s.takeBreakAck x).concludeMode (s.breakAckResult x)) rfl ready
    (by rw [taken, result]) h

theorem completes_arm {P : State → Prop} {x : Word} (ready : s.ex.life = .ready) (taken : s.takeArm x = u)
    (h : P (u.concludeMode .accepted).endEvent) : Completes (.arm x) s P :=
  completes_run (f := fun s => (s.takeArm x).concludeMode .accepted) rfl ready (by rw [taken]) h

/-- An answer to a settled state. -/
theorem concludeMode_endEvent {r : Result} (settled : s.Settled) :
    Concluded r s (s.concludeMode r).endEvent := by
  rw [endEvent_of_settled _ (concludeMode_settled settled)]
  exact concludeMode_concluded r s

/-- The monitor's registers and the memory are no part of what is settled. -/
theorem setBrk_settled (b : BreakMon) (m : Mem) (settled : s.Settled) : ({ s with brk := b, mem := m } : State).Settled :=
  settled_congr settled rfl rfl rfl rfl rfl rfl

/-! ## BREAK_ACK that resumes nothing -/

theorem takeBreakAck_none {x : Word} (h : x = 0 ∨ x ≠ s.brk.number ∨ s.brk.state ≠ .broken ∨ s.brk.latch = true) :
    s.takeBreakAck x = s := by
  refine if_neg fun ⟨value, number, broken, latch⟩ => ?_
  rcases h with zero | stale | other | latched
  · exact value zero
  · exact stale number
  · exact other broken
  · rw [latch] at latched
    cases latched

theorem breakAckResult_accepted {x : Word} (h : x = 0 ∨ x = s.brk.number) : s.breakAckResult x = .accepted := if_pos h

theorem breakAckResult_stale {x : Word} (value : x ≠ 0) (stale : x ≠ s.brk.number) : s.breakAckResult x = .staleAck :=
  if_neg fun h => h.elim value stale

/-- The acknowledgement before a resumption (R179). -/
def acked (s : State) : State :=
  { s with brk := { s.brk with latch := true },
           mem := writeWord s.mem (historyAddr s.brk.newest + 36) s.link.timeCounter }

theorem takeBreakAck_acked {x : Word} (value : x ≠ 0) (number : x = s.brk.number) (broken : s.brk.state = .broken)
    (latch : s.brk.latch = false) : s.takeBreakAck x = (acked s).checkResume :=
  if_pos ⟨value, number, broken, latch⟩

theorem acked_sameBytes (s : State) {lo hi : Nat}
    (h : hi ≤ historyAddr s.brk.newest + 36 ∨ historyAddr s.brk.newest + 40 ≤ lo) : SameBytes (acked s).mem s.mem lo hi :=
  sameBytes_writeWord _ _ _ h

theorem acked_page (s : State) {off : Nat} (ho : off + 4 ≤ 0x4000) : (acked s).page off = s.page off := by
  have range := historyAddr_range s.brk.newest
  simp only [historyBase] at range
  refine page_of_sameBytes (acked_sameBytes s (.inl ?_)) ho
  simp only [liveBase]
  omega

/-- A resumption is due exactly where the LINE condition is clear (R180). -/
theorem acked_resumeDue (broken : s.brk.state = .broken) :
    (acked s).resumeDue = (!s.page.cueLine || !s.brk.line) := by
  have page : (acked s).page.cueLine = s.page.cueLine := by
    rw [Page.cueLine, acked_page s (by decide), Page.cueLine]
  have state : (acked s).brk.state = .broken := broken
  rw [State.resumeDue, State.lineClear, page, state]
  rfl

/-! ## ARM -/

theorem takeArm_held {x : Word} (same : s.brk.armed = decide (x ≠ 0)) : s.takeArm x = s := if_pos same.symm

/-- The armed flag changed, before the watch (R175). -/
def armedTo (b : Bool) (s : State) : State := { s with brk := { s.brk with armed := b } }

theorem takeArm_changed {x : Word} (differs : s.brk.armed ≠ decide (x ≠ 0)) :
    s.takeArm x = if (armedTo (decide (x ≠ 0)) s).takeWatch.1 = true then
      (armedTo (decide (x ≠ 0)) s).takeWatch.2.declare cueBitLine (armedTo (decide (x ≠ 0)) s).takeWatch.2.trav.position
      else (armedTo (decide (x ≠ 0)) s).takeWatch.2 := if_neg differs.symm

/-- The monitor goes to a state that is not the one it is in, with its counts cleared. -/
theorem clearCounts_setBreakState {b : BreakState} (ne : s.brk.state ≠ b) : s.clearCounts.setBreakState b =
    { s with brk := { s.brk with state := b, lowCount := 0, openCount := 0 }, mem := writeWord s.mem 0x0804C b.code } :=
  if_neg ne

theorem cueEnables_ne_zero {p : Page} (line : p.cueLine = true) : p.cueEnables ≠ 0 := by
  intro zero
  have bit : p.cueEnables.getLsbD 2 = true := by
    rw [Page.cueEnables, BitVec.getLsbD_setWidth]
    exact line
  rw [zero] at bit
  cases bit

/-! ## The resumption (R180) -/

theorem clearAlarm_applyPending (i : Fin 48) (v : Option Int) (s : State) :
    (s.clearAlarm i v).ex.applyPending = s.ex.applyPending := by
  unfold State.clearAlarm
  dsimp only
  split
  · rw [State.setNotice_applyPending, State.setAlarm_ex]
  · rw [State.setAlarm_ex]

theorem setMiss_applyPending (side : Side) (n : Nat) (s : State) :
    (s.setMiss side n).ex.applyPending = s.ex.applyPending := by
  rw [setMiss_eq]
  split
  · rw [clearAlarm_applyPending]
    cases side <;> rfl
  · cases side <;> rfl

theorem setMiss_trav (side : Side) (n : Nat) (s : State) : (s.setMiss side n).trav = s.trav := by
  rw [setMiss_eq]
  split
  · rw [State.clearAlarm_trav]
    cases side <;> rfl
  · cases side <;> rfl

/-- The state of a resumption before RESUME_TIME is written (R180 steps 1 to 3). -/
def resuming (s : State) : State :=
  ((s.clearCounts.setBreakState (if s.watches then .watch else .disarmed)).binResume).unseedAll

theorem resumeCore_eq (s : State) : s.resumeCore = ((resuming s).writeResumeTime).setNotice .resumed := rfl

theorem resuming_kept (s : State) :
    (resuming s).ex.applyPending = s.ex.applyPending ∧ (resuming s).trav = s.trav ∧
      (resuming s).brk = { s.brk with lowCount := 0, openCount := 0, state := if s.watches then .watch else .disarmed } := by
  have state : ∀ b : BreakState, (s.clearCounts.setBreakState b).ex = s.ex ∧ (s.clearCounts.setBreakState b).trav = s.trav :=
    fun b => ⟨State.setBreakState_ex .., State.setBreakState_trav ..⟩
  have kept : ∀ v : State, v.binResume.ex.applyPending = v.ex.applyPending ∧ v.binResume.trav = v.trav := by
    intro v
    unfold State.binResume
    dsimp only
    split
    · rw [State.setEdges_ex, State.setEdges_trav, setMiss_applyPending, setMiss_applyPending, setMiss_trav, setMiss_trav]
      exact ⟨rfl, rfl⟩
    · rw [setMiss_applyPending, setMiss_applyPending, setMiss_trav, setMiss_trav]
      exact ⟨rfl, rfl⟩
  refine ⟨?_, ?_, resumeCore_brk s⟩
  · exact (kept _).1.trans (congrArg Exchange.applyPending (state _).1)
  · exact (kept _).2.trans (state _).2

theorem resuming_evolves (s : State) : Evolves { .edges, .filters } s (resuming s) :=
  ((clearCounts_evolves.trans (setBreakState_evolves _)).trans (binResume_evolves (.inl rfl))).trans
    (unseedAll_evolves (.inr rfl))

/-- The memory beside the live area. -/
structure BesideLive (s t : State) : Prop where
  pages : SameBytes t.mem s.mem 0 liveBase
  history : SameBytes t.mem s.mem historyBase storeBase

theorem sameBytes_join {m n : Mem} {lo mid hi : Nat} (h1 : SameBytes m n lo mid) (h2 : SameBytes m n mid hi) :
    SameBytes m n lo hi := fun a low high => by
  by_cases h : a < mid
  · exact h1 a low h
  · exact h2 a (Nat.le_of_not_lt h) high

/-- Where no apply is taken and neither the staged page nor the history is written, the memory beside the live area
stands. -/
theorem Evolves.besideLive {own : Set Reg} (h : Evolves own s t) (same : t.ex.applyPending = s.ex.applyPending)
    (staged : .staged ∉ own) (history : .history ∉ own) : BesideLive s t := by
  obtain ⟨gate, page⟩ := h.quiet same
  exact ⟨sameBytes_join (h.frame.staged staged) page.active, sameBytes_join (gate.history history) h.frame.spare⟩

/-- The head takes a goal without an apply point: it is not traversing, and a standardize that it may end has no apply
pending. -/
structure NoApplyPoint (s : State) : Prop where
  outbound : s.trav.head ≠ .outbound
  inbound : s.trav.head ≠ .inbound
  std : s.ex.applyPending = false ∨ s.trav.head ≠ .standardizing

theorem abandonForHome_brk (idle : s.ex.applyPending = false) : s.abandonForHome.brk = s.brk := by
  let e := s.stdEarlyEnd .aborted .abandoned
  have early : e.brk = s.brk ∧ e.ex.applyPending = s.ex.applyPending := by
    cases found : s.std.ctx with
    | none =>
      have same : e = s := by
        unfold e State.stdEarlyEnd
        rw [found]
      rw [same]
      exact ⟨rfl, rfl⟩
    | some ctx =>
      have end_ := stdEarlyEnd_earlyEnd found .aborted .abandoned
      exact ⟨end_.brk, end_.pending⟩
  have homing := enterHoming_kept e
  have pending : e.enterHoming.ex.applyPending = false := by rw [homing.ex]; exact early.2.trans idle
  obtain ⟨changed, posChanged, same⟩ := abandonForHome_eq s
  have settle : ∀ r : Recomputed, r.settle.brk = r.state.brk := by
    intro r
    unfold Recomputed.settle
    exact ite_brk (takeGoalStill_kept _ _ _).brk
  rw [same, settle, applyPoint_idle _ pending]
  exact ((recompute_ex .other e.enterHoming).2.2.2.2.2.2.trans homing.brk).trans early.1

theorem takeGoal_quiet (p : Bool) (h : NoApplyPoint s) :
    (s.takeGoal p).ex.applyPending = s.ex.applyPending ∧ (s.takeGoal p).brk = s.brk := by
  have still : (s.takeGoalStill p false).ex.applyPending = s.ex.applyPending ∧ (s.takeGoalStill p false).brk = s.brk := by
    have kept := takeGoalStill_kept p false s
    exact ⟨by rw [kept.ex], kept.brk⟩
  unfold State.takeGoal
  split
  · rename_i head
    exact absurd head h.outbound
  · rename_i head
    exact absurd head h.inbound
  · rename_i head
    split
    · have idle := h.std.resolve_right (not_not.2 head)
      exact ⟨((abandonForHome_evolves (own := ∅)).idle idle).trans idle.symm, abandonForHome_brk idle⟩
    · exact ⟨rfl, rfl⟩
  all_goals exact still

theorem handGoal_quiet (ev : GoalEvent) (h : NoApplyPoint s) :
    (s.handGoal ev).ex.applyPending = s.ex.applyPending ∧ (s.handGoal ev).brk = s.brk := by
  obtain ⟨ex, -, trav, -, -, -, brk⟩ := recompute_ex ev s
  rcases handGoal_cases s ev with ⟨-, e⟩ | ⟨-, e⟩
  · rw [e, ex, brk]
    exact ⟨rfl, rfl⟩
  · have point : NoApplyPoint (s.recompute ev).state := by
      refine ⟨?_, ?_, ?_⟩ <;> rw [trav]
      · exact h.outbound
      · exact h.inbound
      · rw [ex]
        exact h.std
    rw [e]
    exact ⟨(takeGoal_quiet _ point).1.trans (by rw [ex]), (takeGoal_quiet _ point).2.trans brk⟩

/-- In BROKEN the head is not traversing (Sound). -/
theorem noApplyPoint_of_broken (sound : s.Sound) (broken : s.brk.state = .broken)
    (std : s.ex.applyPending = false ∨ s.trav.head ≠ .standardizing) : NoApplyPoint s := by
  have shut := sound.goal.parked (by rw [State.breakDemand, broken]; rfl)
  refine ⟨fun head => ?_, fun head => ?_, std⟩
  · rw [head] at shut
    cases shut
  · rw [head] at shut
    cases shut

/-- What a command that ends with the host's answer leaves of a state whose goal is handed without an apply point. -/
theorem handed_answer (h : NoApplyPoint s) :
    let t := ((s.handGoal .other).concludeMode .accepted).endEvent
    t.brk = s.brk ∧ BesideLive s t ∧ (∀ n, s.noticeSet n = true → t.noticeSet n = true) ∧ t.ex.gateResult = .accepted ∧
      t.liveWord 0x010 = 1 := by
  obtain ⟨pending, brk⟩ := handGoal_quiet .other h
  have done := concludeMode_concluded .accepted (s.handGoal .other)
  have ended := endEvent_kept ((s.handGoal .other).concludeMode .accepted)
  have gate : Reg.gate ∈ ({ .gate, .modeResult } : Set Reg) := .inl rfl
  have result : Reg.modeResult ∈ ({ .gate, .modeResult } : Set Reg) := .inr rfl
  have all : Evolves { .gate, .modeResult } s ((s.handGoal .other).concludeMode .accepted).endEvent :=
    ((handGoal_evolves .other).trans (concludeMode_evolves .accepted gate result)).trans endEvent_evolves
  have answer := concludeMode_result .accepted (s.handGoal .other)
  refine ⟨?_, all.besideLive ?_ (by simp) (by simp), fun n => all.frame.notices (by simp) n.bit, answer.1, answer.2.1⟩
  · rw [ended.brk, done.accepted rfl]
    exact brk
  · rw [ended.ex, done.accepted rfl]
    exact pending

/-- A resumption: RESUME_TIME is written, and beside the live area nothing else (R180). -/
theorem resumeCore_memory (s : State) :
    readWord s.resumeCore.mem (historyAddr s.brk.newest + 40) = s.link.timeCounter ∧
      SameBytes s.resumeCore.mem s.mem 0 liveBase ∧
      SameBytes s.resumeCore.mem s.mem historyBase (historyAddr s.brk.newest + 40) ∧
      SameBytes s.resumeCore.mem s.mem (historyAddr s.brk.newest + 44) storeBase := by
  have range := historyAddr_range s.brk.newest
  obtain ⟨pending, -, brk⟩ := resuming_kept s
  have beside := (resuming_evolves s).besideLive pending (by simp) (by simp)
  have time : (resuming s).link.timeCounter = s.link.timeCounter := (resuming_evolves s).frame.time
  have mem : s.resumeCore.mem = writeWord (resuming s).mem (historyAddr s.brk.newest + 40) s.link.timeCounter := by
    rw [resumeCore_eq, State.setNotice_mem, State.writeResumeTime, time, brk]
  rw [mem]
  simp only [historyBase] at range
  refine ⟨readWord_writeWord_same _ _ _, sameBytes_trans (sameBytes_writeWord _ _ _ (.inl ?_)) beside.pages,
    sameBytes_trans (sameBytes_writeWord _ _ _ (.inl (Nat.le_refl _))) (sameBytes_mono beside.history (Nat.le_refl _) ?_),
    sameBytes_trans (sameBytes_writeWord _ _ _ (.inr (Nat.le_refl _))) (sameBytes_mono beside.history ?_ (Nat.le_refl _))⟩
  · simp only [liveBase]; omega
  · simp only [storeBase]; omega
  · simp only [historyBase]; omega

/-- The acknowledgement that resumes (R179, R180). -/
theorem breakAck_resumes {x : Word} (sound : s.Sound) (ready : s.ex.life = .ready) (value : x ≠ 0)
    (number : x = s.brk.number) (broken : s.brk.state = .broken) (latch : s.brk.latch = false)
    (clear : s.page.cueLine = false ∨ s.brk.line = false) (idle : s.ex.applyPending = false ∨ s.trav.head ≠ .standardizing) :
    Completes (.breakAck x) s (fun t =>
      t.brk.latch = true ∧
      t.brk.state = (if s.brk.armed = true ∧ s.page.cueEnables ≠ 0 then .watch else .disarmed) ∧
      readWord t.mem (historyAddr s.brk.newest + 36) = s.link.timeCounter ∧
      readWord t.mem (historyAddr s.brk.newest + 36 + 4) = s.link.timeCounter ∧
      t.noticeSet .resumed = true ∧ t.ex.gateResult = .accepted ∧ t.liveWord 0x010 = 1 ∧
      SameBytes t.mem s.mem 0 liveBase ∧ SameBytes t.mem s.mem historyBase (historyAddr s.brk.newest + 36) ∧
      SameBytes t.mem s.mem (historyAddr s.brk.newest + 36 + 8) storeBase) := by
  have due : (acked s).resumeDue = true := by
    rw [acked_resumeDue broken]
    rcases clear with h | h <;> rw [h] <;> simp
  have taken : s.takeBreakAck x = (acked s).resumeCore.handGoal .other := by
    rw [takeBreakAck_acked value number broken latch, State.checkResume, if_pos due, State.resume]
  obtain ⟨pending, trav, brk⟩ := resuming_kept (acked s)
  have core : (acked s).resumeCore.trav = s.trav ∧ (acked s).resumeCore.ex.applyPending = s.ex.applyPending := by
    rw [resumeCore_eq, State.setNotice_trav, State.setNotice_applyPending, State.writeResumeTime_trav,
      State.writeResumeTime_ex, trav, pending]
    exact ⟨rfl, rfl⟩
  have point : NoApplyPoint (acked s).resumeCore := by
    have here := noApplyPoint_of_broken sound broken idle
    exact ⟨by rw [core.1]; exact here.outbound, by rw [core.1]; exact here.inbound, by rw [core.1, core.2]; exact here.std⟩
  obtain ⟨sameBrk, beside, notices, result, word⟩ := handed_answer point
  have coreBrk := resumeCore_brk (acked s)
  have range := historyAddr_range s.brk.newest
  obtain ⟨time, pages, before, after⟩ := resumeCore_memory (acked s)
  rw [show (acked s).brk.newest = s.brk.newest from rfl] at time before after
  have watches : (acked s).watches = decide (s.brk.armed = true ∧ s.page.cueEnables ≠ 0) := by
    have enables : (acked s).page.cueEnables = s.page.cueEnables := by
      rw [Page.cueEnables, acked_page s (by decide), Page.cueEnables]
    have armed : (acked s).brk.armed = s.brk.armed := rfl
    rw [State.watches, enables, armed, Bool.decide_and, Bool.decide_eq_true]
  simp only [historyBase] at range
  refine completes_breakAck ready taken (breakAckResult_accepted (.inr number)) ⟨?_, ?_, ?_, ?_, ?_, result, word, ?_, ?_, ?_⟩
  · rw [sameBrk, coreBrk]
    rfl
  · rw [sameBrk, coreBrk, watches]
    dsimp only
    simp only [decide_eq_true_eq]
  · refine (readWord_of_sameBytes beside.history ?_ ?_).trans
      ((readWord_of_sameBytes before ?_ (Nat.le_refl _)).trans (readWord_writeWord_same _ _ _))
    all_goals simp only [historyBase, storeBase]; omega
  · refine (readWord_of_sameBytes beside.history ?_ ?_).trans time
    all_goals simp only [historyBase, storeBase]; omega
  · exact notices .resumed (noticeSet_setNotice _ _)
  · refine sameBytes_trans beside.pages (sameBytes_trans pages (acked_sameBytes s (.inl ?_)))
    simp only [liveBase]; omega
  · refine sameBytes_trans (sameBytes_mono beside.history (Nat.le_refl _) ?_) (sameBytes_trans
      (sameBytes_mono before (Nat.le_refl _) ?_) (acked_sameBytes s (.inl (Nat.le_refl _))))
    · simp only [storeBase]; omega
    · exact Nat.add_le_add_left (by decide) _
  · refine sameBytes_trans (sameBytes_mono beside.history ?_ (Nat.le_refl _)) (sameBytes_trans after
      (acked_sameBytes s (.inr ?_)))
    · simp only [historyBase]; omega
    · omega

/-! ## ARM and the watch (R175) -/

/-- The watch outside a change of its state. -/
theorem armed_rest (b : Bool) (h : s.brk.state = .broken ∨ (s.brk.state = .disarmed ∧ s.page.cueEnables = 0)) :
    (armedTo b s).takeWatch = (false, armedTo b s) := by
  unfold State.takeWatch
  rcases h with broken | ⟨disarmed, none⟩
  · rw [show (armedTo b s).brk.state = .broken from broken]
  · have watches : (armedTo b s).watches = false := by
      rw [State.watches, show (armedTo b s).page = s.page from rfl, none]
      exact Bool.and_false _
    rw [show (armedTo b s).brk.state = .disarmed from disarmed, watches]
    rfl

/-- Disarmed from WATCH. -/
theorem disarmed_watch (watch : s.brk.state = .watch) :
    (armedTo false s).takeWatch = (false, { s with
      brk := { s.brk with armed := false, state := .disarmed, lowCount := 0, openCount := 0 },
      mem := writeWord s.mem 0x0804C 0 }) := by
  have state : (armedTo false s).brk.state = .watch := watch
  have watches : (armedTo false s).watches = false := Bool.false_and _
  unfold State.takeWatch
  rw [state, watches]
  dsimp only
  rw [if_neg Bool.false_ne_true, clearCounts_setBreakState (by rw [state]; exact BreakState.noConfusion)]
  rfl

/-- Armed from DISARMED with a cue enabled. -/
theorem armed_watch (disarmed : s.brk.state = .disarmed) (enables : s.page.cueEnables ≠ 0) :
    (armedTo true s).takeWatch = (s.page.cueLine && s.brk.line, { s with
      brk := { s.brk with armed := true, state := .watch, lowCount := 0, openCount := 0 },
      mem := writeWord s.mem 0x0804C 1 }) := by
  have state : (armedTo true s).brk.state = .disarmed := disarmed
  have watches : (armedTo true s).watches = true := by
    rw [State.watches, show (armedTo true s).page = s.page from rfl, decide_eq_true enables]
    rfl
  unfold State.takeWatch
  rw [state, watches]
  dsimp only
  rw [if_pos rfl, clearCounts_setBreakState (by rw [state]; exact BreakState.noConfusion)]
  rfl

/-! ## The declaration by LINE of an arming -/

theorem recompute_claimedGoal_broken (ev : GoalEvent) (broken : s.brk.state = .broken) :
    (s.recompute ev).state.arb.goal = .park := by
  rw [recompute_goal, State.claimedGoal]
  exact if_pos (by rw [State.breakDemand, broken]; rfl)

theorem breakStart_held (s : State) : BreakHeld s.breakStart s.breakStart ∧ s.breakStart.brk.number = s.brk.number + 1 ∧
    s.breakStart.brk.newest = s.brk.newest ∧ s.breakStart.brk.armed = s.brk.armed := by
  have brk : s.breakStart.brk = { s.brk with
      number := s.brk.number + 1, latch := false, lowCount := 0, openCount := 0, state := .broken } := by
    unfold State.breakStart
    dsimp only
    rw [setBreakState_brk]
    rfl
  rw [brk]
  exact ⟨⟨by rw [brk], by rw [brk], rfl, rfl, rfl⟩, rfl, rfl, rfl⟩

/-- A break as it stands after the goal is handed: numbered, not acknowledged, its goal PARK (R176). -/
theorem breakStart_handed (s : State) : BreakHeld s.breakStart (s.breakStart.handGoal .breakRaised) := by
  obtain ⟨held, -⟩ := breakStart_held s
  rcases handGoal_cases s.breakStart .breakRaised with ⟨-, e⟩ | ⟨-, e⟩
  · rw [e]
    exact held.of_brk (recompute_ex _ _).2.2.2.2.2.2
  · rw [e]
    exact takeGoal_park_held _ (held.of_brk (recompute_ex _ _).2.2.2.2.2.2)
      (recompute_claimedGoal_broken .breakRaised held.state)

/-- What a declaration leaves (R176, R177). -/
structure Declared (cues : BitVec 4) (s t : State) : Prop where
  state : t.brk.state = .broken
  number : t.brk.number = s.brk.number + 1
  newest : t.brk.newest = s.brk.newest + 1
  armed : t.brk.armed = s.brk.armed
  goal : t.arb.goal = .park
  notice : t.noticeSet .brk = true
  entry : readWord t.mem (historyAddr (s.brk.newest + 1) + 20) = cues.setWidth 32

theorem goal_park_of_broken (fits : GoalFits s) (broken : s.brk.state = .broken) : s.arb.goal = .park := by
  rw [fits, State.claimedGoal]
  exact if_pos (by rw [State.breakDemand, broken]; rfl)

theorem declare_declared (cues : BitVec 4) (cuePos : Word) (s : State) : Declared cues s (s.declare cues cuePos) := by
  have held := breakStart_handed s
  obtain ⟨-, number, newest, armed⟩ := breakStart_held s
  let h := s.breakStart.handGoal .breakRaised
  have written : ∀ (work : OpenWork) (record : Word),
      Declared cues s ((h.writeHistory s.trav.head cues s.trav.position cuePos work record).setNotice .brk) := by
    intro work record
    let w := h.writeHistory s.trav.head cues s.trav.position cuePos work record
    have brk : w.brk = { h.brk with newest := h.brk.newest + 1 } := rfl
    have fits : GoalFits (w.setNotice .brk) := setNotice_fits .brk (writeHistory_fits _ _ _ _ _ _ (handGoal_fits _ _))
    have broken : (w.setNotice .brk).brk.state = .broken := by
      rw [State.setNotice_brk, brk]
      exact held.state
    refine ⟨broken, ?_, ?_, ?_, goal_park_of_broken fits broken, noticeSet_setNotice _ _, ?_⟩
    · rw [State.setNotice_brk, brk]
      exact held.number.trans number
    · rw [State.setNotice_brk, brk]
      exact congrArg (· + 1) (held.newest.trans newest)
    · rw [State.setNotice_brk, brk]
      exact held.armed.trans armed
    · have range := historyAddr_range (s.brk.newest + 1)
      simp only [historyBase] at range
      have index : h.brk.newest = s.brk.newest := held.newest.trans newest
      rw [State.setNotice_mem]
      unfold State.writeHistory
      rw [index]
      exact (readWord_writeWord_other _ _ _ _ (.inr (by simp only [liveBase]; omega))).trans
        (readWord_writeWords_get _ _ (historyAddr (s.brk.newest + 1)) 5 (by simp))
  exact written _ _

theorem arm_declares {x : Word} (ready : s.ex.life = .ready) (armed : s.brk.armed = false) (value : x ≠ 0)
    (disarmed : s.brk.state = .disarmed) (cue : s.page.cueLine = true) (line : s.brk.line = true) :
    Completes (.arm x) s (fun t =>
      t.brk.armed = true ∧ t.brk.state = .broken ∧ t.brk.number = s.brk.number + 1 ∧ t.brk.newest = s.brk.newest + 1 ∧
      t.arb.goal = .park ∧ t.noticeSet .brk = true ∧ t.ex.gateResult = .accepted ∧
      readWord t.mem (historyBase + 64 * (s.brk.newest + 1).val + 20) = 4) := by
  let w : State := { s with
    brk := { s.brk with armed := true, state := .watch, lowCount := 0, openCount := 0 }
    mem := writeWord s.mem 0x0804C 1 }
  have taken : s.takeArm x = w.declare cueBitLine w.trav.position := by
    rw [takeArm_changed (by rw [armed, decide_eq_true value]; exact Bool.false_ne_true), decide_eq_true value,
      armed_watch disarmed (cueEnables_ne_zero cue), cue, line]
    rfl
  have declared := declare_declared cueBitLine w.trav.position w
  refine completes_arm ready taken ?_
  let d := w.declare cueBitLine w.trav.position
  have done := concludeMode_concluded .accepted d
  have ended := endEvent_kept (d.concludeMode .accepted)
  have quiet := (endEvent_evolves (own := ∅) (s := d.concludeMode .accepted)).besideLive (by rw [ended.ex])
    (Set.notMem_empty _) (Set.notMem_empty _)
  have range := historyAddr_range (s.brk.newest + 1)
  simp only [historyBase] at range
  refine ⟨?_, ?_, ?_, ?_, ?_, ?_, (concludeMode_result .accepted d).1, ?_⟩
  · rw [ended.brk, done.accepted rfl]; exact declared.armed
  · rw [ended.brk, done.accepted rfl]; exact declared.state
  · rw [ended.brk, done.accepted rfl]; exact declared.number
  · rw [ended.brk, done.accepted rfl]; exact declared.newest
  · rw [ended.arb, done.accepted rfl]; exact declared.goal
  · unfold State.noticeSet
    rw [ended.ex, done.accepted rfl]
    exact declared.notice
  · refine (readWord_of_sameBytes (a := historyAddr (s.brk.newest + 1) + 20) quiet.history ?_ ?_).trans
      ((readWord_of_sameBytes (done.sameBytes (.inr (Nat.le_refl _))) (hi := 0x40000) ?_ ?_).trans declared.entry)
    · simp only [historyBase]; omega
    · simp only [storeBase]; omega
    · omega
    · omega

/-! ## The obligation -/

/-- An acknowledgement that LINE keeps from resuming (R179). -/
theorem breakAck_waits {x : Word} (sound : s.Sound) (ready : s.ex.life = .ready) (value : x ≠ 0)
    (number : x = s.brk.number) (broken : s.brk.state = .broken) (latch : s.brk.latch = false)
    (cue : s.page.cueLine = true) (line : s.brk.line = true) :
    Completes (.breakAck x) s (fun t =>
      t = { s with mem := t.mem, ex := { s.ex with gateResult := .accepted }, brk := { s.brk with latch := true } } ∧
      t.liveWord 0x010 = 1 ∧ readWord t.mem (historyAddr s.brk.newest + 36) = s.link.timeCounter ∧
      SameBytes t.mem s.mem 0 0x08010 ∧ SameBytes t.mem s.mem 0x08014 (historyAddr s.brk.newest + 36) ∧
      SameBytes t.mem s.mem (historyAddr s.brk.newest + 36 + 4) 0x40000) := by
  have range := historyAddr_range s.brk.newest
  simp only [historyBase] at range
  have waits : (acked s).checkResume = acked s :=
    if_neg (by rw [acked_resumeDue broken, cue, line]; exact Bool.false_ne_true)
  have done : Concluded .accepted (acked s) ((acked s).concludeMode .accepted).endEvent :=
    concludeMode_endEvent (setBrk_settled _ _ sound.settled)
  refine completes_breakAck ready ((takeBreakAck_acked value number broken latch).trans waits)
    (breakAckResult_accepted (.inr number)) ⟨done.accepted rfl, done.result, ?_, ?_, ?_, ?_⟩
  · exact (readWord_of_sameBytes (done.sameBytes (.inr (Nat.le_refl _))) (hi := 0x40000) (by omega) (by omega)).trans
      (readWord_writeWord_same _ _ _)
  · exact sameBytes_trans (done.sameBytes (.inl (Nat.le_refl _))) (acked_sameBytes s (.inl (by omega)))
  · exact sameBytes_trans (done.sameBytes (.inr (Nat.le_refl _))) (acked_sameBytes s (.inl (Nat.le_refl _)))
  · exact sameBytes_trans (done.sameBytes (.inr (by omega))) (acked_sameBytes s (.inr (Nat.le_refl _)))

/-- An ARM that moves the monitor's state (R175). -/
theorem arm_moves {x code : Word} {b : BreakMon} (sound : s.Sound) (ready : s.ex.life = .ready)
    (taken : s.takeArm x = { s with brk := b, mem := writeWord s.mem 0x0804C code }) :
    Completes (.arm x) s (fun t =>
      t = { s with mem := t.mem, ex := { s.ex with gateResult := .accepted }, brk := b } ∧
      t.liveWord 0x010 = 1 ∧ t.liveWord 0x04C = code ∧ SameBytes t.mem s.mem 0 0x08010 ∧
      SameBytes t.mem s.mem 0x08014 0x0804C ∧ SameBytes t.mem s.mem 0x08050 0x40000) := by
  let u : State := { s with brk := b, mem := writeWord s.mem 0x0804C code }
  have word : ∀ {lo hi : Nat}, hi ≤ 0x0804C ∨ 0x08050 ≤ lo → SameBytes u.mem s.mem lo hi := fun out =>
    sameBytes_writeWord s.mem 0x0804C code out
  have done : Concluded .accepted u (u.concludeMode .accepted).endEvent :=
    concludeMode_endEvent (setBrk_settled b _ sound.settled)
  have shown : u.liveWord 0x04C = code := readWord_writeWord_same s.mem 0x0804C code
  have after := done.sameBytes (lo := 0x08014) (hi := 0x40000) (.inr (Nat.le_refl _))
  refine completes_arm ready taken ⟨done.accepted rfl, done.result, ?_, ?_, ?_, ?_⟩
  · exact (readWord_of_sameBytes after (by decide) (by decide)).trans shown
  · exact sameBytes_trans (done.sameBytes (.inl (Nat.le_refl _))) (word (.inl (by decide)))
  · exact sameBytes_trans (sameBytes_mono after (Nat.le_refl _) (by decide)) (word (.inl (Nat.le_refl _)))
  · exact sameBytes_trans (sameBytes_mono after (by decide) (Nat.le_refl _)) (word (.inr (Nat.le_refl _)))

/-- An ARM that changes the armed flag alone (R175). -/
theorem arm_flag {x : Word} (sound : s.Sound) (ready : s.ex.life = .ready) (differs : s.brk.armed ≠ decide (x ≠ 0))
    (rest : s.brk.state = .broken ∨ (s.brk.state = .disarmed ∧ s.page.cueEnables = 0)) :
    Completes (.arm x) s (fun t =>
      t = { s with mem := t.mem, ex := { s.ex with gateResult := .accepted }, brk := { s.brk with
              armed := !s.brk.armed } } ∧ t.liveWord 0x010 = 1 ∧
      SameBytes t.mem s.mem 0 0x08010 ∧ SameBytes t.mem s.mem 0x08014 0x40000) := by
  have flag : decide (x ≠ 0) = !s.brk.armed := Bool.eq_not_of_ne differs.symm
  have taken : s.takeArm x = armedTo (!s.brk.armed) s := by
    rw [takeArm_changed differs, flag, armed_rest _ rest]
    rfl
  have done : Concluded .accepted (armedTo (!s.brk.armed) s) ((armedTo (!s.brk.armed) s).concludeMode .accepted).endEvent :=
    concludeMode_endEvent (setBrk_settled _ _ sound.settled)
  exact completes_arm ready taken
    ⟨done.accepted rfl, done.result, done.sameBytes (.inl (Nat.le_refl _)), done.sameBytes (.inr (Nat.le_refl _))⟩

/-- Disarmed from WATCH, and armed from DISARMED with the LINE condition clear (R175). -/
theorem arm_disarms {x : Word} (armed : s.brk.armed = true) (zero : x = 0) (watch : s.brk.state = .watch) :
    s.takeArm x = { s with
      brk := { s.brk with armed := false, state := .disarmed, lowCount := 0, openCount := 0 }
      mem := writeWord s.mem 0x0804C 0 } := by
  rw [takeArm_changed (by rw [armed, zero]; decide), decide_eq_false (not_not.2 zero), disarmed_watch watch]
  rfl

theorem arm_watches {x : Word} (armed : s.brk.armed = false) (value : x ≠ 0) (disarmed : s.brk.state = .disarmed)
    (enables : s.page.cueEnables ≠ 0) (clear : s.page.cueLine = false ∨ s.brk.line = false) :
    s.takeArm x = { s with
      brk := { s.brk with armed := true, state := .watch, lowCount := 0, openCount := 0 }
      mem := writeWord s.mem 0x0804C 1 } := by
  have quiet : (s.page.cueLine && s.brk.line) = false := by
    rcases clear with h | h
    · rw [h]; rfl
    · rw [h]; exact Bool.and_false _
  rw [takeArm_changed (by rw [armed, decide_eq_true value]; exact Bool.false_ne_true), decide_eq_true value,
    armed_watch disarmed enables, quiet]
  rfl

/-- Settles O32. -/
theorem breakAckAndArm : Obligations.BreakAckAndArm := by
  intro x s sound ready
  have range := historyAddr_range s.brk.newest
  simp only [historyBase] at range
  have held : ∀ r : Result, Concluded r s (s.concludeMode r).endEvent := fun r => concludeMode_endEvent sound.settled
  dsimp only
  refine ⟨fun h => ?_, fun value stale => ?_, breakAck_waits sound ready, breakAck_resumes sound ready,
    fun same => ?_, arm_flag sound ready, fun armed zero watch => arm_moves sound ready (arm_disarms armed zero watch),
    fun armed value disarmed enables clear => arm_moves sound ready (arm_watches armed value disarmed enables clear),
    arm_declares ready⟩
  · have done := held .accepted
    refine completes_breakAck ready (takeBreakAck_none ?_) (breakAckResult_accepted (h.imp_right And.left))
      ⟨done.accepted rfl, done.result, ⟨done.sameBytes (.inl (Nat.le_refl _)), done.sameBytes (.inr (Nat.le_refl _))⟩, ?_⟩
    · exact h.imp_right fun ⟨_, rest⟩ => .inr rest
    · exact readWord_of_sameBytes (done.sameBytes (.inr (Nat.le_refl _))) (hi := 0x40000) (by omega) (by omega)
  · have done := held .staleAck
    exact completes_breakAck ready (takeBreakAck_none (.inr (.inl stale))) (breakAckResult_stale value stale)
      ⟨done.refused Result.noConfusion, done.result, done.sameBytes (.inl (Nat.le_refl _)),
        done.sameBytes (.inr (Nat.le_refl _))⟩
  · have done := held .accepted
    exact completes_arm ready (takeArm_held same)
      ⟨done.accepted rfl, done.result, done.sameBytes (.inl (Nat.le_refl _)), done.sameBytes (.inr (Nat.le_refl _))⟩

end Sys2Proof.Proofs
end

section
/-!
PROOFS. The structural checks of an apply in their order, the fields of a page and how a value is clamped (R9, R11, R186).
-/
namespace Sys2Proof.Proofs

open Sys2Proof.Machine Sys2Proof.Laws

variable {p : Page}

/-! ## The first enabled channel with a property -/

theorem mem_channels8 (k : Fin 8) : k ∈ channels8 := List.mem_finRange k

theorem mem_enabledChannels (k : Fin 8) : k ∈ p.enabledChannels ↔ p (chanOff k.val 0x00) = 1 := by
  unfold Page.enabledChannels Page.enabled
  rw [List.mem_filter, beq_iff_eq]
  exact and_iff_right (mem_channels8 k)

/-- What is bad of an enabled channel alone, and a test of it. -/
def Tests (p : Page) (f : Fin 8 → Bool) (bad : Fin 8 → Prop) : Prop :=
  ∀ k : Fin 8, bad k ↔ p (chanOff k.val 0x00) = 1 ∧ f k = true

theorem firstEnabled_eq_none {f : Fin 8 → Bool} {bad : Fin 8 → Prop} (tests : Tests p f bad) (good : ∀ k, ¬ bad k) :
    p.firstEnabled f = none := by
  unfold Page.firstEnabled
  rw [List.find?_eq_none]
  exact fun k on hit => good k ((tests k).2 ⟨(mem_enabledChannels k).1 on, hit⟩)

theorem firstEnabled_eq_some {f : Fin 8 → Bool} {bad : Fin 8 → Prop} (tests : Tests p f bad) {k : Fin 8}
    (first : bad k ∧ ∀ j, j < k → ¬ bad j) : p.firstEnabled f = some k := by
  have hit : ∀ j : Fin 8, decide (p.enabled j = true ∧ f j = true) = true ↔ bad j := by
    intro j
    rw [decide_eq_true_eq, tests j, Page.enabled, beq_iff_eq]
  unfold Page.firstEnabled Page.enabledChannels
  rw [List.find?_filter]
  exact find?_channels8 ((hit k).2 first.1) fun j below => Bool.eq_false_iff.2 fun h => first.2 j below ((hit j).1 h)

/-- A word that an enabled channel shares with a lower one. -/
theorem repeats_iff (r : Nat) (k : Fin 8) : p.repeats r k = true ↔
    ∃ j, j < k ∧ p (chanOff j.val 0x00) = 1 ∧ p (chanOff j.val r) = p (chanOff k.val r) := by
  unfold Page.repeats
  simp only [List.any_eq_true, Bool.and_eq_true, decide_eq_true_eq, beq_iff_eq]
  constructor
  · rintro ⟨j, on, below, same⟩
    exact ⟨j, below, (mem_enabledChannels j).1 on, same⟩
  · rintro ⟨j, below, on, same⟩
    exact ⟨j, (mem_enabledChannels j).2 on, below, same⟩

theorem roleChannel_eq_none_iff (w : Word) :
    p.roleChannel w = none ↔ ∀ k : Fin 8, p (chanOff k.val 0x00) = 1 → p (chanOff k.val 0x08) ≠ w := by
  unfold Page.roleChannel Page.role
  rw [List.find?_eq_none]
  simp only [mem_enabledChannels, beq_iff_eq]

/-! ## The checks (R9) -/

/-- The plan and the bins of a page as R9 states them. -/
def BadPlan (p : Page) : Prop :=
  p.pEnd < 2000 ∨ 150000 < p.pEnd ∨ p.fTurn < 0 ∨ p.eFront ≤ p.fTurn ∨ p.eBack ≤ p.eFront ∨ p.bTurn ≤ p.eBack ∨
    p.pEnd < p.bTurn

theorem checkPlan_eq_none (h : ¬ BadPlan p) : checkPlan p = none := by
  simp only [BadPlan, not_or] at h
  obtain ⟨low, high, front, eFront, eBack, bTurn, last⟩ := h
  unfold checkPlan
  rw [if_neg (by omega), if_neg front, if_neg eFront, if_neg eBack, if_neg bTurn, if_neg last]

theorem orElse_some_left {a b : CheckFailure} {f : Result × Nat} (h : a = some f) : (a <|> b) = some f := by
  rw [h]
  rfl

theorem orElse_none_left {a b : CheckFailure} (h : a = none) : (a <|> b) = b := by
  rw [h]
  rfl

theorem validatePage_plan {f : Result × Nat} (h : checkPlan p = some f) : validatePage p = some f := orElse_some_left h

/-- What is left to check once the plan passes, and so on down the order of R9. -/
theorem validatePage_afterPlan (h : ¬ BadPlan p) : validatePage p =
    (checkBins p <|> checkPeriod p <|> checkSlots p <|> checkRoles p <|> checkTables p <|> checkCues p <|> checkEdge p) :=
  orElse_none_left (checkPlan_eq_none h)

theorem validatePage_afterPeriod (plan : ¬ BadPlan p) (bins : checkBins p = none) (period : checkPeriod p = none) :
    validatePage p = (checkSlots p <|> checkRoles p <|> checkTables p <|> checkCues p <|> checkEdge p) := by
  rw [validatePage_afterPlan plan, orElse_none_left bins, orElse_none_left period]

theorem slot_tests : Tests p (fun c => decide (p.slot c < 1) || decide (8 < p.slot c)) fun k =>
    p (chanOff k.val 0x00) = 1 ∧ ((p (chanOff k.val 0x04)).toNat < 1 ∨ 8 < (p (chanOff k.val 0x04)).toNat) := by
  intro k
  rw [Bool.or_eq_true]
  exact and_congr_right fun _ => or_congr decide_eq_true_iff.symm decide_eq_true_iff.symm

theorem sameSlot_tests : Tests p (fun c => p.repeats 0x04 c) fun k => p (chanOff k.val 0x00) = 1 ∧
    ∃ j, j < k ∧ p (chanOff j.val 0x00) = 1 ∧ (p (chanOff j.val 0x04)).toNat = (p (chanOff k.val 0x04)).toNat := by
  intro k
  rw [repeats_iff]
  simp only [BitVec.toNat_inj]

theorem sameRole_tests : Tests p (fun c => uniqueRole (p.role c) && p.repeats 0x08 c) fun k =>
    p (chanOff k.val 0x00) = 1 ∧
      (p (chanOff k.val 0x08) = 1 ∨ p (chanOff k.val 0x08) = 2 ∨ p (chanOff k.val 0x08) = 3) ∧
      ∃ j, j < k ∧ p (chanOff j.val 0x00) = 1 ∧ p (chanOff j.val 0x08) = p (chanOff k.val 0x08) := by
  intro k
  rw [Bool.and_eq_true, repeats_iff, uniqueRole, Page.role]
  simp only [Bool.or_eq_true, beq_iff_eq, roleBw, roleMoist, roleLight, or_assoc]

theorem table_tests : Tests p (fun c => decide (15 < p.table c)) fun k =>
    p (chanOff k.val 0x00) = 1 ∧ 15 < (p (chanOff k.val 0x10)).toNat := by
  intro k
  exact and_congr_right fun _ => decide_eq_true_iff.symm

/-- The four checks of channels, each by the lowest-numbered offender. -/
theorem checkSlots_range {k : Fin 8} (first : p.firstEnabled (fun c => decide (p.slot c < 1) || decide (8 < p.slot c)) = some k) :
    checkSlots p = some (.badSlots, chanOff k.val 0x04) := by
  unfold checkSlots
  rw [first]

theorem checkSlots_same {o : Option (Fin 8)}
    (none : p.firstEnabled (fun c => decide (p.slot c < 1) || decide (8 < p.slot c)) = none)
    (first : p.firstEnabled (fun c => p.repeats 0x04 c) = o) :
    checkSlots p = o.map fun k => (.badSlots, chanOff k.val 0x04) := by
  unfold checkSlots
  rw [none]
  dsimp only
  rw [show p.firstEnabled (p.repeats 0x04) = o from first]
  cases o <;> rfl

theorem checkRoles_eq {o : Option (Fin 8)}
    (first : p.firstEnabled (fun c => uniqueRole (p.role c) && p.repeats 0x08 c) = o) :
    checkRoles p = o.map fun k => (.badRoles, chanOff k.val 0x08) := by
  unfold checkRoles
  rw [first]
  cases o <;> rfl

theorem checkTables_eq {o : Option (Fin 8)} (first : p.firstEnabled (fun c => decide (15 < p.table c)) = o) :
    checkTables p = o.map fun k => (.badTable, chanOff k.val 0x10) := by
  unfold checkTables
  rw [first]
  cases o <;> rfl

/-! ## Clamping (R11) -/

theorem toInt_ofInt_of_range {i : Int} (lo : -2 ^ 31 ≤ i) (hi : i < 2 ^ 31) : (BitVec.ofInt 32 i).toInt = i :=
  BitVec.toInt_ofInt_eq_self (by decide) lo hi

/-- A number clamped to a range. -/
theorem clampNat_cases {lo hi : Nat} (h : lo ≤ hi) (v : Nat) :
    lo ≤ clampNat lo hi v ∧ clampNat lo hi v ≤ hi ∧ (lo ≤ v → v ≤ hi → clampNat lo hi v = v) ∧
      (v < lo → clampNat lo hi v = lo) ∧ (hi < v → clampNat lo hi v = hi) := by
  unfold clampNat
  split
  · omega
  · split <;> omega

theorem clampInt_cases {lo hi : Int} (h : lo ≤ hi) (v : Int) :
    lo ≤ clampInt lo hi v ∧ clampInt lo hi v ≤ hi ∧ (lo ≤ v → v ≤ hi → clampInt lo hi v = v) ∧
      (v < lo → clampInt lo hi v = lo) ∧ (hi < v → clampInt lo hi v = hi) := by
  unfold clampInt
  split
  · omega
  · split <;> omega

theorem clampField_unsigned (p : Page) (off lo hi : Nat) (h : lo ≤ hi) (bound : hi < 2 ^ 32) :
    lo ≤ (clampField p off (.unsignedRange lo hi)).toNat ∧ (clampField p off (.unsignedRange lo hi)).toNat ≤ hi ∧
    (lo ≤ (p off).toNat → (p off).toNat ≤ hi → clampField p off (.unsignedRange lo hi) = p off) ∧
    ((p off).toNat < lo → clampField p off (.unsignedRange lo hi) = BitVec.ofNat 32 lo) ∧
    (hi < (p off).toNat → clampField p off (.unsignedRange lo hi) = BitVec.ofNat 32 hi) := by
  obtain ⟨low, high, inside, below, above⟩ := clampNat_cases h (p off).toNat
  have field : clampField p off (.unsignedRange lo hi) = BitVec.ofNat 32 (clampNat lo hi (p off).toNat) := rfl
  have value : (clampField p off (.unsignedRange lo hi)).toNat = clampNat lo hi (p off).toNat := by
    rw [field, BitVec.toNat_ofNat, Nat.mod_eq_of_lt (by omega)]
  refine ⟨by omega, by omega, fun h1 h2 => ?_, fun h1 => by rw [field, below h1], fun h1 => by rw [field, above h1]⟩
  rw [field, inside h1 h2, BitVec.ofNat_toNat, BitVec.setWidth_eq]

theorem clampField_signed (p : Page) (off : Nat) (lo hi : Int) (h : lo ≤ hi) (low : -2 ^ 31 ≤ lo) (high : hi < 2 ^ 31) :
    lo ≤ (clampField p off (.signedRange lo hi)).toInt ∧ (clampField p off (.signedRange lo hi)).toInt ≤ hi ∧
    (lo ≤ (p off).toInt → (p off).toInt ≤ hi → clampField p off (.signedRange lo hi) = p off) ∧
    ((p off).toInt < lo → clampField p off (.signedRange lo hi) = BitVec.ofInt 32 lo) ∧
    (hi < (p off).toInt → clampField p off (.signedRange lo hi) = BitVec.ofInt 32 hi) := by
  obtain ⟨atLeast, atMost, inside, below, above⟩ := clampInt_cases h (p off).toInt
  have field : clampField p off (.signedRange lo hi) = BitVec.ofInt 32 (clampInt lo hi (p off).toInt) := rfl
  have value : (clampField p off (.signedRange lo hi)).toInt = clampInt lo hi (p off).toInt := by
    rw [field, toInt_ofInt_of_range (by omega) (by omega)]
  refine ⟨by omega, by omega, fun h1 h2 => ?_, fun h1 => by rw [field, below h1], fun h1 => by rw [field, above h1]⟩
  rw [field, inside h1 h2, BitVec.ofInt_toInt]

/-- The default page has code 0 in a field, if the field is enumerated. -/
def defaultsToZero (f : Nat × FieldKind) : Bool :=
  match f.2 with
  | .enumBelow _ => defaultPageWord f.1 == 0
  | .asWritten | .unsignedRange _ _ | .signedRange _ _ | .bitSet _ | .driftLimit _ => true

theorem pageFields_defaultsToZero : ∀ f ∈ pageFields, defaultsToZero f = true := by decide +kernel

theorem enumBelow_default {off n : Nat} (h : (off, FieldKind.enumBelow n) ∈ pageFields) : defaultPageWord off = 0 :=
  beq_iff_eq.1 (pageFields_defaultsToZero _ h)

theorem form_default : ∀ c : Fin 8, defaultPageWord (0x100 + 64 * c.val + 0x0C) = 0 := by decide

/-- DRIFT_LIMIT goes by the FORM that is taken (R11). -/
theorem clampField_driftLimit (p : Page) (off : Nat) (c : Fin 8) :
    clampField p off (.driftLimit (0x100 + 64 * c.val + 0x0C)) = clampField p off (.unsignedRange 1
      (if clampField p (0x100 + 64 * c.val + 0x0C) (.enumBelow 2) = 1 then 1048575 else 1000)) := by
  have taken : clampField p (0x100 + 64 * c.val + 0x0C) (.enumBelow 2) = 1 ↔ p (0x100 + 64 * c.val + 0x0C) = 1 := by
    rw [clampField, form_default c]
    split
    · exact Iff.rfl
    · rename_i large
      refine iff_of_false (by decide) fun one => large ?_
      rw [one]
      decide
  have limit : (if clampField p (0x100 + 64 * c.val + 0x0C) (.enumBelow 2) = 1 then 1048575 else 1000) =
      if p (0x100 + 64 * c.val + 0x0C) = 1 then 1048575 else 1000 := if_congr taken rfl rfl
  rw [limit]
  rfl

/-! ## The fields of a page (Table 1-4) -/

/-- The fields of a record as offsets in the record. -/
def channelRecord (c : Nat) : List (Nat × FieldKind) :=
  [(0x00, .enumBelow 2), (0x04, .asWritten), (0x08, .enumBelow 4), (0x0C, .enumBelow 2), (0x10, .asWritten),
   (0x14, .unsignedRange 1 256), (0x18, .enumBelow 2), (0x1C, .driftLimit (0x100 + 64 * c + 0x0C)),
   (0x20, .signedRange (-1048575) 1048575), (0x24, .unsignedRange 0 1048575)]

def limitRecord (k : Nat) : List (Nat × FieldKind) :=
  [(0x00, .bitSet 0xF), (0x04, .signedRange (-8388608) 8388607), (0x08, .signedRange (-8388608) 8388607),
   (0x0C, .signedRange (-8388608) 8388607), (0x10, .signedRange (-8388608) 8388607),
   (0x14, .unsignedRange 0 8388607), (0x18, .unsignedRange 1 512), (0x1C, .unsignedRange 1 15),
   (0x20, .unsignedRange 1 15), (0x24, .bitSet (if k = 8 then 0xFF else 0x1F))]

theorem channelFields_eq (c : Nat) : channelFields c = (channelRecord c).map fun f => (0x100 + 64 * c + f.1, f.2) := rfl

theorem limitFields_eq (k : Nat) : limitFields k = (limitRecord k).map fun f => (0x300 + 64 * k + f.1, f.2) := rfl

/-- Membership in the fields of n records. -/
theorem mem_flatMap_records {n base : Nat} {rec : Nat → List (Nat × FieldKind)} {off : Nat} {kind : FieldKind} :
    (off, kind) ∈ (List.range n).flatMap (fun c => (rec c).map fun f => (base + 64 * c + f.1, f.2)) ↔
      ∃ c : Fin n, ∃ r, off = base + 64 * c.val + r ∧ (r, kind) ∈ rec c.val := by
  simp only [List.mem_flatMap, List.mem_range, List.mem_map, Prod.mk.injEq, Prod.exists]
  constructor
  · rintro ⟨c, bound, r, k, h, rfl, rfl⟩
    exact ⟨⟨c, bound⟩, r, rfl, h⟩
  · rintro ⟨c, r, rfl, h⟩
    exact ⟨c.val, c.isLt, r, kind, h, rfl, rfl⟩

theorem mem_tables {off : Nat} {kind : FieldKind} : (off, kind) ∈ (List.range 16).flatMap tableFields ↔
    ∃ (b : Fin 16) (i : Fin 33), off = 0x600 + 132 * b.val + 4 * i.val ∧ kind = .signedRange (-8388608) 8388607 := by
  simp only [List.mem_flatMap, List.mem_range, tableFields, List.mem_map, Prod.mk.injEq]
  constructor
  · rintro ⟨b, hb, i, hi, rfl, rfl⟩
    exact ⟨⟨b, hb⟩, ⟨i, hi⟩, rfl, rfl⟩
  · rintro ⟨b, i, rfl, rfl⟩
    exact ⟨b.val, b.isLt, i.val, i.isLt, rfl, rfl⟩

theorem mem_pageFields {off : Nat} {kind : FieldKind} : (off, kind) ∈ pageFields ↔
    (off, kind) ∈ plainFields ∨ (∃ c : Fin 8, ∃ r, off = 0x100 + 64 * c.val + r ∧ (r, kind) ∈ channelRecord c.val) ∨
      (∃ k : Fin 9, ∃ r, off = 0x300 + 64 * k.val + r ∧ (r, kind) ∈ limitRecord k.val) ∨
      (∃ (b : Fin 16) (i : Fin 33), off = 0x600 + 132 * b.val + 4 * i.val ∧ kind = .signedRange (-8388608) 8388607) := by
  unfold pageFields
  rw [List.mem_append, List.mem_append, List.mem_append, funext channelFields_eq, funext limitFields_eq,
    mem_flatMap_records, mem_flatMap_records, mem_tables, or_assoc, or_assoc]

/-- The code of a limit record's last field, by the record's channel. -/
theorem limitRecord_fin (k : Fin 9) : limitRecord k.val = [(0x00, .bitSet 0xF), (0x04, .signedRange (-8388608) 8388607),
    (0x08, .signedRange (-8388608) 8388607), (0x0C, .signedRange (-8388608) 8388607),
    (0x10, .signedRange (-8388608) 8388607), (0x14, .unsignedRange 0 8388607), (0x18, .unsignedRange 1 512),
    (0x1C, .unsignedRange 1 15), (0x20, .unsignedRange 1 15), (0x24, .bitSet (if k = 8 then 0xFF else 0x1F))] := by
  revert k
  decide

/-! ## The obligation -/

/-- The plan's checks from left to right (R9, order 1). -/
theorem validatePage_planOrder (p : Page) (low : 2000 ≤ p.pEnd) (high : p.pEnd ≤ 150000) :
    (p.fTurn < 0 → validatePage p = some (.badPlan, 0x028)) ∧
    (0 ≤ p.fTurn → p.eFront ≤ p.fTurn → validatePage p = some (.badPlan, 0x02C)) ∧
    (0 ≤ p.fTurn → p.fTurn < p.eFront → p.eBack ≤ p.eFront → validatePage p = some (.badPlan, 0x030)) ∧
    (0 ≤ p.fTurn → p.fTurn < p.eFront → p.eFront < p.eBack → p.bTurn ≤ p.eBack →
      validatePage p = some (.badPlan, 0x034)) ∧
    (0 ≤ p.fTurn → p.fTurn < p.eFront → p.eFront < p.eBack → p.eBack < p.bTurn → p.pEnd < p.bTurn →
      validatePage p = some (.badPlan, 0x020)) := by
  have inRange : ¬ (p.pEnd < 2000 ∨ 150000 < p.pEnd) := by omega
  refine ⟨fun h => ?_, fun a h => ?_, fun a b h => ?_, fun a b c h => ?_, fun a b c d h => ?_⟩
  all_goals
    refine validatePage_plan ?_
    unfold checkPlan
    rw [if_neg inRange]
  · rw [if_pos h]
  · rw [if_neg (not_lt.2 a), if_pos h]
  · rw [if_neg (not_lt.2 a), if_neg (not_le.2 b), if_pos h]
  · rw [if_neg (not_lt.2 a), if_neg (not_le.2 b), if_neg (not_le.2 c), if_pos h]
  · rw [if_neg (not_lt.2 a), if_neg (not_le.2 b), if_neg (not_le.2 c), if_neg (not_le.2 d), if_pos h]

/-- The cue check and the edge check, the last two (R9, orders 7 and 8). -/
theorem checkCues_edge (p : Page) :
    let noRole := fun w : Word => ∀ k : Fin 8, p (chanOff k.val 0x00) = 1 → p (chanOff k.val 0x08) ≠ w
    let badCue := (p.cueLow = true ∧ noRole 1) ∨ (p.cueOpen = true ∧ noRole 3)
    let badEdge := p 0x044 = 1 ∧ noRole 1
    (badCue → (checkCues p <|> checkEdge p) = some (.badCue, 0x540)) ∧
    (¬ badCue → badEdge → (checkCues p <|> checkEdge p) = some (.badEdge, 0x044)) ∧
    (¬ badCue → ¬ badEdge → (checkCues p <|> checkEdge p) = none) := by
  have bw : p.roleChannel roleBw = none ↔ _ := roleChannel_eq_none_iff 1
  have light : p.roleChannel roleLight = none ↔ _ := roleChannel_eq_none_iff 3
  have track : p.edgeTrack = true ↔ p 0x044 = 1 := beq_iff_eq
  dsimp only
  rw [← bw, ← light, ← track]
  refine ⟨fun h => orElse_some_left (if_pos h), fun h e => ?_, fun h e => ?_⟩
  · rw [orElse_none_left (show checkCues p = none from if_neg h)]
    exact if_pos e
  · rw [orElse_none_left (show checkCues p = none from if_neg h)]
    exact if_neg e

/-- Settles O27. -/
theorem clampedFields : Obligations.ClampedFields := by
  refine ⟨fun p => ?_, clampField_unsigned, clampField_signed, fun p off => ⟨rfl, fun n h => ?_, fun mask i => ?_,
    clampField_driftLimit p off⟩, fun off kind => ?_⟩
  · dsimp only
    refine ⟨fun h => validatePage_plan (if_pos h), validatePage_planOrder p, fun plan bins => ?_,
      fun plan bins period => ?_, fun plan bins period => ?_⟩
    · rw [validatePage_afterPlan plan]
      exact orElse_some_left (if_pos bins)
    · rw [validatePage_afterPlan plan, orElse_none_left (show checkBins p = none from if_neg bins)]
      exact orElse_some_left (if_pos period)
    · rw [validatePage_afterPeriod plan (if_neg bins) (if_neg period)]
      refine ⟨fun k first => ?_, fun k range first => ?_, fun k slots first => ?_, fun k slots roles first => ?_,
        fun slots roles tables => ?_⟩
      · exact orElse_some_left (checkSlots_range (firstEnabled_eq_some slot_tests first))
      · exact orElse_some_left (checkSlots_same (firstEnabled_eq_none slot_tests range)
          (firstEnabled_eq_some sameSlot_tests first))
      all_goals
        obtain ⟨range, same⟩ := slots
        rw [orElse_none_left (checkSlots_same (firstEnabled_eq_none slot_tests range)
          (firstEnabled_eq_none sameSlot_tests same))]
      · exact orElse_some_left (checkRoles_eq (firstEnabled_eq_some sameRole_tests first))
      · rw [orElse_none_left (checkRoles_eq (firstEnabled_eq_none sameRole_tests roles))]
        exact orElse_some_left (checkTables_eq (firstEnabled_eq_some table_tests first))
      · rw [orElse_none_left (checkRoles_eq (firstEnabled_eq_none sameRole_tests roles)),
          orElse_none_left (checkTables_eq (firstEnabled_eq_none table_tests tables))]
        exact checkCues_edge p
  · rw [clampField, enumBelow_default h]
  · rw [clampField, BitVec.getLsbD_and]
  · rw [mem_pageFields]
    simp only [limitRecord_fin]
    exact Iff.rfl

end Sys2Proof.Proofs
end


section
/-!
PROOFS. The stages of a warm reset (R17, R43, R72, R88, R120, R140, R158, R184), each with the registers that it gives and
the bytes of memory that it leaves.
-/

namespace Sys2Proof.Proofs

open Sys2Proof.Machine Sys2Proof.Laws

variable {s t u v w : State}

/-! ## Writes of the live area alone -/

/-- Nothing beside the live area was written. -/
structure LiveAlone (s t : State) : Prop where
  same : ∀ {lo hi : Nat}, hi ≤ liveBase ∨ historyBase ≤ lo → SameBytes t.mem s.mem lo hi

theorem LiveAlone.trans (h1 : LiveAlone s t) (h2 : LiveAlone t u) : LiveAlone s u :=
  ⟨fun out => sameBytes_trans (h2.same out) (h1.same out)⟩

theorem LiveAlone.of_mem (h : t.mem = s.mem) : LiveAlone s t := ⟨fun _ => by
  rw [h]
  exact sameBytes_refl _ _ _⟩

theorem live_liveAlone (off : Nat) (w : Word) (s : State) (h : off + 4 ≤ 0x1000 := by decide) :
    LiveAlone s (s.live off w) := ⟨fun out => live_sameBytes s off w (by simp only [liveBase, historyBase] at out ⊢; omega)⟩

theorem setHead_liveAlone (h : HeadState) (s : State) : LiveAlone s (s.setHead h) := ⟨fun out =>
  setHead_sameBytes h s (by simp only [liveBase, historyBase] at out; omega)⟩

theorem setAlarm_liveAlone (i : Fin 48) (e : AlarmEntry) (s : State) : LiveAlone s (s.setAlarm i e) := ⟨fun out =>
  setAlarm_sameBytes s i e (by simp only [liveBase, historyBase] at out; omega)⟩

theorem recompute_liveAlone (ev : GoalEvent) (s : State) : LiveAlone s (s.recompute ev).state := ⟨fun out =>
  recompute_sameBytes s ev (by simp only [liveBase, historyBase] at out; omega)⟩

theorem LiveAlone.page (h : LiveAlone s t) {off : Nat} (ho : off + 4 ≤ 0x4000) : t.page off = s.page off :=
  page_of_sameBytes (h.same (.inl (Nat.le_refl _))) ho

/-! ## A raised alarm entry -/

/-- What a raise of an entry that hands a value leaves: the entry active with that value, the notices that were set, and
all registers but the entries and the notices (R160). -/
structure AlarmRaised (i : Fin 48) (x : Int) (s t : State) : Prop where
  frame : t = { s with alarms := t.alarms, ex := { s.ex with notice := t.ex.notice }, mem := t.mem }
  active : t.alarms[i].active = true
  value : t.alarms[i].lastValue = x
  notices : ∀ n, s.noticeSet n = true → t.noticeSet n = true
  memory : LiveAlone s t

theorem setAlarm_frame (i : Fin 48) (e : AlarmEntry) (s : State) :
    s.setAlarm i e = { s with alarms := (s.setAlarm i e).alarms, mem := (s.setAlarm i e).mem } := by
  unfold State.setAlarm
  split <;> rfl

theorem setAlarm_same (i : Fin 48) (e : AlarmEntry) (s : State) : (s.setAlarm i e).alarms[i] = e :=
  (State.setAlarm_get s i i e).trans (if_pos rfl)

theorem raiseAlarm_raised (i : Fin 48) (x : Int) (s : State) : AlarmRaised i x s (s.raiseAlarm i (some x)).2 := by
  unfold State.raiseAlarm
  dsimp only
  split
  · rename_i active
    refine ⟨?_, ?_, ?_, fun n set => ?_, setAlarm_liveAlone i _ s⟩
    · rw [setAlarm_frame]
    · rw [setAlarm_same]
      exact active
    · rw [setAlarm_same]
      rfl
    · unfold State.noticeSet
      rw [State.setAlarm_ex]
      exact set
  · refine ⟨?_, ?_, ?_, fun n set => setNotice_noticeSet .alarm n ?_, (setAlarm_liveAlone i _ s).trans (.of_mem rfl)⟩
    · rw [setAlarm_frame]
      rfl
    · exact congrArg AlarmEntry.active (setAlarm_same i _ s)
    · exact congrArg AlarmEntry.lastValue (setAlarm_same i _ s)
    · unfold State.noticeSet
      rw [State.setAlarm_ex]
      exact set

/-- An inactive entry that is raised counts the raise and sets ALARM (R160). -/
theorem raiseAlarm_first (i : Fin 48) (x : Int) (inactive : s.alarms[i].active = false) :
    (s.raiseAlarm i (some x)).2.alarms[i].timesRaised = min 65535 (s.alarms[i].timesRaised + 1) ∧
      (s.raiseAlarm i (some x)).2.ex.notice = s.ex.notice ||| Notice.alarm.maskBit := by
  unfold State.raiseAlarm
  dsimp only
  have off : (s.alarms[i].withValue (some x)).active = false := inactive
  rw [off]
  refine ⟨congrArg AlarmEntry.timesRaised (setAlarm_same i _ s), ?_⟩
  rw [if_neg Bool.false_ne_true, State.setNotice_notice, State.setAlarm_ex]

/-! ## The stages -/

theorem warmExchange_frame (s : State) : s.warmExchange = { s with
    ex := { s.ex with gateResult := .none, cause := .warm, applyPending := false
                      notice := s.ex.notice ||| Notice.restarted.maskBit }
    mem := s.warmExchange.mem } := by
  unfold State.warmExchange
  rw [gateIdle_eq]
  rfl

theorem warmExchange_liveAlone (s : State) : LiveAlone s s.warmExchange := ⟨fun out =>
  gateIdle_sameBytes _ (by simp only [liveBase, historyBase] at out; omega)⟩

theorem discardScan_frame (s : State) : s.discardScan = { s with bin.scan := none, mem := s.discardScan.mem } := by
  unfold State.discardScan
  split
  · rfl
  · rename_i closed
    cases s with | mk pins ex link trav arb std bin filters alarms brk mem tieIndex pending =>
    cases bin with | mk edgeFront edgeBack missFront missBack firstAfterBreak scan batch =>
    cases scan with
    | none => rfl
    | some ctx => exact absurd rfl closed

theorem discardScan_liveAlone (s : State) : LiveAlone s s.discardScan := by
  unfold State.discardScan
  split
  · exact LiveAlone.trans (t := { s with bin.scan := none }) (.of_mem rfl) (live_liveAlone 0x058 _ _)
  · exact .of_mem rfl

theorem warmDiscard_frame (s : State) : s.warmDiscard = { s with
    bin := { s.bin with scan := none, batch := none }, std := { s.std with ctx := none, due := s.warmDiscard.std.due }
    filters := Vector.replicate 9 { }, mem := s.warmDiscard.mem } := by
  unfold State.warmDiscard
  rw [discardScan_frame]
  rfl

theorem warmDiscard_liveAlone (s : State) : LiveAlone s s.warmDiscard :=
  (discardScan_liveAlone s).trans (.of_mem rfl)

/-- A head at rest since its entry is entered again without a further change. -/
theorem setHead_of_still (h : HeadState) (still : s.trav = entered s.trav.head s.trav) :
    s.setHead h = { s with trav := entered h s.trav, mem := (s.setHead h).mem } := by
  by_cases same : s.trav.head = h
  · have rest : s.setHead h = s := if_pos same
    rw [rest, ← same, ← still]
  · rw [setHead_of_ne same]
    rfl

/-- The drive after a warm reset, before the head takes the goal (R47, R49, R72). -/
def warmDrive (s : State) : Traverse :=
  { s.trav with
    head := s.warmHead, duty := 0, homed := s.trav.homed && decide (s.warmHead = .standing), stallTime := 0
    stillness := 0, dwellTimer := none, driveTimer := some Config.driveIntervalUs, prevPosition := s.trav.position
    frontLim := s.pins.frontLim, backLim := s.pins.backLim, drvFault := s.pins.drvFault }

theorem warmTraverse_frame (s : State) : s.warmTraverse = { s with trav := warmDrive s, mem := s.warmTraverse.mem } := by
  unfold State.warmTraverse
  dsimp only
  rw [setHead_of_still s.warmHead rfl]
  rfl

theorem warmTraverse_liveAlone (s : State) : LiveAlone s s.warmTraverse :=
  LiveAlone.trans (t := ({ s with trav := { warmDrive s with head := s.trav.head } } : State)) (.of_mem rfl)
    (setHead_liveAlone s.warmHead _)

/-- The link registers after a warm reset, less the command word (R28, R43). -/
def warmLinked (s : State) : HeadLink :=
  { s.link with
    inFlight := none, sampleTimer := some s.page.samplePeriod, lossCount := 0, goodRun := 0, echoCount := 0, up := false }

/-- What a link that goes DOWN by a cause leaves: its counts at 0, its entry raised, LINK set (R40). -/
structure LinkDropped (cause : LinkCause) (s t : State) : Prop where
  frame : t = { s with
    link := { s.link with up := false, lossCount := 0, goodRun := 0, echoCount := 0 }
    alarms := t.alarms, ex := { s.ex with notice := t.ex.notice }, mem := t.mem }
  notices : ∀ n, s.noticeSet n = true → t.noticeSet n = true
  link : t.noticeSet .link = true
  active : t.alarms[linkDownAlarm].active = true
  value : t.alarms[linkDownAlarm].lastValue = cause.code
  memory : LiveAlone s t

theorem linkDownCore_dropped (cause : LinkCause) (s : State) : LinkDropped cause s (s.linkDownCore cause) := by
  let down : State := ({ s with
    link := { s.link with up := false, lossCount := 0, goodRun := 0, echoCount := 0 } } : State).live 0x02C 0
  have raise : AlarmRaised linkDownAlarm cause.code down (down.raiseAlarm linkDownAlarm (some cause.code)).2 :=
    raiseAlarm_raised _ _ _
  have core : s.linkDownCore cause = (down.raiseAlarm linkDownAlarm (some cause.code)).2.setNotice .link := rfl
  rw [core]
  refine ⟨?_, fun n set => setNotice_noticeSet .link n (raise.notices n set), noticeSet_setNotice .link _, raise.active,
    raise.value, ?_⟩
  · rw [raise.frame]
    rfl
  · have dropped : LiveAlone s down :=
      LiveAlone.trans (t := { s with
        link := { s.link with up := false, lossCount := 0, goodRun := 0, echoCount := 0 } }) (.of_mem rfl)
        (live_liveAlone 0x02C 0 _)
    exact (dropped.trans raise.memory).trans (.of_mem rfl)

/-- What the head link controller's part of a warm reset leaves (R28, R43). -/
structure WarmLinked (s t : State) : Prop where
  frame : t = { s with link := warmLinked s, alarms := t.alarms, ex := { s.ex with notice := t.ex.notice }, mem := t.mem }
  notices : ∀ n, s.noticeSet n = true → t.noticeSet n = true
  memory : LiveAlone s t
  raised : s.link.up = true → t.alarms[linkDownAlarm].active = true ∧ t.alarms[linkDownAlarm].lastValue = 3 ∧
    t.noticeSet .link = true
  alarms : s.link.up = false → t.alarms = s.alarms

theorem warmLink_linked (s : State) : WarmLinked s s.warmLink := by
  let v : State := { s with link := { s.link with
    inFlight := none, sampleTimer := some s.page.samplePeriod, lossCount := 0, goodRun := 0, echoCount := 0 } }
  have whole : s.warmLink = if s.link.up = true then v.linkDownCore .reset else v := rfl
  have down := linkDownCore_dropped .reset v
  rw [whole]
  by_cases up : s.link.up = true
  · rw [if_pos up]
    refine ⟨?_, down.notices, .trans (t := v) (.of_mem rfl) down.memory, fun _ => ⟨down.active, down.value, down.link⟩,
      fun off => absurd (off.symm.trans up) Bool.false_ne_true⟩
    rw [down.frame]
    rfl
  · rw [if_neg up]
    refine ⟨?_, fun _ set => set, .of_mem rfl, fun on => absurd on up, fun _ => rfl⟩
    have off : s.link.up = false := Bool.eq_false_iff.2 up
    unfold warmLinked
    rw [← off]

end Sys2Proof.Proofs
end


section
/-!
PROOFS. A warm reset (R17, R72, R88, R184): the state in which the head takes the goal PARK, the goal taken, the end of the
event.
-/

namespace Sys2Proof.Proofs

open Sys2Proof.Machine Sys2Proof.Laws

variable {s t u v w : State}

/-! ## The state before the head takes the goal -/

/-- The blocks after a warm reset, less the goal that the head takes. -/
structure Rested (s v : State) : Prop where
  ex : v.ex = { s.ex with gateResult := .none, cause := .warm, applyPending := false, notice := v.ex.notice }
  restarted : v.noticeSet .restarted = true
  link : v.link = warmLinked s
  raised : s.link.up = true → v.alarms[linkDownAlarm].active = true ∧ v.alarms[linkDownAlarm].lastValue = 3 ∧
    v.noticeSet .link = true
  alarms : s.link.up = false → v.alarms = s.alarms
  trav : v.trav = warmDrive s
  bin : v.bin = { s.bin with scan := none, batch := none }
  std : v.std = { s.std with ctx := none, due := v.std.due }
  filters : v.filters = Vector.replicate 9 { }
  brk : v.brk = { s.brk with
    lowCount := 0, openCount := 0, lineTimer := s.brk.lineTimer.map (fun _ => s.page.debounceMs * 1000) }
  goal : v.arb.goal = .park
  panel : v.arb.panelPark = s.pins.panelPark ∧ v.arb.panelInhibit = s.pins.panelInhibit
  memory : LiveAlone s v

/-- The traverse controller and the blocks before it. -/
theorem warmTraverse_rest (s : State) : s.warmExchange.warmDiscard.warmTraverse = { s with
    ex := { s.ex with gateResult := .none, cause := .warm, applyPending := false
                      notice := s.ex.notice ||| Notice.restarted.maskBit }
    bin := { s.bin with scan := none, batch := none }
    std := { s.std with ctx := none, due := s.warmExchange.warmDiscard.std.due }
    filters := Vector.replicate 9 { }, trav := warmDrive s, mem := s.warmExchange.warmDiscard.warmTraverse.mem } := by
  rw [warmTraverse_frame, warmDiscard_frame, warmExchange_frame]
  rfl

theorem warmTraverse_rest_liveAlone (s : State) : LiveAlone s s.warmExchange.warmDiscard.warmTraverse :=
  ((warmExchange_liveAlone s).trans (warmDiscard_liveAlone _)).trans (warmTraverse_liveAlone _)

theorem warmArbiter_frame (s : State) :
    s.warmArbiter = { s with arb := s.warmArbiter.arb, mem := s.warmArbiter.mem } := recompute_frame _ .other

theorem warmArbiter_liveAlone (s : State) : LiveAlone s s.warmArbiter :=
  LiveAlone.trans (t := { s with arb := { s.arb with
    panelPark := s.pins.panelPark, panelInhibit := s.pins.panelInhibit, parkTimer := none, inhibitTimer := none } })
    (.of_mem rfl) (recompute_liveAlone .other _)

theorem warmArbiter_rest (ready : s.ex.life = .ready) (down : s.link.up = false) :
    s.warmArbiter.arb.goal = .park ∧
      s.warmArbiter.arb.panelPark = s.pins.panelPark ∧ s.warmArbiter.arb.panelInhibit = s.pins.panelInhibit := by
  let v : State := { s with arb := { s.arb with
    panelPark := s.pins.panelPark, panelInhibit := s.pins.panelInhibit, parkTimer := none, inhibitTimer := none } }
  have demand : v.linkDemand = true := by simp [v, State.linkDemand, ready, down]
  have claims : v.claimedGoal = .park := by
    unfold State.claimedGoal
    rw [demand, Bool.or_true, Bool.true_or, if_pos rfl]
  exact ⟨(recompute_goal v .other).trans claims,
    (recompute_evolves (own := ∅) (s := v) .other).frame.panel (Set.notMem_empty _)⟩

theorem warm_rested (ready : s.ex.life = .ready) :
    Rested s s.warmExchange.warmDiscard.warmTraverse.warmLink.warmBreak.warmArbiter := by
  have drive := warmTraverse_rest s
  have mem := warmTraverse_rest_liveAlone s
  generalize s.warmExchange.warmDiscard.std.due = due at drive
  generalize s.warmExchange.warmDiscard.warmTraverse = a at drive mem
  have linked := warmLink_linked a
  generalize a.warmLink = b at linked
  have memory : LiveAlone s b := mem.trans linked.memory
  have pageA : a.page.samplePeriod = s.page.samplePeriod := congrArg BitVec.toNat (mem.page (by decide))
  have pageB : b.page.debounceMs = s.page.debounceMs := congrArg BitVec.toNat (memory.page (by decide))
  have link : b.link = warmLinked s := by
    rw [linked.frame]
    unfold warmLinked
    rw [pageA, drive]
  have ex : b.ex = { s.ex with gateResult := .none, cause := .warm, applyPending := false, notice := b.ex.notice } := by
    have taken : b.ex = { a.ex with notice := b.ex.notice } := congrArg State.ex linked.frame
    rw [drive] at taken
    exact taken
  have restarted : b.noticeSet .restarted = true := linked.notices _ (by
    rw [drive]
    exact noticeSet_setNotice .restarted s)
  have up : a.link.up = s.link.up := by rw [drive]
  have arbiter := warmArbiter_rest (s := b.warmBreak)
    (show b.ex.life = .ready by rw [linked.frame, drive]; exact ready)
    (show b.link.up = false by rw [link]; rfl)
  have pins : b.warmBreak.pins = s.pins := by
    show b.pins = s.pins
    rw [linked.frame, drive]
  have frame := warmArbiter_frame b.warmBreak
  have written : LiveAlone b b.warmBreak.warmArbiter :=
    LiveAlone.trans (t := b.warmBreak) (.of_mem rfl) (warmArbiter_liveAlone _)
  rw [pins] at arbiter
  generalize b.warmBreak.warmArbiter = v at arbiter frame written
  refine ⟨?_, ?_, ?_, fun on => ?_, fun off => ?_, ?_, ?_, ?_, ?_, ?_, arbiter.1, arbiter.2, memory.trans written⟩
  · rw [frame]
    exact ex
  · rw [frame]
    exact restarted
  · rw [frame]
    exact link
  · rw [frame]
    exact linked.raised (up.trans on)
  · rw [frame]
    refine (linked.alarms (up.trans off)).trans ?_
    rw [drive]
  · rw [frame]
    show b.trav = _
    rw [linked.frame, drive]
  · rw [frame]
    show b.bin = _
    rw [linked.frame, drive]
  · rw [frame]
    show b.std = { s.std with ctx := none, due := b.std.due }
    rw [linked.frame, drive]
  · rw [frame]
    show b.filters = _
    rw [linked.frame, drive]
  · rw [frame]
    have brk : b.brk = s.brk := by rw [linked.frame, drive]
    show ({ b.brk with
      lowCount := 0, openCount := 0, lineTimer := b.brk.lineTimer.map (fun _ => b.page.debounceMs * 1000) } : BreakMon) = _
    rw [brk, pageB]

/-! ## The goal taken -/

/-- What a head that takes the goal PARK from the state of a warm reset leaves (R55, R57). -/
structure Parking (v w : State) (h : HeadState) : Prop where
  frame : w = { v with trav := w.trav, mem := w.mem }
  head : w.trav.head = h
  duty : w.trav.duty = v.trav.duty
  dir : w.trav.dir = v.trav.dir
  driveTimer : w.trav.driveTimer = v.trav.driveTimer
  dwellTimer : w.trav.dwellTimer = none
  faultCause : w.trav.faultCause = v.trav.faultCause
  memory : LiveAlone v w

theorem takeGoalStill_unhomed_park (unhomed : v.trav.head = .unhomed) (goal : v.arb.goal = .park) :
    Parking v (v.takeGoalStill false false) .homing := by
  have homing : v.takeGoalStill false false = v.enterHoming :=
    (takeGoalStill_unhomed unhomed).trans (if_neg (by rw [goal]; decide))
  rw [homing, enterHoming_of_ne (by rw [unhomed]; decide)]
  exact ⟨rfl, rfl, rfl, rfl, rfl, rfl, rfl, ⟨(live_liveAlone 0x038 1 v).same⟩⟩

theorem takeGoalStill_standing_park (standing : v.trav.head = .standing) (goal : v.arb.goal = .park) :
    Parking v (v.takeGoalStill false false) .returning := by
  have returning : v.takeGoalStill false false = v.enterReturning := by
    unfold State.takeGoalStill
    rw [standing, goal]
  have enter : v.enterReturning = ({ v with
      trav := entered .returning { v.trav with motionDir := v.toward 0 } } : State).live 0x038 HeadState.returning.code :=
    setHead_of_ne (s := { v with trav.motionDir := v.toward 0 }) (by rw [standing]; decide)
  rw [returning, enter]
  exact ⟨rfl, rfl, rfl, rfl, rfl, rfl, rfl, ⟨(live_liveAlone 0x038 _ v).same⟩⟩

/-- The head state that a warm reset leaves, once the goal PARK is taken. -/
def restartedHead (s : State) : HeadState :=
  match s.trav.head with
  | .unhomed | .homing | .faulted => HeadState.homing
  | _ => HeadState.returning

theorem warmHead_eq (s : State) :
    (s.warmHead = .unhomed ∧ restartedHead s = .homing) ∨ (s.warmHead = .standing ∧ restartedHead s = .returning) := by
  unfold State.warmHead restartedHead
  cases s.trav.head <;> simp

theorem Rested.parking (h : Rested s v) : Parking v (v.takeGoalStill false false) (restartedHead s) := by
  have head : v.trav.head = s.warmHead := by rw [h.trav]; rfl
  rcases warmHead_eq s with ⟨warm, restarted⟩ | ⟨warm, restarted⟩
  · rw [restarted]
    exact takeGoalStill_unhomed_park (head.trans warm) h.goal
  · rw [restarted]
    exact takeGoalStill_standing_park (head.trans warm) h.goal

/-! ## The end of the event -/

/-- With no frame in flight and the echo count at 0 the end of an event moves the command word's fields alone (R35). -/
theorem endEvent_link (rest : w.stdStartDue = false) (flight : w.link.inFlight = none) (count : w.link.echoCount = 0) :
    w.endEvent.link = { w.link with
      shutter := w.shutterDemand, ref := w.refDemand, seq := w.endEvent.link.seq
      echoPending := w.endEvent.link.echoPending } := by
  unfold State.endEvent
  rw [stdStart_of_not_due w rest]
  unfold State.commandCompare
  split
  · rename_i same
    rw [same.1, same.2]
  · dsimp only
    rw [flight, Option.map_none, count]

theorem shutterDemand_of_restarted (head : w.trav.head = restartedHead s) :
    w.shutterDemand = false ∧ w.refDemand = false := by
  unfold State.shutterDemand State.refDemand
  rw [head]
  rcases warmHead_eq s with ⟨-, restarted⟩ | ⟨-, restarted⟩ <;> rw [restarted] <;> exact ⟨rfl, rfl⟩

/-- Settles O16: the reset's stages, the goal PARK taken, the end of the event. -/
theorem warmReset : Obligations.WarmReset := by
  intro s _ ready
  have rested := warm_rested ready
  have parking := rested.parking
  have reset : s.warmReset = (s.warmExchange.warmDiscard.warmTraverse.warmLink.warmBreak.warmArbiter).takeGoalStill
    false false := rfl
  generalize s.warmExchange.warmDiscard.warmTraverse.warmLink.warmBreak.warmArbiter = v at rested parking reset
  rw [← reset] at parking
  generalize whole : s.warmReset = w at parking
  have memory : LiveAlone s w := rested.memory.trans parking.memory
  have linkW : w.link = warmLinked s := by rw [parking.frame]; exact rested.link
  have goal : w.arb.goal = .park := by rw [parking.frame]; exact rested.goal
  have due : w.stdStartDue = false := stdStartDue_of_goal (by rw [goal]; decide)
  have frame := endEvent_frame due
  have link := endEvent_link due (by rw [linkW]; rfl) (by rw [linkW]; rfl)
  have demand := shutterDemand_of_restarted parking.head
  rw [demand.1, demand.2, linkW] at link
  have exW : w.ex = { s.ex with gateResult := .none, cause := .warm, applyPending := false, notice := v.ex.notice } := by
    rw [parking.frame]
    exact rested.ex
  have alarmsW : w.alarms = v.alarms := by rw [parking.frame]
  have binW : w.bin = { s.bin with scan := none, batch := none } := by rw [parking.frame]; exact rested.bin
  have stdW : w.std = { s.std with ctx := none, due := v.std.due } := by rw [parking.frame]; exact rested.std
  have filtersW : w.filters = Vector.replicate 9 { } := by rw [parking.frame]; exact rested.filters
  have brkW : w.brk = v.brk := by rw [parking.frame]
  have arbW : w.arb = v.arb := by rw [parking.frame]
  refine ⟨w.endEvent, ?_, ?_⟩
  · show Host.Outcome.next (if s.ex.life = .ready then s.warmReset.endEvent else s) = _
    rw [if_pos ready, whole]
  · rw [frame, link]
    dsimp only
    rw [exW, alarmsW, binW, stdW, filtersW, brkW, rested.brk, arbW]
    refine ⟨ready, rfl, rfl, rfl, rested.restarted, rfl, rfl, rfl, rfl, rfl, rfl, rfl, rfl, rfl, rfl, rfl, rfl,
      rfl, rfl, rfl, rfl, rfl, rfl, fun c => ?_, rfl, rfl, rfl, rfl, rfl, rfl, rfl, rfl, rfl, rfl, ?_, ?_, ?_,
      parking.dwellTimer, ?_, parking.head, rested.goal, rested.panel.1, rested.panel.2, rfl, rfl, rfl, rfl, rfl, rfl,
      rfl, rfl, rested.raised, rested.alarms, memory.same (.inl (Nat.le_refl _)), memory.same (.inr (Nat.le_refl _))⟩
    · simp
    · rw [parking.duty, rested.trav]
      rfl
    · rw [parking.dir, rested.trav]
      rfl
    · rw [parking.driveTimer, rested.trav]
      rfl
    · rw [parking.faultCause, rested.trav]
      rfl

end Sys2Proof.Proofs
end


section
/-!
PROOFS. The start-up completion (R26, R42, R71, R87, R169): the live area is written by the blocks in turn, LINK_DOWN is
raised, and the head takes the goal PARK from UNHOMED.
-/

namespace Sys2Proof.Proofs

open Sys2Proof.Machine Sys2Proof.Laws

variable {s t u v w : State}

/-! ## Words of the live area that a stage leaves -/

/-- The words of the gate and the requests and those of the edges in use stand. -/
structure WordsKept (s t : State) : Prop where
  requests : SameBytes t.mem s.mem 0x08000 0x0801C
  edges : SameBytes t.mem s.mem 0x08060 0x08068

theorem WordsKept.trans (h1 : WordsKept s t) (h2 : WordsKept t u) : WordsKept s u :=
  ⟨sameBytes_trans h2.requests h1.requests, sameBytes_trans h2.edges h1.edges⟩

theorem WordsKept.of_mem (h : t.mem = s.mem) : WordsKept s t := by
  constructor <;> rw [h] <;> exact sameBytes_refl _ _ _

theorem WordsKept.requestWord (h : WordsKept s t) {off : Nat} (bound : off + 4 ≤ 0x01C) : t.liveWord off = s.liveWord off :=
  readWord_of_sameBytes h.requests (Nat.le_add_right _ _) (by simp only [liveBase]; omega)

theorem WordsKept.edgeWord (h : WordsKept s t) {off : Nat} (lo : 0x060 ≤ off) (hi : off + 4 ≤ 0x068) :
    t.liveWord off = s.liveWord off :=
  readWord_of_sameBytes h.edges (by simp only [liveBase]; omega) (by simp only [liveBase]; omega)

theorem liveWords_wordsKept (off : Nat) (ws : List Word) (s : State)
    (out : 0x01C ≤ off ∧ off + 4 * ws.length ≤ 0x060 ∨ 0x068 ≤ off) : WordsKept s (s.liveWords off ws) where
  requests := liveWords_sameBytes s off ws (by simp only [liveBase]; omega)
  edges := liveWords_sameBytes s off ws (by simp only [liveBase]; omega)

theorem live_wordsKept (off : Nat) (w : Word) (s : State) (out : 0x068 ≤ off) : WordsKept s (s.live off w) where
  requests := live_sameBytes s off w (by simp only [liveBase]; omega)
  edges := live_sameBytes s off w (by simp only [liveBase]; omega)

theorem recompute_wordsKept (ev : GoalEvent) (s : State) : WordsKept s (s.recompute ev).state where
  requests := recompute_sameBytes s ev (by decide)
  edges := recompute_sameBytes s ev (by decide)

theorem raiseAlarm_wordsKept (i : Fin 48) (x : Option Int) (s : State) : WordsKept s (s.raiseAlarm i x).2 := by
  have set : ∀ e, WordsKept s (s.setAlarm i e) := fun e =>
    ⟨setAlarm_sameBytes s i e (by omega), setAlarm_sameBytes s i e (by omega)⟩
  unfold State.raiseAlarm
  dsimp only
  split
  · exact set _
  · exact (set _).trans (.of_mem rfl)

/-! ## Stages that write the live area alone -/

/-- No register moved. -/
def Shown (s t : State) : Prop := t = { s with mem := t.mem }

theorem Shown.trans (h1 : Shown s t) (h2 : Shown t u) : Shown s u := by
  unfold Shown at *
  rw [h2, h1]

theorem foldl_shown {α : Type} {f : State → α → State} (h : ∀ s a, Shown s (f s a) ∧ WordsKept s (f s a)) (l : List α)
    (s : State) : Shown s (l.foldl f s) ∧ WordsKept s (l.foldl f s) := by
  induction l generalizing s with
  | nil => exact ⟨rfl, .of_mem rfl⟩
  | cons a l ih => exact ⟨(h s a).1.trans (ih (f s a)).1, (h s a).2.trans (ih (f s a)).2⟩

theorem liveWords_shown (off : Nat) (ws : List Word) (s : State) (out : 0x068 ≤ off) :
    Shown s (s.liveWords off ws) ∧ WordsKept s (s.liveWords off ws) := ⟨rfl, liveWords_wordsKept off ws s (.inr out)⟩

theorem liveDisable_shown (c : Fin 9) (s : State) : Shown s (s.liveDisable c) ∧ WordsKept s (s.liveDisable c) :=
  ⟨rfl, (live_wordsKept (0x080 + 4 * c.val) 0 s (by omega)).trans (live_wordsKept (0x0C0 + 4 * c.val) 0 _ (by omega))⟩

theorem liveTables_shown (s : State) : Shown s s.liveTables ∧ WordsKept s s.liveTables := by
  have refs := foldl_shown (fun s (c : Fin 8) => liveWords_shown (0x100 + 16 * c.val) s.std.refs[c].words s (by omega))
    channels8 s
  have entries := foldl_shown (fun s (i : Fin 48) => liveWords_shown (0x200 + 16 * i.val) s.alarms[i].words s (by omega))
    alarmIndices
  have disables := foldl_shown (fun s c => liveDisable_shown c s) channels9
  exact ⟨(refs.1.trans (entries _).1).trans (disables _).1, (refs.2.trans (entries _).2).trans (disables _).2⟩

theorem liveWords_liveWord (off : Nat) (ws : List Word) (s : State) {i : Nat} (hi : i < ws.length) :
    (s.liveWords off ws).liveWord (off + 4 * i) = ws[i] := by
  have value := readWord_writeWords_get ws s.mem (liveBase + off) i hi
  rw [Nat.add_assoc] at value
  exact value

theorem liveExchange_words (s : State) : s.liveExchange.liveWord 0x000 = 1 ∧
    s.liveExchange.liveWord 0x014 = s.ex.reqMode.code ∧ s.liveExchange.liveWord 0x018 = Word.ofSigned s.ex.holdPos :=
  ⟨liveWords_liveWord 0x000 _ s (i := 0) (by simp), liveWords_liveWord 0x000 _ s (i := 5) (by simp),
    liveWords_liveWord 0x000 _ s (i := 6) (by simp)⟩

theorem liveBlocks_requests (s : State) : SameBytes s.liveBlocks.mem s.mem 0x08000 0x0801C := by
  refine sameBytes_trans (liveWords_sameBytes _ 0x060 _ (.inl (by decide))) ?_
  refine sameBytes_trans (liveWords_sameBytes _ 0x044 _ (.inl (by decide))) ?_
  exact sameBytes_trans (live_sameBytes _ 0x038 _ (.inl (by decide))) (liveWords_sameBytes s 0x02C _ (.inl (by decide)))

theorem liveBlocks_edges (s : State) : s.liveBlocks.liveWord 0x060 = Word.ofSigned s.bin.edgeFront ∧
    s.liveBlocks.liveWord 0x064 = Word.ofSigned s.bin.edgeBack :=
  ⟨liveWords_liveWord 0x060 _ _ (i := 0) (by simp), liveWords_liveWord 0x060 _ _ (i := 1) (by simp)⟩

/-! ## The goal record -/

theorem startGoal_wordsKept (s : State) : WordsKept s s.startGoal :=
  (recompute_wordsKept .other s).trans (liveWords_wordsKept 0x03C _ _ (.inl (by simp [Arbiter.goalWords])))

theorem startGoal_frame (s : State) : s.startGoal = { s with arb := s.startGoal.arb, mem := s.startGoal.mem } := by
  unfold State.startGoal
  dsimp only
  rw [recompute_frame]
  rfl

/-- A goal record that holds PARK with the cause ABORTED keeps both while the link is DOWN (R73, R75, R76). -/
theorem startGoal_park (ready : s.ex.life = .ready) (down : s.link.up = false) (cause : s.arb.cause = .aborted) :
    s.startGoal.arb.goal = .park ∧ s.startGoal.arb.cause = .aborted ∧
      s.startGoal.arb.granted = (!s.arb.panelInhibit) ∧ s.startGoal.arb.panelPark = s.arb.panelPark ∧
      s.startGoal.arb.panelInhibit = s.arb.panelInhibit := by
  have arb : s.startGoal.arb = (s.recompute .other).state.arb := rfl
  have demand : s.linkDemand = true := by simp [State.linkDemand, ready, down]
  have claims : s.claimedGoal = .park := by
    unfold State.claimedGoal
    rw [demand, Bool.or_true, Bool.true_or, if_pos rfl]
  obtain ⟨panel, inhibit⟩ := (recompute_evolves (own := ∅) (s := s) .other).frame.panel (Set.notMem_empty _)
  rw [arb]
  refine ⟨(recompute_goal s .other).trans claims, ?_, recompute_granted s .other, panel, inhibit⟩
  cases changed : (s.recompute .other).changed with
  | true => rw [recompute_cause .other changed, claims]; rfl
  | false => rw [recompute_unchanged s .other changed]; exact cause

/-! ## The stages together -/

/-- What the part is before the head takes the goal: the owners have written and LINK_DOWN stands. -/
structure Started (u v : State) : Prop where
  frame : v = { u with alarms := v.alarms, ex := { u.ex with notice := v.ex.notice }, arb := v.arb, mem := v.mem }
  active : v.alarms[linkDownAlarm].active = true
  value : v.alarms[linkDownAlarm].lastValue = 3
  raised : v.alarms[linkDownAlarm].timesRaised = min 65535 (u.alarms[linkDownAlarm].timesRaised + 1)
  notice : v.ex.notice = u.ex.notice ||| Notice.alarm.maskBit ||| Notice.restarted.maskBit
  goal : v.arb.goal = .park ∧ v.arb.cause = .aborted ∧ v.arb.granted = (!u.arb.panelInhibit) ∧
    v.arb.panelPark = u.arb.panelPark ∧ v.arb.panelInhibit = u.arb.panelInhibit
  requests : v.liveWord 0x000 = 1 ∧ v.liveWord 0x014 = u.ex.reqMode.code ∧ v.liveWord 0x018 = Word.ofSigned u.ex.holdPos
  edges : v.liveWord 0x060 = Word.ofSigned u.bin.edgeFront ∧ v.liveWord 0x064 = Word.ofSigned u.bin.edgeBack
  page : SameBytes v.mem u.mem activeBase liveBase

/-- The stages of the start-up from the state with the timers running. -/
def written (u : State) : State :=
  ((u.liveExchange.liveBlocks.liveTables.raiseAlarm linkDownAlarm (some LinkCause.reset.code)).2.setNotice
    .restarted).startGoal

theorem written_started (ready : u.ex.life = .ready) (down : u.link.up = false) (cause : u.arb.cause = .aborted)
    (inactive : u.alarms[linkDownAlarm].active = false) (idle : u.ex.applyPending = false) : Started u (written u) := by
  have evolves : Evolves Set.univ u (written u) :=
    (((((liveExchange_evolves (Set.mem_univ _) (Set.mem_univ _) (Set.mem_univ _)).trans liveBlocks_evolves).trans
      liveTables_evolves).trans (raiseAlarm_evolves _ _)).trans (setNotice_evolves .restarted)).trans startGoal_evolves
  have exchange : Shown u u.liveExchange := rfl
  have blocks : Shown u.liveExchange u.liveExchange.liveBlocks := rfl
  have tables := liveTables_shown u.liveExchange.liveBlocks
  have shown : Shown u u.liveExchange.liveBlocks.liveTables := (exchange.trans blocks).trans tables.1
  have requests := liveExchange_words u
  have kept := liveBlocks_requests u.liveExchange
  have edges := liveBlocks_edges u.liveExchange
  unfold written at evolves ⊢
  generalize u.liveExchange.liveBlocks.liveTables = a at *
  have entry : a.alarms = u.alarms := by rw [shown]
  have raise := raiseAlarm_raised linkDownAlarm LinkCause.reset.code a
  have first := raiseAlarm_first (s := a) linkDownAlarm LinkCause.reset.code (by rw [entry]; exact inactive)
  have raiseKept := raiseAlarm_wordsKept linkDownAlarm (some LinkCause.reset.code) a
  generalize (a.raiseAlarm linkDownAlarm (some LinkCause.reset.code)).2 = b at *
  have regs : b = { u with alarms := b.alarms, ex := { u.ex with notice := b.ex.notice }, mem := b.mem } := by
    rw [raise.frame, shown]
  have words : WordsKept u.liveExchange.liveBlocks (b.setNotice .restarted).startGoal :=
    (tables.2.trans raiseKept).trans (.trans (t := b.setNotice .restarted) (.of_mem rfl) (startGoal_wordsKept _))
  have park := startGoal_park (s := b.setNotice .restarted) (show b.ex.life = .ready by rw [regs]; exact ready)
    (show b.link.up = false by rw [regs]; exact down) (show b.arb.cause = .aborted by rw [regs]; exact cause)
  have goalFrame := startGoal_frame (b.setNotice .restarted)
  generalize (b.setNotice .restarted).startGoal = v at *
  have requestWord : ∀ {off : Nat}, off + 4 ≤ 0x01C → v.liveWord off = u.liveExchange.liveWord off := fun bound =>
    (words.requestWord bound).trans
      (readWord_of_sameBytes kept (Nat.le_add_right _ _) (by simp only [liveBase]; omega))
  have edgeWord : ∀ {off : Nat}, 0x060 ≤ off → off + 4 ≤ 0x068 →
      v.liveWord off = u.liveExchange.liveBlocks.liveWord off := words.edgeWord
  refine ⟨?_, ?_, ?_, ?_, ?_, ?_, ⟨?_, ?_, ?_⟩, ⟨?_, ?_⟩, (evolves.pageHeld idle).active⟩
  · rw [goalFrame]
    show ({ b.setNotice .restarted with arb := v.arb, mem := v.mem } : State) = { u with
      alarms := b.alarms, ex := { u.ex with notice := b.ex.notice ||| Notice.restarted.maskBit }, arb := v.arb
      mem := v.mem }
    rw [regs]
    rfl
  · rw [goalFrame]
    exact raise.active
  · rw [goalFrame]
    exact raise.value
  · rw [goalFrame]
    refine first.1.trans ?_
    rw [entry]
  · rw [goalFrame]
    show b.ex.notice ||| Notice.restarted.maskBit = _
    rw [first.2, shown]
  · have arb : b.arb = u.arb := by rw [regs]
    have same : (b.setNotice .restarted).arb = u.arb := arb
    rw [same] at park
    exact park
  · exact (requestWord (by decide)).trans requests.1
  · exact (requestWord (by decide)).trans requests.2.1
  · exact (requestWord (by decide)).trans requests.2.2
  · exact (edgeWord (by decide) (by decide)).trans edges.1
  · exact (edgeWord (by decide) (by decide)).trans edges.2

/-! ## The head takes the goal -/

theorem enterHoming_memory (unhomed : v.trav.head = .unhomed) :
    WordsKept v v.enterHoming ∧ v.enterHoming.liveWord 0x038 = 1 := by
  rw [enterHoming_of_ne (by rw [unhomed]; decide)]
  have kept : WordsKept v (v.live 0x038 1) := liveWords_wordsKept 0x038 [1] v (.inl (by decide))
  exact ⟨⟨kept.requests, kept.edges⟩, live_liveWord 0x038 1 v⟩

theorem startUpComplete_eq (s : State) : s.startUpComplete = (written s.startUp).takeGoalStill false false := rfl

/-- Settles O15: the registers from the cold-reset state, the words by the stages, the head HOMING from UNHOMED. -/
theorem startUpCompletion : Obligations.StartUpCompletion := by
  intro s cold inactive period margin
  have startup := startUpComplete_eq s
  have ex : s.ex = { } := congrArg State.ex cold
  have link : s.link = { } := congrArg State.link cold
  have trav : s.trav = { } := congrArg State.trav cold
  have arb : s.arb = { } := congrArg State.arb cold
  have bin : s.bin = { } := congrArg State.bin cold
  have alarms : s.alarms = State.reset.alarms := by rw [cold]
  have entry : s.alarms[linkDownAlarm] = { } := by
    rw [alarms]
    simp [State.reset]
  have started : Started s.startUp (written s.startUp) := written_started rfl (by show s.link.up = false; rw [link])
    (by show s.arb.cause = .aborted; rw [arb]) (by show s.alarms[linkDownAlarm].active = false; rw [entry])
    (by show s.ex.applyPending = false; rw [ex])
  generalize written s.startUp = v at started startup
  obtain ⟨goal, cause, granted, park, inhibit⟩ := started.goal
  have head : v.trav.head = .unhomed := by
    rw [started.frame]
    show s.trav.head = .unhomed
    rw [trav]
  have homing : s.startUpComplete = v.enterHoming := by
    rw [startup]
    exact (takeGoalStill_unhomed head).trans (if_neg (by rw [goal]; decide))
  have shape := enterHoming_of_ne (s := v) (by rw [head]; decide)
  obtain ⟨words, shown⟩ := enterHoming_memory head
  have run : exec .startUpCompletion s = .next s.startUpComplete.endEvent :=
    congrArg Host.Outcome.next (if_pos ⟨by rw [ex], inactive⟩)
  have page : v.page.homeMargin = 100 :=
    (congrArg BitVec.toNat (page_of_sameBytes started.page (off := 0x024) (by decide))).trans margin
  have travV : v.trav = { s.trav with
      driveTimer := some Config.driveIntervalUs, prevPosition := s.trav.position, frontLim := s.pins.frontLim
      backLim := s.pins.backLim, drvFault := s.pins.drvFault } := by
    rw [started.frame]
    rfl
  have position : homingPosition v = if s.pins.frontLim = true then Word.ofSigned (-100) else 0 := by
    unfold homingPosition
    rw [page, travV, trav]
    rfl
  generalize s.startUpComplete = w at homing run
  rw [← homing] at shape words shown
  have arbW : w.arb = v.arb := by rw [shape]
  have linkW : w.link = { sampleTimer := some 1000 } := by
    rw [shape, started.frame]
    show ({ s.link with sampleTimer := some s.page.samplePeriod } : HeadLink) = _
    rw [link, period]
  have due : w.stdStartDue = false := stdStartDue_of_goal (by rw [arbW, goal]; decide)
  have frame := endEvent_frame due
  have linkT := endEvent_link due (by rw [linkW]) (by rw [linkW])
  rw [linkW] at linkT
  have exW : w.ex = { life := .ready, notice := Notice.restarted.maskBit ||| Notice.alarm.maskBit } := by
    have value : v.ex.notice = Notice.restarted.maskBit ||| Notice.alarm.maskBit := by
      rw [started.notice]
      show s.ex.notice ||| _ ||| _ = _
      rw [ex]
      rfl
    have exV : v.ex = { s.ex with life := .ready, notice := v.ex.notice } := congrArg State.ex started.frame
    rw [shape]
    exact exV.trans (by rw [ex, value])
  have travW : w.trav = { v.trav with
      head := .homing, stillness := 0, stallTime := 0, dwellTimer := none, homed := s.pins.frontLim
      position := homingPosition v } := by
    rw [shape]
    show ({ entered .homing v.trav with homed := v.trav.frontLim, position := homingPosition v } : Traverse) = _
    have front : v.trav.frontLim = s.pins.frontLim := by rw [travV]
    rw [front]
    rfl
  have brkW : w.brk.line = s.pins.breakIn := by
    rw [shape, started.frame]
    rfl
  have alarmsW : w.alarms = v.alarms := by rw [shape]
  refine ⟨w.endEvent, run, ?_⟩
  rw [frame, linkT]
  dsimp only
  rw [exW, travW, travV, arbW, alarmsW, position]
  refine ⟨rfl, rfl, rfl, rfl, rfl, rfl, rfl, park, inhibit, brkW, rfl, started.active, started.value, ?_, rfl, goal, cause,
    granted, rfl, rfl, rfl, (words.requestWord (by decide)).trans started.requests.1, ?_, ?_, shown, ?_, ?_⟩
  · refine started.raised.trans ?_
    show min 65535 (s.alarms[linkDownAlarm].timesRaised + 1) = 1
    rw [entry]
    rfl
  · refine ((words.requestWord (by decide)).trans started.requests.2.1).trans ?_
    show s.ex.reqMode.code = 3
    rw [ex]
    rfl
  · refine ((words.requestWord (by decide)).trans started.requests.2.2).trans ?_
    show Word.ofSigned s.ex.holdPos = 500
    rw [ex]
    rfl
  · refine ((words.edgeWord (by decide) (by decide)).trans started.edges.1).trans ?_
    show Word.ofSigned s.bin.edgeFront = 1000
    rw [bin]
    rfl
  · refine ((words.edgeWord (by decide) (by decide)).trans started.edges.2).trans ?_
    show Word.ofSigned s.bin.edgeBack = 9000
    rw [bin]
    rfl

end Sys2Proof.Proofs
end

section
/-!
PROOFS. The agreement of the blocks inside an event (R46, R52, R55, R73, R133, section 4.2): what the operations of an event
keep of it, and where a head with no open work may be placed under a goal.
-/
namespace Sys2Proof.Proofs

open Sys2Proof.Machine Sys2Proof.Laws

-- One proof after another: threads that wait for each other count against the memory limit of the check.
set_option Elab.async false

variable {s t u v : State} {g : Goal} {h : HeadState}

/-! ## The work and the head state -/

/-- The homed condition that a head state implies, HOMING apart (R46). -/
def positionKnown (h : HeadState) : Bool := !(decide (h = .unhomed) || decide (h = .faulted))

/-- The open work, D and the homed condition agree with the head state (Figure 3-2, R46, R52, R133). -/
structure WorkOk (s : State) : Prop where
  scan : s.bin.scan.isSome = s.trav.head.traversing
  batch : s.bin.batch.isSome = true → s.trav.head = .holding
  std : s.std.ctx.isSome = decide (s.trav.head = .standardizing)
  rest : s.trav.head.atRest = true → s.trav.duty = 0
  homed : s.trav.head ≠ .homing → s.trav.homed = positionKnown s.trav.head

/-- No scan is open and no standardize runs: the head may take another state. -/
structure Idle (s : State) : Prop where
  scan : s.bin.scan = none
  std : s.std.ctx = none
  batch : s.bin.batch.isSome = true → s.trav.head = .holding
  rest : s.trav.head.atRest = true → s.trav.duty = 0
  homed : s.trav.head ≠ .homing → s.trav.homed = positionKnown s.trav.head

/-- What the agreement reads of the work and the drive is as it was. -/
structure WorkSame (s t : State) : Prop where
  head : t.trav.head = s.trav.head := by rfl
  homed : t.trav.homed = s.trav.homed := by rfl
  duty : t.trav.duty = s.trav.duty := by rfl
  scan : t.bin.scan.isSome = s.bin.scan.isSome := by rfl
  batch : t.bin.batch.isSome = s.bin.batch.isSome := by rfl
  ctx : t.std.ctx.isSome = s.std.ctx.isSome := by rfl
  life : t.ex.life = s.ex.life := by rfl

theorem WorkSame.refl (s : State) : WorkSame s s := { }

theorem WorkSame.trans (h1 : WorkSame s t) (h2 : WorkSame t u) : WorkSame s u where
  head := h2.head.trans h1.head
  homed := h2.homed.trans h1.homed
  duty := h2.duty.trans h1.duty
  scan := h2.scan.trans h1.scan
  batch := h2.batch.trans h1.batch
  ctx := h2.ctx.trans h1.ctx
  life := h2.life.trans h1.life

theorem WorkOk.congr (ok : WorkOk s) (same : WorkSame s t) : WorkOk t := by
  constructor
  · rw [same.scan, same.head]; exact ok.scan
  · rw [same.batch, same.head]; exact ok.batch
  · rw [same.ctx, same.head]; exact ok.std
  · rw [same.duty, same.head]; exact ok.rest
  · rw [same.homed, same.head]; exact ok.homed

theorem Idle.congr (idle : Idle s) (same : WorkSame s t) : Idle t := by
  constructor
  · have scan := same.scan
    rw [idle.scan] at scan
    exact Option.not_isSome_iff_eq_none.1 (by rw [scan]; exact Bool.false_ne_true)
  · have ctx := same.ctx
    rw [idle.std] at ctx
    exact Option.not_isSome_iff_eq_none.1 (by rw [ctx]; exact Bool.false_ne_true)
  · rw [same.batch, same.head]; exact idle.batch
  · rw [same.duty, same.head]; exact idle.rest
  · rw [same.homed, same.head]; exact idle.homed

/-- A head that neither traverses nor is STANDARDIZING has no scan and no standardize, and the other way round. -/
theorem WorkOk.idle (ok : WorkOk s) (still : s.trav.head.traversing = false) (std : s.trav.head ≠ .standardizing) :
    Idle s :=
  ⟨Option.not_isSome_iff_eq_none.1 (by rw [ok.scan, still]; exact Bool.false_ne_true),
    Option.not_isSome_iff_eq_none.1 (by rw [ok.std, decide_eq_false std]; exact Bool.false_ne_true),
    ok.batch, ok.rest, ok.homed⟩

theorem Idle.workOk (idle : Idle s) (still : s.trav.head.traversing = false) (std : s.trav.head ≠ .standardizing) :
    WorkOk s :=
  ⟨by rw [idle.scan, still]; rfl, idle.batch, by rw [idle.std, decide_eq_false std]; rfl, idle.rest, idle.homed⟩

/-- Only a HOLDING head has a batch (R133). -/
theorem no_batch (batch : s.bin.batch.isSome = true → s.trav.head = .holding) (other : s.trav.head ≠ .holding) :
    s.bin.batch = none :=
  Option.not_isSome_iff_eq_none.1 fun some => other (batch some)

/-! ## Where a goal may find the head -/

/-- The head states in which an event may leave the head under a goal (R54, R55, R60 to R63, section 4.2). -/
def allows (g : Goal) : HeadState → Bool
  | .unhomed => decide (g = .stop)
  | .outbound | .inbound | .turning | .movingToHold | .holding => decide (g = .scan ∨ g = .hold ∨ g = .standardize)
  | .homing | .parked | .standing | .standardizing | .returning | .stopping | .faulted => true

theorem allows_iff (g : Goal) (h : HeadState) :
    allows g h = true ↔
      (h = .unhomed → g = .stop) ∧ (h.shutterOpen = true → g ≠ .park ∧ g ≠ .stop ∧ g ≠ .home) := by
  cases g <;> cases h <;> decide

/-- The head is where the goal may have it, with the work that its state has. -/
structure Placed (g : Goal) (t : State) : Prop where
  work : WorkOk t
  allowed : allows g t.trav.head = true

theorem placed_of_head (work : WorkOk t) (head : t.trav.head = h) (allowed : allows g h = true) : Placed g t :=
  ⟨work, by rw [head]; exact allowed⟩

theorem Placed.congr (placed : Placed g s) (same : WorkSame s t) : Placed g t :=
  ⟨placed.work.congr same, by rw [same.head]; exact placed.allowed⟩

/-! ## Entering a head state -/

theorem setHead_workOk (scan : s.bin.scan = none) (std : s.std.ctx = none) (still : h.traversing = false)
    (other : h ≠ .standardizing) (batch : s.bin.batch.isSome = true → h = .holding)
    (rest : h.atRest = true → s.trav.duty = 0) (homed : h ≠ .homing → s.trav.homed = positionKnown h) :
    WorkOk (s.setHead h) := by
  constructor
  · rw [State.setHead_bin, State.setHead_head, scan, still]; rfl
  · rw [State.setHead_bin, State.setHead_head]; exact batch
  · rw [State.setHead_std, State.setHead_head, std, decide_eq_false other]; rfl
  · rw [State.setHead_duty, State.setHead_head]; exact rest
  · rw [State.setHead_homed, State.setHead_head]; exact homed

/-- A head that knows where it is, with no work. -/
structure Free (s : State) : Prop where
  scan : s.bin.scan = none
  std : s.std.ctx = none
  batch : s.bin.batch = none
  homed : s.trav.homed = true

/-- The head of known position takes a state in which it moves, or in which it rests with D at 0. -/
theorem Free.setHead_workOk (free : Free s) (still : h.traversing = false) (other : h ≠ .standardizing)
    (known : positionKnown h = true) (rest : h.atRest = true → s.trav.duty = 0) : WorkOk (s.setHead h) :=
  Proofs.setHead_workOk free.scan free.std still other (by rw [free.batch]; exact nofun) rest fun _ => by
    rw [free.homed, known]

theorem enterReturning_workOk (free : Free s) : WorkOk s.enterReturning :=
  Free.setHead_workOk (s := { s with trav.motionDir := s.toward 0 }) ⟨free.scan, free.std, free.batch, free.homed⟩ rfl
    HeadState.noConfusion rfl nofun

theorem enterReturning_head (s : State) : s.enterReturning.trav.head = .returning := setHead_head _ _

theorem enterMovingToHold_workOk (free : Free s) : WorkOk s.enterMovingToHold :=
  Free.setHead_workOk (s := { s with trav.motionDir := s.toward s.ex.holdPos })
    ⟨free.scan, free.std, free.batch, free.homed⟩ rfl HeadState.noConfusion rfl nofun

theorem enterMovingToHold_head (s : State) : s.enterMovingToHold.trav.head = .movingToHold := setHead_head _ _

theorem enterStopping_workOk (free : Free s) : WorkOk s.enterStopping :=
  free.setHead_workOk rfl HeadState.noConfusion rfl nofun

theorem enterStopping_head (s : State) : s.enterStopping.trav.head = .stopping := setHead_head _ _

theorem enterStanding_workOk (free : Free s) (duty : s.trav.duty = 0) : WorkOk s.enterStanding :=
  free.setHead_workOk rfl HeadState.noConfusion rfl fun _ => duty

theorem enterStanding_head (s : State) : s.enterStanding.trav.head = .standing := setHead_head _ _

theorem enterParked_workOk (free : Free s) (duty : s.trav.duty = 0) : WorkOk s.enterParked :=
  free.setHead_workOk rfl HeadState.noConfusion rfl fun _ => duty

theorem enterParked_head (s : State) : s.enterParked.trav.head = .parked := setHead_head _ _

theorem enterUnhomed_workOk (scan : s.bin.scan = none) (std : s.std.ctx = none) (batch : s.bin.batch = none) :
    WorkOk s.enterUnhomed :=
  setHead_workOk (s := { s with trav := { s.trav with duty := 0, homed := false } }) scan std rfl HeadState.noConfusion
    (by rw [show _ = (none : Option Batch) from batch]; exact nofun) (fun _ => rfl) fun _ => rfl

theorem enterUnhomed_head (s : State) : s.enterUnhomed.trav.head = .unhomed := setHead_head _ _

theorem enterHoming_workOk (scan : s.bin.scan = none) (std : s.std.ctx = none) (batch : s.bin.batch = none) :
    WorkOk s.enterHoming := by
  have entered : WorkOk (({ s with trav.homed := false } : State).setHead .homing) :=
    setHead_workOk scan std rfl HeadState.noConfusion (by rw [show _ = (none : Option Batch) from batch]; exact nofun)
      nofun fun other => absurd rfl other
  unfold State.enterHoming
  dsimp only
  split
  · exact ⟨entered.scan, entered.batch, entered.std, entered.rest, fun other => absurd (setHead_head _ _) other⟩
  · exact entered

/-- A departure opens a scan in the direction of the traverse (R58, R123). -/
theorem depart_workOk (free : Free s) (d : ScanDir) : WorkOk (s.depart d) := by
  have head : (s.depart d).trav.head = d.headState := setHead_head _ _
  have homed : (s.depart d).trav.homed = true := (State.setHead_homed ..).trans free.homed
  have batch : (s.depart d).bin.batch = none := by
    show (s.setHead _).bin.batch = none
    rw [State.setHead_bin, free.batch]
  have std : (s.depart d).std.ctx = none := by
    show (s.setHead _).std.ctx = none
    rw [State.setHead_std, free.std]
  constructor
  · rw [head]; cases d <;> rfl
  · rw [batch]; exact nofun
  · rw [std, head]; cases d <;> rfl
  · rw [head]; cases d <;> exact nofun
  · rw [homed, head]; cases d <;> exact fun _ => rfl

theorem depart_head (s : State) (d : ScanDir) : (s.depart d).trav.head = d.headState := setHead_head _ _

theorem scanFromStanding_placed (free : Free s) (standing : s.trav.head = .standing) (duty : s.trav.duty = 0)
    (goal : g = .scan) : Placed g s.scanFromStanding := by
  subst goal
  unfold State.scanFromStanding
  split
  · refine placed_of_head (depart_workOk free _) (depart_head _ _) ?_
    cases s.departureFromStanding <;> rfl
  · refine placed_of_head (h := .standing) ?_ standing rfl
    have idle : Idle s := ⟨free.scan, free.std, by rw [free.batch]; exact nofun, fun _ => duty, fun _ => by
      rw [free.homed, standing]; rfl⟩
    exact idle.workOk (by rw [standing]; rfl) (by rw [standing]; exact HeadState.noConfusion)

/-- Entering TURNING: with DWELL 0 the head departs at once (R60). -/
theorem enterTurning_placed (free : Free s) (duty : s.trav.duty = 0) (side : Side)
    (goal : g = .scan ∨ g = .hold ∨ g = .standardize) : Placed g (s.enterTurning side) := by
  have entered : WorkOk (s.setHead .turning) := free.setHead_workOk rfl HeadState.noConfusion rfl fun _ => duty
  have timed : ∀ tm, WorkSame (s.setHead .turning)
      { s.setHead .turning with trav := { (s.setHead .turning).trav with turn := side, dwellTimer := tm } } := fun _ => { }
  unfold State.enterTurning
  dsimp only
  split
  · refine placed_of_head (depart_workOk (Free.mk ?_ ?_ ?_ ?_) _) (depart_head _ _) ?_
    · show (s.setHead _).bin.scan = none
      rw [State.setHead_bin, free.scan]
    · show (s.setHead _).std.ctx = none
      rw [State.setHead_std, free.std]
    · show (s.setHead _).bin.batch = none
      rw [State.setHead_bin, free.batch]
    · exact (State.setHead_homed ..).trans free.homed
    · cases side <;> exact decide_eq_true goal
  · exact placed_of_head (entered.congr (timed _)) (setHead_head _ _) (decide_eq_true goal)

/-! ## The head takes a goal -/

/-- The end of a batch leaves the scan and the drive (R135). -/
theorem endBatch_work (outcome : RecOutcome) (s : State) :
    (s.endBatch outcome).bin.batch = none ∧ (s.endBatch outcome).bin.scan = s.bin.scan ∧
      (s.endBatch outcome).trav = s.trav := by
  have record : ∀ (u : State) (b : Batch) (o : RecOutcome), (u.produceFixed b o).bin = u.bin ∧
      (u.produceFixed b o).trav = u.trav := fun _ _ _ => ⟨State.produce_bin .., State.produce_trav ..⟩
  unfold State.endBatch
  split
  · rename_i none
    exact ⟨none, rfl, rfl⟩
  · cases outcome with
    | complete | thin | aborted => exact ⟨rfl, rfl, rfl⟩
    | brk | link | fault =>
      dsimp only
      rw [(record _ _ _).1, (record _ _ _).2]
      exact ⟨rfl, rfl, rfl⟩

/-- Ending a batch leaves the head with no work. -/
theorem endBatch_free (idle : Idle s) (homed : s.trav.homed = true) (outcome : RecOutcome) :
    Free (s.endBatch outcome) := by
  obtain ⟨batch, scan, trav⟩ := endBatch_work outcome s
  exact ⟨scan.trans idle.scan, by rw [(endBatch_kept outcome s).std]; exact idle.std, batch, by rw [trav]; exact homed⟩

/-- The head of known position is free once it has no batch. -/
theorem Idle.free (idle : Idle s) (batch : s.trav.head ≠ .holding) (known : positionKnown s.trav.head = true)
    (moving : s.trav.head ≠ .homing) : Free s :=
  ⟨idle.scan, idle.std, no_batch idle.batch batch, (idle.homed moving).trans known⟩

/-- A head with no open work takes a goal: it ends where the goal may have it (R54 to R57, R60 to R64). -/
theorem takeGoalStill_placed (idle : Idle s) (still : s.trav.head.traversing = false)
    (std : s.trav.head ≠ .standardizing) (p e : Bool) : Placed s.arb.goal (s.takeGoalStill p e) := by
  have work := idle.workOk still std
  have stay : ∀ {h}, s.trav.head = h → allows s.arb.goal h = true → Placed s.arb.goal s := placed_of_head work
  have free : s.trav.head ≠ .holding → positionKnown s.trav.head = true → s.trav.head ≠ .homing → Free s := idle.free
  have homing : s.trav.head ≠ .holding → Placed s.arb.goal s.enterHoming := fun other =>
    placed_of_head (enterHoming_workOk idle.scan idle.std (no_batch idle.batch other)) (enterHoming_head s) rfl
  have returning : Free s → Placed s.arb.goal s.enterReturning := fun free =>
    placed_of_head (enterReturning_workOk free) (enterReturning_head s) rfl
  have stopping : Free s → Placed s.arb.goal s.enterStopping := fun free =>
    placed_of_head (enterStopping_workOk free) (enterStopping_head s) rfl
  have hold : s.arb.goal = .hold → Free s → Placed s.arb.goal s.enterMovingToHold := fun goal free =>
    placed_of_head (enterMovingToHold_workOk free) (enterMovingToHold_head s) (by rw [goal]; rfl)
  unfold State.takeGoalStill
  split <;> rename_i head
  · -- UNHOMED
    split
    · rename_i goal
      exact stay head (by rw [goal]; rfl)
    · exact homing (by rw [head]; exact HeadState.noConfusion)
  · -- HOMING
    split
    · rename_i goal
      exact placed_of_head
        (enterUnhomed_workOk idle.scan idle.std (no_batch idle.batch (by rw [head]; exact HeadState.noConfusion)))
        (enterUnhomed_head s) (by rw [goal]; rfl)
    · exact stay head rfl
  · -- PARKED
    have parked := free (by rw [head]; exact HeadState.noConfusion) (by rw [head]; rfl)
      (by rw [head]; exact HeadState.noConfusion)
    split <;> rename_i goal
    iterate 3 exact stay head rfl
    · split
      · exact stay head rfl
      · exact homing (by rw [head]; exact HeadState.noConfusion)
    · split
      · exact placed_of_head (depart_workOk parked _) (depart_head _ _) (by rw [goal]; rfl)
      · exact stay head rfl
    · split
      · exact hold goal parked
      · exact stay head rfl
  · -- STANDING
    have standing := free (by rw [head]; exact HeadState.noConfusion) (by rw [head]; rfl)
      (by rw [head]; exact HeadState.noConfusion)
    split <;> rename_i goal
    iterate 2 exact returning standing
    · exact stay head rfl
    · exact homing (by rw [head]; exact HeadState.noConfusion)
    · exact scanFromStanding_placed standing head (idle.rest (by rw [head]; rfl)) goal
    · split
      · exact hold goal standing
      · exact stay head rfl
  · -- TURNING
    have turning := free (by rw [head]; exact HeadState.noConfusion) (by rw [head]; rfl)
      (by rw [head]; exact HeadState.noConfusion)
    split <;> rename_i goal
    · exact stay head (by rw [goal]; rfl)
    · split
      · exact returning turning
      · exact stay head (by rw [goal]; rfl)
    · exact returning turning
    · exact placed_of_head (enterStanding_workOk turning (idle.rest (by rw [head]; rfl))) (enterStanding_head s) rfl
    · exact homing (by rw [head]; exact HeadState.noConfusion)
    · exact hold goal turning
  · -- MOVING_TO_HOLD
    have moving := free (by rw [head]; exact HeadState.noConfusion) (by rw [head]; rfl)
      (by rw [head]; exact HeadState.noConfusion)
    split <;> rename_i goal
    · split
      · exact hold goal moving
      · exact stay head (by rw [goal]; rfl)
    iterate 2 exact stopping moving
    iterate 2 exact returning moving
    · exact homing (by rw [head]; exact HeadState.noConfusion)
  · -- HOLDING
    have homed : s.trav.homed = true := (idle.homed (by rw [head]; exact HeadState.noConfusion)).trans (by rw [head]; rfl)
    have left := endBatch_free idle homed s.arb.cause.outcome
    have duty : (s.endBatch s.arb.cause.outcome).trav.duty = 0 := by
      rw [(endBatch_work _ s).2.2]; exact idle.rest (by rw [head]; rfl)
    dsimp only
    split <;> rename_i goal
    · split
      · exact placed_of_head (enterMovingToHold_workOk left) (enterMovingToHold_head _) (by rw [goal]; rfl)
      · exact stay head (by rw [goal]; rfl)
    · have stood := enterStanding_workOk left duty
      refine scanFromStanding_placed ?_ (enterStanding_head _) ?_ goal
      · exact (stood.idle (by rw [enterStanding_head]; rfl) (by rw [enterStanding_head]; exact HeadState.noConfusion)).free
          (by rw [enterStanding_head]; exact HeadState.noConfusion) (by rw [enterStanding_head]; rfl)
          (by rw [enterStanding_head]; exact HeadState.noConfusion)
      · exact stood.rest (by rw [enterStanding_head]; rfl)
    iterate 2 exact placed_of_head (enterReturning_workOk left) (enterReturning_head _) rfl
    · exact placed_of_head (enterStanding_workOk left duty) (enterStanding_head _) rfl
    · exact placed_of_head (enterHoming_workOk left.scan left.std left.batch) (enterHoming_head _) rfl
  · -- RETURNING
    have moving := free (by rw [head]; exact HeadState.noConfusion) (by rw [head]; rfl)
      (by rw [head]; exact HeadState.noConfusion)
    split
    iterate 4 exact stay head rfl
    · exact stopping moving
    · exact homing (by rw [head]; exact HeadState.noConfusion)
  · -- STOPPING
    have moving := free (by rw [head]; exact HeadState.noConfusion) (by rw [head]; rfl)
      (by rw [head]; exact HeadState.noConfusion)
    split
    iterate 2 exact returning moving
    iterate 3 exact stay head rfl
    · exact homing (by rw [head]; exact HeadState.noConfusion)
  · exact stay head rfl
  · exact absurd head std
  iterate 2
    rw [head] at still
    cases still

end Sys2Proof.Proofs
end

section
/-!
PROOFS. What an apply does to the agreement of the blocks (R8, R66, R70, Table 1-5): the work and the head stay, or a head
of known position is taken to UNHOMED or FAULTED; a goal that is not told as changed is the goal as it was.
-/
namespace Sys2Proof.Proofs

open Sys2Proof.Machine Sys2Proof.Laws

-- One proof after another: threads that wait for each other count against the memory limit of the check.
set_option Elab.async false

variable {s t u v : State} {g : Goal}

/-! ## Operations that leave the work and the drive -/

theorem setAlarm_workSame (i : Fin 48) (e : AlarmEntry) (s : State) : WorkSame s (s.setAlarm i e) := by
  rw [setAlarm_frame]
  exact { }

theorem clearAlarm_workSame (i : Fin 48) (x : Option Int) (s : State) : WorkSame s (s.clearAlarm i x) := by
  unfold State.clearAlarm
  dsimp only
  split
  · exact (setAlarm_workSame i _ s).trans { }
  · exact setAlarm_workSame i _ s

theorem raiseAlarm_workSame (i : Fin 48) (x : Option Int) (s : State) : WorkSame s (s.raiseAlarm i x).2 := by
  unfold State.raiseAlarm
  dsimp only
  split
  · exact setAlarm_workSame i _ s
  · exact (setAlarm_workSame i _ s).trans { }

theorem recompute_workSame (ev : GoalEvent) (s : State) : WorkSame s (s.recompute ev).state := by
  rw [recompute_frame]
  exact { }

theorem setMiss_workSame (side : Side) (n : Nat) (s : State) : WorkSame s (s.setMiss side n) := by
  have set : WorkSame s (missSet side n s) := by cases side <;> exact { }
  rw [setMiss_eq]
  split
  · exact set.trans (clearAlarm_workSame _ _ _)
  · exact set

theorem foldl_workSame {α : Type} {f : State → α → State} (h : ∀ s a, WorkSame s (f s a)) (l : List α) (s : State) :
    WorkSame s (l.foldl f s) := by
  induction l generalizing s with
  | nil => exact .refl s
  | cons a l ih => exact (h s a).trans (ih _)

theorem ite_workSame {p : Prop} [Decidable p] (h : WorkSame s t) : WorkSame s (if p then t else s) := by
  split
  · exact h
  · exact .refl s

theorem applyStd_workSame (h : ApplyHandoff) (s : State) : WorkSame s (s.applyStd h) := by
  have ref : ∀ (v : State) (c : Fin 8), WorkSame v (v.applyRef h c) := fun v c => by
    have set : WorkSame v (v.setRef c { }) := { }
    unfold State.applyRef
    exact ite_workSame ((set.trans (clearAlarm_workSame _ _ _)).trans { })
  exact (foldl_workSame ref channels8 s).trans { }

theorem applyProfile_workSame (h : ApplyHandoff) (s : State) : WorkSame s (s.applyProfile h) := by
  have channels := foldl_workSame (f := fun s (c : Fin 8) => if h.unseeds c then s.unseed c.castSucc else s)
    (fun v c => ite_workSame { }) channels8 s
  unfold State.applyProfile
  dsimp only
  split
  · exact { }
  · exact channels.trans (ite_workSame { })

theorem applyConvert_workSame (h : ApplyHandoff) (s : State) : WorkSame s (s.applyConvert h) := by
  have channels := foldl_workSame (f := fun s (c : Fin 8) => if h.disabled c then s.liveDisable c.castSucc else s)
    (fun v c => ite_workSame { }) channels8 s
  unfold State.applyConvert
  exact channels.trans (ite_workSame { })

theorem resetEntry_workSame (i : Fin 48) (clear : Bool) (s : State) : WorkSame s (s.resetEntry i clear) := by
  unfold State.resetEntry
  split
  · exact clearAlarm_workSame _ _ s
  · exact setAlarm_workSame _ _ s

theorem applyLimits_workSame (h : ApplyHandoff) (s : State) : WorkSame s (s.applyLimits h) := by
  have drop : ∀ (v : State) (k : Fin 9), WorkSame v (v.dropChannel k) := fun v k =>
    foldl_workSame (fun v _ => resetEntry_workSame _ _ v) scanKinds v
  have limit : ∀ (v : State) (k : Fin 9), WorkSame v (v.applyLimit h k) := fun v k => by
    unfold State.applyLimit
    exact ite_workSame (foldl_workSame (fun v _ => resetEntry_workSame _ _ v) scanKinds v)
  have channels := (foldl_workSame limit channels9 s).trans
    (foldl_workSame (f := fun s (c : Fin 8) => if h.disabled c then s.dropChannel c.castSucc else s)
      (fun v c => ite_workSame (drop v _)) channels8 _)
  unfold State.applyLimits
  exact channels.trans (ite_workSame (drop _ _))

theorem setBreakState_workSame (b : BreakState) (s : State) : WorkSame s (s.setBreakState b) := by
  unfold State.setBreakState
  split
  · exact .refl s
  · exact { }

theorem takeWatch_workSame (s : State) : WorkSame s s.takeWatch.2 := by
  rw [takeWatch_frame]
  exact { }

theorem breakStart_workSame (s : State) : WorkSame s s.breakStart := by
  have numbered : WorkSame s
      (({ s with brk := { s.brk with number := s.brk.number + 1, latch := false } } : State).live 0x050
        (s.brk.number + 1)).clearCounts := { }
  exact numbered.trans (setBreakState_workSame _ _)

theorem declareAtApply_workSame (s : State) : WorkSame s s.declareAtApply.state :=
  ((breakStart_workSame s).trans (recompute_workSame .breakRaised _)).trans { }

theorem binResume_workSame (s : State) : WorkSame s s.binResume := by
  have counts := (setMiss_workSame .front 0 s).trans (setMiss_workSame .back 0 _)
  unfold State.binResume
  dsimp only
  split
  · exact counts.trans { }
  · exact counts.trans { }

theorem resumeCore_workSame (s : State) : WorkSame s s.resumeCore := by
  have cleared : WorkSame s s.clearCounts := { }
  exact ((cleared.trans (setBreakState_workSame _ _)).trans (binResume_workSame _)).trans { }

theorem applyBreak_workSame (h : ApplyHandoff) (s : State) : WorkSame s (s.applyBreak h).state := by
  have counts : WorkSame s (s.applyCounts h) := { }
  unfold State.applyBreak
  dsimp only
  split
  · exact (counts.trans (resumeCore_workSame _)).trans (recompute_workSame _ _)
  · split
    · exact (counts.trans (takeWatch_workSame _)).trans (declareAtApply_workSame _)
    · exact counts.trans (takeWatch_workSame _)

theorem gateIdle_workSame (s : State) : WorkSame s s.gateIdle := by
  rw [gateIdle_eq]
  exact { }

theorem acceptApply_workSame (s : State) : WorkSame s s.acceptApply := by
  have copy : WorkSame s ((({ s with mem := copied s, ex := { s.ex with
      generation := s.ex.generation + 1, gateResult := .accepted } } : State).liveWords 0x01C
        [(changedOffsets s).groupWord, (changedOffsets s).channelMask, s.ex.generation + 1]).liveWords 0x008
          [Result.accepted.code, 0]) := { }
  exact (copy.trans (gateIdle_workSame _)).trans { }

/-! ## The traverse controller's part -/

/-- A head of known position is lost: UNHOMED or FAULTED, D at 0, not homed. -/
structure PositionLost (s t : State) : Prop where
  known : s.trav.homed = true
  head : t.trav.head = .unhomed ∨ t.trav.head = .faulted
  homed : t.trav.homed = false
  duty : t.trav.duty = 0

/-- What an apply may do to the work and the drive: a batch is discarded, a head of known position is lost, and then no
batch runs. -/
structure Reacted (s t : State) : Prop where
  scan : t.bin.scan.isSome = s.bin.scan.isSome
  ctx : t.std.ctx.isSome = s.std.ctx.isSome
  life : t.ex.life = s.ex.life
  batch : t.bin.batch.isSome = s.bin.batch.isSome ∨ t.bin.batch = none
  drive : (t.trav.head = s.trav.head ∧ t.trav.homed = s.trav.homed ∧ t.trav.duty = s.trav.duty) ∨
    (PositionLost s t ∧ (s.trav.head = .holding ∨ s.bin.batch = none → t.bin.batch = none))

theorem WorkSame.reacted (same : WorkSame s t) : Reacted s t :=
  ⟨same.scan, same.ctx, same.life, .inl same.batch, .inl ⟨same.head, same.homed, same.duty⟩⟩

theorem Reacted.after (h : WorkSame s t) (r : Reacted t u) : Reacted s u := by
  refine ⟨r.scan.trans h.scan, r.ctx.trans h.ctx, r.life.trans h.life, r.batch.imp_left (·.trans h.batch), ?_⟩
  refine r.drive.imp (fun ⟨head, homed, duty⟩ => ⟨head.trans h.head, homed.trans h.homed, duty.trans h.duty⟩) ?_
  rintro ⟨lost, none⟩
  refine ⟨⟨h.homed ▸ lost.known, lost.head, lost.homed, lost.duty⟩, fun batch => none (batch.imp (h.head.trans ·) ?_)⟩
  intro empty
  have same := h.batch
  rw [empty] at same
  exact Option.not_isSome_iff_eq_none.1 (by rw [same]; exact Bool.false_ne_true)

theorem Reacted.before (r : Reacted s t) (h : WorkSame t u) : Reacted s u := by
  have none : t.bin.batch = none → u.bin.batch = none := fun empty => by
    have same := h.batch
    rw [empty] at same
    exact Option.not_isSome_iff_eq_none.1 (by rw [same]; exact Bool.false_ne_true)
  refine ⟨h.scan.trans r.scan, h.ctx.trans r.ctx, h.life.trans r.life, r.batch.imp (h.batch.trans ·) none, ?_⟩
  refine r.drive.imp (fun ⟨head, homed, duty⟩ => ⟨h.head.trans head, h.homed.trans homed, h.duty.trans duty⟩) ?_
  rintro ⟨lost, batch⟩
  exact ⟨⟨lost.known, lost.head.imp (h.head.trans ·) (h.head.trans ·), h.homed.trans lost.homed, h.duty.trans lost.duty⟩,
    none ∘ batch⟩

theorem Reacted.idle (r : Reacted s t) (idle : Idle s) : Idle t := by
  have scan := r.scan
  have ctx := r.ctx
  rw [idle.scan] at scan
  rw [idle.std] at ctx
  have scan' : t.bin.scan = none := Option.not_isSome_iff_eq_none.1 (by rw [scan]; exact Bool.false_ne_true)
  have ctx' : t.std.ctx = none := Option.not_isSome_iff_eq_none.1 (by rw [ctx]; exact Bool.false_ne_true)
  rcases r.drive with ⟨head, homed, duty⟩ | ⟨lost, none⟩
  · refine ⟨scan', ctx', fun some => ?_, by rw [head, duty]; exact idle.rest, by rw [head, homed]; exact idle.homed⟩
    rw [head]
    rcases r.batch with same | none
    · exact idle.batch (same ▸ some)
    · rw [none] at some; cases some
  · have empty : t.bin.batch = .none := none (by
      by_cases holding : s.trav.head = .holding
      · exact .inl holding
      · exact .inr (no_batch idle.batch holding))
    refine ⟨scan', ctx', by rw [empty]; exact nofun, fun _ => lost.duty, fun _ => ?_⟩
    rw [lost.homed]
    rcases lost.head with head | head <;> rw [head] <;> rfl

/-- The head after an apply is the head before it, or one whose position is lost. -/
theorem Reacted.head (r : Reacted s t) :
    t.trav.head = s.trav.head ∨ t.trav.head = .unhomed ∨ t.trav.head = .faulted :=
  r.drive.imp (·.1) (·.1.head)

theorem enterUnhomed_lost (known : s.trav.homed = true) : PositionLost s s.enterUnhomed :=
  ⟨known, .inl (enterUnhomed_head s), State.setHead_homed .., State.setHead_duty ..⟩

theorem enterFaulted_drive (cause : FaultCause) (s : State) :
    (s.enterFaulted cause).trav.head = .faulted ∧ (s.enterFaulted cause).trav.homed = false ∧
      (s.enterFaulted cause).trav.duty = 0 :=
  ⟨setHead_head _ _, State.setHead_homed .., State.setHead_duty ..⟩

theorem enterFaulted_frame (cause : FaultCause) (s : State) :
    (s.enterFaulted cause).bin = s.bin ∧ (s.enterFaulted cause).std = s.std ∧ (s.enterFaulted cause).arb = s.arb ∧
      (s.enterFaulted cause).link = s.link ∧ (s.enterFaulted cause).ex.life = s.ex.life ∧
      (s.enterFaulted cause).ex.reqMode = s.ex.reqMode ∧ (s.enterFaulted cause).brk = s.brk := by
  unfold State.enterFaulted
  dsimp only
  refine ⟨State.setHead_bin .., State.setHead_std .., State.setHead_arb .., State.setHead_link .., ?_, ?_,
    State.setHead_brk ..⟩
  · show (State.setHead _ _).ex.life = _
    rw [State.setHead_ex]
  · show (State.setHead _ _).ex.reqMode = _
    rw [State.setHead_ex]

/-- The traverse controller leaves the work, and the head or its position (R66, R70). -/
theorem applyTraverse_drive (h : ApplyHandoff) (s : State) :
    ((s.applyTraverse h).bin = s.bin ∧ (s.applyTraverse h).std = s.std ∧ (s.applyTraverse h).ex.life = s.ex.life) ∧
      ((s.applyTraverse h).trav = s.trav ∨ PositionLost s (s.applyTraverse h)) := by
  by_cases sense : (h.changes.has 0x058 && s.trav.homed) = true
  · have known := (Bool.and_eq_true_iff.1 sense).2
    have homed : s.enterUnhomed.trav.homed = false := State.setHead_homed ..
    have whole : s.applyTraverse h = s.enterUnhomed := by
      unfold State.applyTraverse
      rw [if_pos sense]
      dsimp only
      rw [State.overtravelled, homed, Bool.false_and, Bool.false_and, Bool.and_false, if_neg Bool.false_ne_true]
    rw [whole]
    exact ⟨⟨State.enterUnhomed_bin s, State.enterUnhomed_std s, by rw [State.enterUnhomed_ex]⟩,
      .inr (enterUnhomed_lost known)⟩
  · unfold State.applyTraverse
    rw [if_neg sense]
    dsimp only
    split
    · rename_i outside
      have known : s.trav.homed = true := by
        have travelled := (Bool.and_eq_true_iff.1 outside).2
        unfold State.overtravelled at travelled
        exact (Bool.and_eq_true_iff.1 (Bool.and_eq_true_iff.1 travelled).1).1
      obtain ⟨bin, std, -, -, life, -⟩ := enterFaulted_frame .overtravel s
      obtain ⟨head, homed, duty⟩ := enterFaulted_drive .overtravel s
      exact ⟨⟨bin, std, life⟩, .inr ⟨known, .inr head, homed, duty⟩⟩
    · exact ⟨⟨rfl, rfl, rfl⟩, .inl rfl⟩

/-- The binning unit discards the batch of a HOLDING head, and leaves the rest of the work (R136). -/
theorem applyBinning_work (h : ApplyHandoff) (s : State) :
    (s.applyBinning h).trav = s.trav ∧ (s.applyBinning h).std.ctx.isSome = s.std.ctx.isSome ∧
      (s.applyBinning h).bin.scan.isSome = s.bin.scan.isSome ∧ (s.applyBinning h).ex.life = s.ex.life ∧
      ((s.applyBinning h).bin.batch.isSome = s.bin.batch.isSome ∨ (s.applyBinning h).bin.batch = none) ∧
      (s.trav.head = .holding ∨ s.bin.batch = none → (s.applyBinning h).bin.batch = none) := by
  have trav : (s.applyBinning h).trav = s.trav := by
    unfold State.applyBinning
    dsimp only
    split <;> split <;> simp only [setMiss_trav, State.setEdges_trav, State.discardBatch_trav]
  have edges : ∀ u : State, WorkSame u
      (if h.changes.plan then ((u.setEdges h.after.eFront h.after.eBack).setMiss .front 0).setMiss .back 0 else u) :=
    fun u => by
      have set : WorkSame u (u.setEdges h.after.eFront h.after.eBack) := { }
      exact ite_workSame ((set.trans (setMiss_workSame _ _ _)).trans (setMiss_workSame _ _ _))
  have empty : ∀ u v : State, WorkSame u v → u.bin.batch = none → v.bin.batch = none := fun u v same none => by
    have batch := same.batch
    rw [none] at batch
    exact Option.not_isSome_iff_eq_none.1 (by rw [batch]; exact Bool.false_ne_true)
  refine ⟨trav, ?_⟩
  unfold State.applyBinning
  dsimp only
  by_cases holding : s.trav.head = .holding
  · rw [if_pos holding]
    have same := edges s.discardBatch
    have none := empty _ _ same rfl
    exact ⟨same.ctx, same.scan, same.life, .inr none, fun _ => none⟩
  · rw [if_neg holding]
    have same := edges s
    exact ⟨same.ctx, same.scan, same.life, .inl same.batch, fun batch => empty _ _ same (batch.resolve_left holding)⟩

theorem applyReactions_reacted (h : ApplyHandoff) (s : State) : Reacted s (s.applyReactions h).state := by
  let u := (s.applyLink h).applyBinning h
  let v := u.applyTraverse h
  have link : WorkSame s (s.applyLink h) := by
    unfold State.applyLink
    exact ite_workSame { }
  obtain ⟨trav, ctx, scan, life, batch, none⟩ := applyBinning_work h (s.applyLink h)
  obtain ⟨⟨bin, std, life'⟩, drive⟩ := applyTraverse_drive h u
  have here : Reacted (s.applyLink h) v := by
    refine ⟨by rw [bin]; exact scan, by rw [std]; exact ctx, life'.trans life, by rw [bin]; exact batch, ?_⟩
    refine drive.imp (fun same => ?_) fun lost => ⟨⟨?_, lost.head, lost.homed, lost.duty⟩, fun b => by rw [bin]; exact none b⟩
    · rw [same, trav]
      exact ⟨rfl, rfl, rfl⟩
    · rw [← trav]
      exact lost.known
  have later : WorkSame v (s.applyReactions h).state :=
    ((((applyStd_workSame h v).trans (applyProfile_workSame h _)).trans (applyConvert_workSame h _)).trans
      (applyLimits_workSame h _)).trans ((recompute_workSame .other _).trans (applyBreak_workSame h _))
  exact (Reacted.after link here).before later

theorem applyTake_reacted (s : State) : Reacted s s.applyTake.state := by
  cases check : validatePage s.staged with
  | some f =>
    obtain ⟨code, off⟩ := f
    rw [applyTake_refused s check]
    show Reacted s (s.refuseApply code off)
    rw [refuseApply_eq]
    exact WorkSame.reacted { }
  | none =>
    rw [applyTake_accepted s check]
    exact .after (acceptApply_workSame s) (applyReactions_reacted _ _)

theorem applyPoint_reacted (s : State) : Reacted s s.applyPoint.state := by
  cases pending : s.ex.applyPending with
  | false => rw [applyPoint_idle s pending]; exact (WorkSame.refl s).reacted
  | true => rw [applyPoint_pending s pending]; exact applyTake_reacted s

/-! ## A goal that did not change -/

theorem recompute_goal_same {ev : GoalEvent} (same : (s.recompute ev).changed = false) :
    (s.recompute ev).state.arb.goal = s.arb.goal := by
  rw [recompute_unchanged s ev same]

/-- An operation that does not touch the goal record. -/
theorem foldl_arb {α : Type} {f : State → α → State} (h : ∀ s a, (f s a).arb = s.arb) (l : List α) (s : State) :
    (l.foldl f s).arb = s.arb := by
  induction l generalizing s with
  | nil => rfl
  | cons a l ih => exact (ih _).trans (h s a)

theorem ite_arb {p : Prop} [Decidable p] (h : t.arb = s.arb) : (if p then t else s).arb = s.arb := by
  split
  · exact h
  · rfl

theorem setMiss_arb (side : Side) (n : Nat) (s : State) : (s.setMiss side n).arb = s.arb := by
  have set : (missSet side n s).arb = s.arb := by cases side <;> rfl
  rw [setMiss_eq]
  split
  · rw [State.clearAlarm_arb, set]
  · exact set

theorem applyLink_arb (h : ApplyHandoff) (s : State) : (s.applyLink h).arb = s.arb := ite_arb rfl

theorem applyBinning_arb (h : ApplyHandoff) (s : State) : (s.applyBinning h).arb = s.arb := by
  unfold State.applyBinning
  dsimp only
  split <;> split <;> simp only [setMiss_arb, State.setEdges_arb, State.discardBatch_arb]

theorem applyTraverse_arb (h : ApplyHandoff) (s : State) : (s.applyTraverse h).arb = s.arb := by
  unfold State.applyTraverse
  dsimp only
  split <;> split <;> simp only [(enterFaulted_frame _ _).2.2.1, State.enterUnhomed_arb]

theorem applyStd_arb (h : ApplyHandoff) (s : State) : (s.applyStd h).arb = s.arb := by
  have ref : ∀ (v : State) (c : Fin 8), (v.applyRef h c).arb = v.arb := fun v c => by
    unfold State.applyRef
    exact ite_arb (by rw [State.setUntried_arb, State.clearAlarm_arb, State.setRef_arb])
  unfold State.applyStd
  rw [State.tellDue_arb]
  exact foldl_arb ref channels8 s

theorem applyProfile_arb (h : ApplyHandoff) (s : State) : (s.applyProfile h).arb = s.arb := by
  have channels := foldl_arb (f := fun s (c : Fin 8) => if h.unseeds c then s.unseed c.castSucc else s)
    (fun v c => ite_arb (State.unseed_arb v _)) channels8 s
  unfold State.applyProfile
  dsimp only
  split
  · exact State.unseedAll_arb s
  · exact (ite_arb (State.unseed_arb ..)).trans channels

theorem applyConvert_arb (h : ApplyHandoff) (s : State) : (s.applyConvert h).arb = s.arb := by
  have channels := foldl_arb (f := fun s (c : Fin 8) => if h.disabled c then s.liveDisable c.castSucc else s)
    (fun v c => ite_arb (State.liveDisable_arb v _)) channels8 s
  unfold State.applyConvert
  exact (ite_arb (State.liveDisable_arb ..)).trans channels

theorem resetEntry_arb (i : Fin 48) (clear : Bool) (s : State) : (s.resetEntry i clear).arb = s.arb := by
  unfold State.resetEntry
  split
  · exact State.clearAlarm_arb ..
  · exact State.setAlarm_arb ..

theorem applyLimits_arb (h : ApplyHandoff) (s : State) : (s.applyLimits h).arb = s.arb := by
  have drop : ∀ (v : State) (k : Fin 9), (v.dropChannel k).arb = v.arb := fun v k =>
    foldl_arb (fun v _ => resetEntry_arb _ _ v) scanKinds v
  have limit : ∀ (v : State) (k : Fin 9), (v.applyLimit h k).arb = v.arb := fun v k => by
    unfold State.applyLimit
    exact ite_arb (foldl_arb (fun v _ => resetEntry_arb _ _ v) scanKinds v)
  have channels := (foldl_arb (f := fun s (c : Fin 8) => if h.disabled c then s.dropChannel c.castSucc else s)
      (fun v c => ite_arb (drop v _)) channels8 _).trans (foldl_arb limit channels9 s)
  unfold State.applyLimits
  exact (ite_arb (drop _ _)).trans channels

theorem breakStart_arb (s : State) : s.breakStart.arb = s.arb := State.setBreakState_arb ..

theorem takeWatch_arb (s : State) : s.takeWatch.2.arb = s.arb := by rw [takeWatch_frame]

theorem binResume_arb (s : State) : s.binResume.arb = s.arb := by
  unfold State.binResume
  dsimp only
  split <;> simp only [State.setEdges_arb, setMiss_arb]

theorem resumeCore_arb (s : State) : s.resumeCore.arb = s.arb := by
  unfold State.resumeCore
  rw [State.setNotice_arb, State.writeResumeTime_arb, State.unseedAll_arb, binResume_arb, State.setBreakState_arb,
    State.clearCounts_arb]

theorem declareAtApply_goal_same (same : s.declareAtApply.changed = false) :
    s.declareAtApply.state.arb.goal = s.arb.goal := by
  have arb : s.declareAtApply.state.arb = (s.breakStart.recompute .breakRaised).state.arb := rfl
  have handed : (s.breakStart.recompute .breakRaised).changed = false := same
  rw [arb, recompute_goal_same handed, breakStart_arb]

theorem applyBreak_goal_same {h : ApplyHandoff} (same : (s.applyBreak h).changed = false) :
    (s.applyBreak h).state.arb.goal = s.arb.goal := by
  have counts : (s.applyCounts h).arb = s.arb := rfl
  revert same
  unfold State.applyBreak
  dsimp only
  split
  · intro same
    rw [recompute_goal_same same, resumeCore_arb, counts]
  · split
    · intro same
      rw [declareAtApply_goal_same same, takeWatch_arb, counts]
    · intro _
      dsimp only
      rw [takeWatch_arb, counts]

theorem acceptApply_arb (s : State) : s.acceptApply.arb = s.arb := by
  unfold State.acceptApply
  rw [State.setNotice_arb, State.gateIdle_arb]
  rfl

/-- An apply that does not tell of a change leaves the goal (R73). -/
theorem applyTake_goal_same (same : s.applyTake.changed = false) : s.applyTake.state.arb.goal = s.arb.goal := by
  revert same
  cases check : validatePage s.staged with
  | some f =>
    obtain ⟨code, off⟩ := f
    rw [applyTake_refused s check]
    intro _
    show (s.refuseApply code off).arb.goal = _
    rw [refuseApply_eq]
  | none =>
    rw [applyTake_accepted s check]
    intro same
    obtain ⟨first, second⟩ := Bool.or_eq_false_iff.1 same
    refine (applyBreak_goal_same second).trans ((recompute_goal_same first).trans ?_)
    rw [applyLimits_arb, applyConvert_arb, applyProfile_arb, applyStd_arb, applyTraverse_arb, applyBinning_arb,
      applyLink_arb, acceptApply_arb]

theorem applyPoint_goal_same (same : s.applyPoint.changed = false) : s.applyPoint.state.arb.goal = s.arb.goal := by
  revert same
  cases pending : s.ex.applyPending with
  | false => rw [applyPoint_idle s pending]; exact fun _ => rfl
  | true => rw [applyPoint_pending s pending]; exact applyTake_goal_same

end Sys2Proof.Proofs
end

section
/-!
PROOFS. The operations of an event keep the agreement of the blocks: the head under the goal in force, aborts, faults,
breaks, arrivals, the ends of a standardize, the link (R54 to R67, R73, R117, R119).
-/
namespace Sys2Proof.Proofs

open Sys2Proof.Machine Sys2Proof.Laws

-- One proof after another: threads that wait for each other count against the memory limit of the check.
set_option Elab.async false

variable {s t u v : State} {g : Goal}

/-! ## The agreement inside an event -/

/-- The work agrees with the head, and the goal in force allows the head where it is. -/
structure Works (s : State) : Prop where
  ready : s.ex.life = .ready
  work : WorkOk s
  allowed : allows s.arb.goal s.trav.head = true

/-- The agreement that an event keeps: the goal is the claims' too (R73). -/
structure Agrees (s : State) : Prop extends Works s where
  fits : GoalFits s

/-- What the claims are read from, and the goal, are as they were (R74). -/
structure ClaimsSame (s t : State) : Prop where
  goal : t.arb.goal = s.arb.goal := by rfl
  request : t.ex.reqMode = s.ex.reqMode := by rfl
  park : t.arb.panelPark = s.arb.panelPark := by rfl
  up : t.link.up = s.link.up := by rfl
  stdNow : t.std.stdNow = s.std.stdNow := by rfl
  due : t.std.due = s.std.due := by rfl
  broken : t.brk.state = s.brk.state := by rfl

/-- An operation beside the agreement: it touches nothing that the agreement reads. -/
structure Aside (s t : State) : Prop extends WorkSame s t, ClaimsSame s t

theorem Aside.refl (s : State) : Aside s s := { }

theorem Aside.trans (h1 : Aside s t) (h2 : Aside t u) : Aside s u :=
  { h1.toWorkSame.trans h2.toWorkSame with
    goal := h2.goal.trans h1.goal, request := h2.request.trans h1.request, park := h2.park.trans h1.park
    up := h2.up.trans h1.up, stdNow := h2.stdNow.trans h1.stdNow, due := h2.due.trans h1.due
    broken := h2.broken.trans h1.broken }

theorem Aside.fits (h : Aside s t) (fits : GoalFits s) : GoalFits t := by
  unfold GoalFits
  rw [claimedGoal_congr (breakDemand_congr h.broken) (linkDemand_congr h.life h.up) h.park h.request h.stdNow h.due,
    h.goal]
  exact fits

theorem Works.congr (works : Works s) (same : WorkSame s t) (goal : t.arb.goal = s.arb.goal) : Works t :=
  ⟨same.life.trans works.ready, works.work.congr same, by rw [goal, same.head]; exact works.allowed⟩

theorem Agrees.aside (agrees : Agrees s) (aside : Aside s t) : Agrees t :=
  ⟨agrees.toWorks.congr aside.toWorkSame aside.goal, aside.fits agrees.fits⟩

/-! ## Operations beside the agreement -/

theorem setAlarm_aside (i : Fin 48) (e : AlarmEntry) (s : State) : Aside s (s.setAlarm i e) := by
  rw [setAlarm_frame]
  exact { }

theorem clearAlarm_aside (i : Fin 48) (x : Option Int) (s : State) : Aside s (s.clearAlarm i x) := by
  unfold State.clearAlarm
  dsimp only
  split
  · exact (setAlarm_aside i _ s).trans { }
  · exact setAlarm_aside i _ s

theorem raiseAlarm_aside (i : Fin 48) (x : Option Int) (s : State) : Aside s (s.raiseAlarm i x).2 := by
  unfold State.raiseAlarm
  dsimp only
  split
  · exact setAlarm_aside i _ s
  · exact (setAlarm_aside i _ s).trans { }

theorem produce_aside (hd : RecHeader) (body : List Word) (s : State) : Aside s (s.produce hd body) := by
  rw [produce_eq]
  split <;> exact { }

theorem ite_aside {p : Prop} [Decidable p] (h : Aside s t) : Aside s (if p then t else s) := by
  split
  · exact h
  · exact .refl s

theorem foldl_aside {α : Type} {f : State → α → State} (h : ∀ s a, Aside s (f s a)) (l : List α) (s : State) :
    Aside s (l.foldl f s) := by
  induction l generalizing s with
  | nil => exact .refl s
  | cons a l ih => exact (h s a).trans (ih _)

/-- A fold over a pair whose state component stays beside the agreement. -/
theorem foldl_snd_aside {α β : Type} {f : β × State → α → β × State} (h : ∀ acc a, Aside acc.2 (f acc a).2) (l : List α)
    (acc : β × State) : Aside acc.2 (l.foldl f acc).2 := by
  induction l generalizing acc with
  | nil => exact .refl _
  | cons a l ih => exact (h acc a).trans (ih _)

theorem setMiss_aside (side : Side) (n : Nat) (s : State) : Aside s (s.setMiss side n) := by
  have set : Aside s (missSet side n s) := by cases side <;> exact { }
  rw [setMiss_eq]
  split
  · exact set.trans (clearAlarm_aside _ _ _)
  · exact set

/-! ## The head takes a goal -/

theorem takeGoalStill_agrees (ready : s.ex.life = .ready) (fits : GoalFits s) (idle : Idle s)
    (still : s.trav.head.traversing = false) (std : s.trav.head ≠ .standardizing) (p e : Bool) :
    Agrees (s.takeGoalStill p e) := by
  have kept := takeGoalStill_kept p e s
  have placed := takeGoalStill_placed idle still std p e
  exact
    { ready := by rw [kept.ex]; exact ready
      work := placed.work
      allowed := by rw [kept.arb]; exact placed.allowed
      fits := kept.fits fits }

/-- A head whose position is lost is neither on a traverse nor STANDARDIZING. -/
theorem still_of_head {h : HeadState} (head : s.trav.head = h) (still : h.traversing = false) (std : h ≠ .standardizing) :
    s.trav.head.traversing = false ∧ s.trav.head ≠ .standardizing := by
  rw [head]
  exact ⟨still, std⟩

/-- After an apply in an event of its own, or at the end of a standardize, the head takes what changed (R55, R70, R73). -/
theorem settle_agrees {r : Recomputed} (ready : r.state.ex.life = .ready) (fits : GoalFits r.state) (idle : Idle r.state)
    (still : r.state.trav.head.traversing = false) (std : r.state.trav.head ≠ .standardizing)
    (allowed : r.changed = false → r.state.trav.head ≠ .unhomed → allows r.state.arb.goal r.state.trav.head = true) :
    Agrees r.settle := by
  unfold Recomputed.settle
  split
  · exact takeGoalStill_agrees ready fits idle still std _ _
  · rename_i rest
    obtain ⟨same, homed⟩ := not_or.1 rest
    exact ⟨⟨ready, idle.workOk still std, allowed (Bool.eq_false_iff.2 same) homed⟩, fits⟩

theorem traversing_iff {h : HeadState} : h.traversing = true ↔ h = .outbound ∨ h = .inbound := by
  cases h <;> decide

theorem enterAborted_workOk (free : Free s) (scan : g ≠ .scan) (std : g ≠ .standardize) : WorkOk (s.enterAborted g) := by
  cases g with
  | park => exact enterReturning_workOk free
  | stop => exact enterStopping_workOk free
  | home => exact enterHoming_workOk free.scan free.std free.batch
  | hold => exact enterMovingToHold_workOk free
  | scan => exact absurd rfl scan
  | standardize => exact absurd rfl std

/-- Where a goal that aborts a scan sends the head, it allows it (R61). -/
theorem abortedHead_placed (scan : g ≠ .scan) (std : g ≠ .standardize) :
    (abortedHead g).traversing = false ∧ abortedHead g ≠ .standardizing ∧ allows g (abortedHead g) = true := by
  cases g with
  | scan => exact absurd rfl scan
  | standardize => exact absurd rfl std
  | park | stop | home | hold => exact ⟨rfl, HeadState.noConfusion, rfl⟩

/-- What follows the apply point of an abort (R61, R66, R70). -/
theorem thenEnter_agrees {r : Recomputed} (ready : r.state.ex.life = .ready) (fits : GoalFits r.state)
    (idle : Idle r.state)
    (head : r.state.trav.head = .unhomed ∨ r.state.trav.head = .faulted ∨ r.state.trav.head.traversing = true)
    (same : r.changed = false → r.state.arb.goal = g) (scan : g ≠ .scan) (std : g ≠ .standardize) :
    Agrees (r.thenEnter (State.enterAborted g)) := by
  rcases head with head | head | head
  · obtain ⟨still, other⟩ := still_of_head head rfl HeadState.noConfusion
    have whole : r.thenEnter (State.enterAborted g) = r.state.takeGoalStill r.posChanged false := by
      rw [Recomputed.thenEnter, head]
    rw [whole]
    exact takeGoalStill_agrees ready fits idle still other _ _
  · obtain ⟨still, other⟩ := still_of_head head rfl HeadState.noConfusion
    have whole : r.thenEnter (State.enterAborted g) = r.state := by rw [Recomputed.thenEnter, head]
    rw [whole]
    exact ⟨⟨ready, idle.workOk still other, by rw [head]; rfl⟩, fits⟩
  · have whole : r.thenEnter (State.enterAborted g) = if r.changed then
        (r.state.enterAborted g).takeGoalStill r.posChanged false else r.state.enterAborted g := by
      unfold Recomputed.thenEnter
      split <;> rename_i h <;> rw [h] at head <;> first | rfl | cases head
    have free : Free r.state := by
      refine idle.free ?_ ?_ ?_ <;> revert head <;> cases r.state.trav.head <;> decide
    have kept := (enterAborted_move g r.state).kept
    have entered := enterAborted_head scan std r.state
    obtain ⟨still, other, allowed⟩ := abortedHead_placed scan std
    rw [← entered] at still other
    have work := enterAborted_workOk free scan std
    have ready' : (r.state.enterAborted g).ex.life = .ready := by rw [kept.ex]; exact ready
    rw [whole]
    split
    · exact takeGoalStill_agrees ready' (kept.fits fits) (work.idle still other) still other _ _
    · rename_i unchanged
      refine ⟨⟨ready', work, ?_⟩, kept.fits fits⟩
      rw [kept.arb, same (Bool.eq_false_iff.2 unchanged), entered]
      exact allowed

/-- The abort of the open scan leaves the head where it is, with no work (R132). -/
theorem abortScan_idle (work : WorkOk s) (head : s.trav.head.traversing = true) (outcome : RecOutcome) :
    Idle (s.abortScan outcome) ∧ (s.abortScan outcome).trav = s.trav := by
  obtain ⟨ctx, found⟩ := Option.isSome_iff_exists.1 (work.scan.trans head)
  have other : s.trav.head ≠ .standardizing := fun e => by rw [e] at head; cases head
  have std : s.std.ctx = none :=
    Option.not_isSome_iff_eq_none.1 (by rw [work.std, decide_eq_false other]; exact Bool.false_ne_true)
  have trav : (s.abortScan outcome).trav = s.trav := by
    rw [abortScan_some found]
    exact State.produce_trav ..
  refine ⟨⟨?_, ?_, ?_, by rw [trav]; exact work.rest, by rw [trav]; exact work.homed⟩, trav⟩
  · rw [abortScan_some found]
    rfl
  · rw [(abortScan_kept outcome s).std]
    exact std
  · rw [trav, abortScan_some found]
    show (s.profileAbort ctx outcome).bin.batch.isSome = true → _
    rw [State.profileAbort, State.produce_bin]
    exact work.batch

theorem abortForGoal_agrees (work : WorkOk s) (ready : s.ex.life = .ready) (fits : GoalFits s)
    (head : s.trav.head.traversing = true) (scan : s.arb.goal ≠ .scan) (std : s.arb.goal ≠ .standardize) :
    Agrees s.abortForGoal := by
  obtain ⟨idle, trav⟩ := abortScan_idle work head s.arb.cause.outcome
  have kept := abortScan_kept s.arb.cause.outcome s
  have reacted := applyPoint_reacted (s.abortScan s.arb.cause.outcome)
  refine thenEnter_agrees ?_ (applyPoint_fits (kept.fits fits)) (reacted.idle idle) ?_ (fun same => ?_) scan std
  · rw [reacted.life, kept.ex]
    exact ready
  · rcases reacted.head with same | lost | lost
    · rw [same, trav]
      exact .inr (.inr head)
    · exact .inl lost
    · exact .inr (.inl lost)
  · rw [applyPoint_goal_same same, kept.arb]

/-- An end of a standardize leaves the scan, the batch and the drive. -/
theorem stdEarlyEnd_work (outcome : RecOutcome) (result : StdResult) (s : State) :
    (s.stdEarlyEnd outcome result).std.ctx = none ∧ (s.stdEarlyEnd outcome result).bin = s.bin ∧
      (s.stdEarlyEnd outcome result).trav = s.trav ∧ (s.stdEarlyEnd outcome result).ex.life = s.ex.life := by
  unfold State.stdEarlyEnd
  split
  · rename_i none
    exact ⟨none, rfl, rfl, rfl⟩
  · exact ⟨rfl, State.produce_bin .., State.produce_trav .., (produce_aside _ _ s).life⟩

/-- The work of a STANDARDIZING head is its standardize alone. -/
theorem WorkOk.standardizing (work : WorkOk s) (head : s.trav.head = .standardizing) :
    s.bin.scan = none ∧ s.bin.batch = none ∧ s.trav.duty = 0 ∧ s.trav.homed = true :=
  ⟨Option.not_isSome_iff_eq_none.1 (by rw [work.scan, head]; exact Bool.false_ne_true),
    no_batch work.batch (by rw [head]; exact HeadState.noConfusion), work.rest (by rw [head]; rfl),
    (work.homed (by rw [head]; exact HeadState.noConfusion)).trans (by rw [head]; rfl)⟩

theorem abandonForHome_agrees (work : WorkOk s) (ready : s.ex.life = .ready) (head : s.trav.head = .standardizing) :
    Agrees s.abandonForHome := by
  obtain ⟨scan, batch, -, -⟩ := work.standardizing head
  obtain ⟨ctx, bin, trav, life⟩ := stdEarlyEnd_work .aborted .abandoned s
  let u := (s.stdEarlyEnd .aborted .abandoned).enterHoming
  have homing : u.trav.head = .homing := enterHoming_head _
  have entered : WorkOk u := enterHoming_workOk (by rw [bin]; exact scan) ctx (by rw [bin]; exact batch)
  have idle : Idle u := entered.idle (by rw [homing]; rfl) (by rw [homing]; exact HeadState.noConfusion)
  have reacted := applyPoint_reacted u
  have same := recompute_workSame .other u.applyPoint.state
  obtain ⟨changed, posChanged, whole⟩ := abandonForHome_eq s
  have lost : (u.applyPoint.state.recompute .other).state.trav.head = .homing ∨
      (u.applyPoint.state.recompute .other).state.trav.head = .unhomed ∨
      (u.applyPoint.state.recompute .other).state.trav.head = .faulted := by
    rw [same.head]
    exact reacted.head.imp_left (·.trans homing)
  rw [whole]
  refine settle_agrees ?_ (recompute_fits _ _) ((reacted.idle idle).congr same) ?_ ?_ fun _ homed => ?_
  · rw [same.life, reacted.life, (enterHoming_kept _).ex]
    exact life.trans ready
  · rcases lost with e | e | e <;> rw [e] <;> rfl
  · rcases lost with e | e | e <;> rw [e] <;> exact HeadState.noConfusion
  · rcases lost with e | e | e
    · rw [e]; rfl
    · exact absurd e homed
    · rw [e]; rfl

/-- The head takes a new goal (R54, R61, R62). -/
theorem takeGoal_agrees (work : WorkOk s) (ready : s.ex.life = .ready) (fits : GoalFits s) (p : Bool) :
    Agrees (s.takeGoal p) := by
  have abort : s.trav.head.traversing = true → s.arb.goal ≠ .scan → s.arb.goal ≠ .standardize → Agrees s.abortForGoal :=
    abortForGoal_agrees work ready fits
  have still : s.trav.head.traversing = false → s.trav.head ≠ .standardizing → Agrees (s.takeGoalStill p false) :=
    fun still std => takeGoalStill_agrees ready fits (work.idle still std) still std _ _
  unfold State.takeGoal
  split <;> rename_i head
  iterate 2
    split <;> rename_i goal
    iterate 2 exact ⟨⟨ready, work, by rw [head, goal]; rfl⟩, fits⟩
    iterate 4 exact abort (by rw [head]; rfl) (by rw [goal]; exact Goal.noConfusion) (by rw [goal]; exact Goal.noConfusion)
  · split
    · exact abandonForHome_agrees work ready head
    · exact ⟨⟨ready, work, by rw [head]; rfl⟩, fits⟩
  all_goals exact still (by rw [head]; rfl) (by rw [head]; exact HeadState.noConfusion)

/-- Handing the goal restores the agreement wherever the claims may have moved (R73). -/
theorem handGoal_agrees (works : Works s) (ev : GoalEvent) : Agrees (s.handGoal ev) := by
  have same := recompute_workSame ev s
  have ready : (s.recompute ev).state.ex.life = .ready := same.life.trans works.ready
  rcases handGoal_cases s ev with ⟨unchanged, e⟩ | ⟨-, e⟩
  · rw [e]
    exact ⟨works.congr same (recompute_goal_same unchanged), recompute_fits ev s⟩
  · rw [e]
    exact takeGoal_agrees (works.work.congr same) ready (recompute_fits ev s) _

/-! ## The apply in an event of its own -/

theorem applyNow_agrees (agrees : Agrees s) (point : s.atApplyPoint = true) : Agrees s.applyNow := by
  obtain ⟨scan, std⟩ := Bool.and_eq_true_iff.1 point
  have other : s.trav.head ≠ .standardizing := of_decide_eq_true std
  have still : s.trav.head.traversing = false := by
    rw [← agrees.work.scan, Option.isNone_iff_eq_none.1 scan]
    rfl
  have reacted := applyTake_reacted s
  have idle := agrees.work.idle still other
  have lost : s.applyTake.state.trav.head.traversing = false ∧ s.applyTake.state.trav.head ≠ .standardizing := by
    rcases reacted.head with e | e | e <;> rw [e]
    · exact ⟨still, other⟩
    · exact ⟨rfl, HeadState.noConfusion⟩
    · exact ⟨rfl, HeadState.noConfusion⟩
  refine settle_agrees (reacted.life.trans agrees.ready) (applyTake_fits agrees.fits) (reacted.idle idle) lost.1 lost.2
    fun same homed => ?_
  rcases reacted.head with e | e | e
  · rw [applyTake_goal_same same, e]
    exact agrees.allowed
  · exact absurd e homed
  · rw [e]; rfl

theorem applyWrite_agrees (agrees : Agrees s) : Agrees s.applyWrite := by
  unfold State.applyWrite
  split
  · exact agrees.aside { }
  · split
    · rename_i point
      exact applyNow_agrees agrees point
    · exact agrees.aside { }

theorem ite_agrees {p : Prop} [Decidable p] (agrees : Agrees s) (h : p → Agrees t) : Agrees (if p then t else s) := by
  split
  · rename_i hp
    exact h hp
  · exact agrees

/-! ## The ends of a standardize -/

/-- What follows the record of an end that leaves the head PARKED (R62, R117, R119). -/
theorem parkAfterStd_agrees (ready : s.ex.life = .ready) (free : Free s) (duty : s.trav.duty = 0) :
    Agrees s.parkAfterStd := by
  have parked := enterParked_head s
  have entered := enterParked_workOk free duty
  have idle : Idle s.enterParked := entered.idle (by rw [parked]; rfl) (by rw [parked]; exact HeadState.noConfusion)
  have reacted := applyPoint_reacted s.enterParked
  have same := recompute_workSame .other s.enterParked.applyPoint.state
  have head : (s.enterParked.applyPoint.state.recompute .other).state.trav.head.traversing = false ∧
      (s.enterParked.applyPoint.state.recompute .other).state.trav.head ≠ .standardizing := by
    rw [same.head]
    rcases reacted.head with e | e | e <;> rw [e]
    · rw [parked]; exact ⟨rfl, HeadState.noConfusion⟩
    · exact ⟨rfl, HeadState.noConfusion⟩
    · exact ⟨rfl, HeadState.noConfusion⟩
  refine takeGoalStill_agrees ?_ (recompute_fits _ _) ((reacted.idle idle).congr same) head.1 head.2 _ _
  rw [same.life, reacted.life, State.enterParked, State.setHead_ex]
  exact ready

/-- The three steps of a conclusion before the head moves: the results, the record, the counts (R117). -/
theorem stdConclude_work {ctx : StdCtx} (found : s.std.ctx = some ctx) :
    s.stdConclude.std.ctx = none ∧ s.stdConclude.bin = s.bin ∧ s.stdConclude.trav = s.trav ∧
      s.stdConclude.ex.life = s.ex.life := by
  have act : ∀ (acc : Bool × State) (e : StdEntry), (State.actOnResult acc e).2.bin = acc.2.bin ∧
      (State.actOnResult acc e).2.trav = acc.2.trav ∧ (State.actOnResult acc e).2.ex.life = acc.2.ex.life := by
    intro acc e
    have raised : ∀ (u : State) (x : Option Int), Aside u (u.raiseAlarm (stdFaultAlarm e.chan) x).2 :=
      fun u x => raiseAlarm_aside _ x u
    unfold State.actOnResult
    dsimp only
    split
    · refine ⟨?_, ?_, ?_⟩
      · rw [State.clearAlarm_bin, State.setRef_bin, State.setUntried_bin]
      · rw [State.clearAlarm_trav, State.setRef_trav, State.setUntried_trav]
      · rw [(clearAlarm_aside _ _ _).life]
        rfl
    all_goals
      dsimp only
      rw [raiseAlarm_raised _ _ _ |>.frame]
      exact ⟨rfl, rfl, rfl⟩
  have acts : ∀ (l : List StdEntry) (acc : Bool × State), (l.foldl State.actOnResult acc).2.bin = acc.2.bin ∧
      (l.foldl State.actOnResult acc).2.trav = acc.2.trav ∧
      (l.foldl State.actOnResult acc).2.ex.life = acc.2.ex.life := by
    intro l
    induction l with
    | nil => exact fun acc => ⟨rfl, rfl, rfl⟩
    | cons e l ih =>
      intro acc
      obtain ⟨bin, trav, life⟩ := ih (State.actOnResult acc e)
      obtain ⟨bin', trav', life'⟩ := act acc e
      exact ⟨bin.trans bin', trav.trans trav', life.trans life'⟩
  obtain ⟨bin, trav, life⟩ := acts (ctx.chans.map (stdEntry s.page)) (false, s)
  unfold State.stdConclude
  rw [found]
  exact ⟨rfl, (State.produce_bin ..).trans bin, (State.produce_trav ..).trans trav, (produce_aside _ _ _).life.trans life⟩

theorem stdFinish_agrees (agrees : Agrees s) (std : s.std.ctx.isSome = true) : Agrees s.stdFinish := by
  obtain ⟨ctx, found⟩ := Option.isSome_iff_exists.1 std
  have head : s.trav.head = .standardizing := of_decide_eq_true (agrees.work.std.symm.trans std)
  obtain ⟨scan, batch, duty, homed⟩ := agrees.work.standardizing head
  obtain ⟨none, bin, trav, life⟩ := stdConclude_work found
  exact parkAfterStd_agrees (life.trans agrees.ready)
    ⟨by rw [bin]; exact scan, none, by rw [bin]; exact batch, by rw [trav]; exact homed⟩ (by rw [trav]; exact duty)

theorem beginSettleRef_aside (s : State) : Aside s s.beginSettleRef := by
  unfold State.beginSettleRef
  split
  · exact .refl s
  · rename_i ctx found
    exact { ctx := by rw [found]; rfl }

theorem settleEnd_aside (s : State) : Aside s s.settleEnd := by
  unfold State.settleEnd
  split
  · exact .refl s
  · rename_i ctx found
    exact { ctx := by rw [found]; rfl }

theorem measureEnd_agrees (agrees : Agrees s) (std : s.std.ctx.isSome = true) : Agrees s.measureEnd := by
  unfold State.measureEnd
  split
  · exact agrees.aside (beginSettleRef_aside s)
  · exact stdFinish_agrees agrees std

theorem measureDue_some (due : s.measureDue = true) : s.std.ctx.isSome = true := by
  unfold State.measureDue at due
  cases found : s.std.ctx with
  | none => rw [found] at due; cases due
  | some ctx => rfl

theorem stdFrame_agrees (agrees : Agrees s) (xs : List Sample) : Agrees (s.stdFrame xs) := by
  unfold State.stdFrame
  split
  · exact agrees
  · rename_i ctx found
    have counted : Agrees { s with std.ctx := some (ctx.count1 s.link.echoPending xs) } :=
      agrees.aside { ctx := by rw [found]; rfl }
    dsimp only
    split
    · exact counted.aside (settleEnd_aside _)
    · split
      · exact measureEnd_agrees counted rfl
      · exact counted

theorem stdLinkEnd_agrees (agrees : Agrees s) : Agrees s.stdLinkEnd := by
  unfold State.stdLinkEnd
  split
  · rename_i some
    have head : s.trav.head = .standardizing := of_decide_eq_true (agrees.work.std.symm.trans some)
    obtain ⟨scan, batch, duty, homed⟩ := agrees.work.standardizing head
    obtain ⟨none, bin, trav, life⟩ := stdEarlyEnd_work .link .nodata s
    exact parkAfterStd_agrees (life.trans agrees.ready)
      ⟨by rw [bin]; exact scan, none, by rw [bin]; exact batch, by rw [trav]; exact homed⟩ (by rw [trav]; exact duty)
  · exact agrees

/-! ## Faults (R67) -/

/-- A fault stands: the head FAULTED with D at 0 and its position lost, and the goal the claims'. -/
structure FaultStands (s : State) : Prop where
  head : s.trav.head = .faulted
  homed : s.trav.homed = false
  duty : s.trav.duty = 0
  ready : s.ex.life = .ready
  fits : GoalFits s

theorem FaultStands.congr (faulted : FaultStands s) (trav : t.trav = s.trav) (life : t.ex.life = s.ex.life)
    (fits : GoalFits t) : FaultStands t :=
  ⟨by rw [trav]; exact faulted.head, by rw [trav]; exact faulted.homed, by rw [trav]; exact faulted.duty,
    life.trans faulted.ready, fits⟩

theorem FaultStands.idle (faulted : FaultStands s) (scan : s.bin.scan = none) (std : s.std.ctx = none)
    (batch : s.bin.batch = none) : Idle s :=
  ⟨scan, std, by rw [batch]; exact nofun, fun _ => faulted.duty, fun _ => by rw [faulted.homed, faulted.head]; rfl⟩

theorem FaultStands.agrees (faulted : FaultStands s) (idle : Idle s) : Agrees s :=
  ⟨⟨faulted.ready, idle.workOk (by rw [faulted.head]; rfl) (by rw [faulted.head]; exact HeadState.noConfusion),
    by rw [faulted.head]; rfl⟩, faulted.fits⟩

/-- An apply leaves a FAULTED head: it has no position to lose. -/
theorem FaultStands.applyPoint (faulted : FaultStands s) : FaultStands s.applyPoint.state := by
  have reacted := applyPoint_reacted s
  have ready := reacted.life.trans faulted.ready
  have fits := applyPoint_fits faulted.fits
  rcases reacted.drive with ⟨head, homed, duty⟩ | ⟨lost, -⟩
  · exact ⟨head.trans faulted.head, homed.trans faulted.homed, duty.trans faulted.duty, ready, fits⟩
  · have known := lost.known
    rw [faulted.homed] at known
    cases known

theorem enterFaulted_stands (agrees : Agrees s) (cause : FaultCause) : FaultStands (s.enterFaulted cause) := by
  obtain ⟨bin, std, arb, link, life, request, brk⟩ := enterFaulted_frame cause s
  obtain ⟨head, homed, duty⟩ := enterFaulted_drive cause s
  refine ⟨head, homed, duty, life.trans agrees.ready, ?_⟩
  unfold GoalFits
  rw [arb, claimedGoal_congr (breakDemand_congr (by rw [brk])) (linkDemand_congr life (by rw [link])) (by rw [arb])
    request (by rw [std]) (by rw [std])]
  exact agrees.fits

/-- The scan that a fault ends is the only open work; the apply that follows leaves none (R67, R132). -/
theorem faultScan_stands (faulted : FaultStands s) (open_ : s.bin.scan.isSome = true) (batch : s.bin.batch = none)
    (std : s.std.ctx = none) : FaultStands s.faultScan ∧ Idle s.faultScan := by
  obtain ⟨ctx, found⟩ := Option.isSome_iff_exists.1 open_
  have whole : s.faultScan = (s.abortScan .fault).applyPoint.state := if_pos open_
  have aborted := abortScan_some found .fault
  have kept := abortScan_kept .fault s
  have stands : FaultStands (s.abortScan .fault) :=
    faulted.congr (by rw [aborted]; exact State.produce_trav ..) (by rw [kept.ex]) (kept.fits faulted.fits)
  have none : (s.abortScan .fault).bin.batch = .none := by
    rw [aborted]
    show (State.produce _ _ _).bin.batch = _
    rw [State.produce_bin]
    exact batch
  rw [whole]
  exact ⟨stands.applyPoint,
    (applyPoint_reacted _).idle (stands.idle (by rw [aborted]; rfl) (by rw [kept.std]; exact std) none)⟩

theorem endBatch_stands (faulted : FaultStands s) : FaultStands (s.endBatch .fault) := by
  have kept := endBatch_kept .fault s
  exact faulted.congr (endBatch_work .fault s).2.2 (by rw [kept.ex]) (kept.fits faulted.fits)

/-- The standardize that a fault ends is followed by an apply point, and by the goal without it (R67, R119). -/
theorem faultStd_agrees (faulted : FaultStands s) (scan : s.bin.scan = none) (batch : s.bin.batch = none) :
    Agrees s.faultStd := by
  unfold State.faultStd
  split
  · obtain ⟨ctx, bin, trav, life⟩ := stdEarlyEnd_work .fault .abandoned s
    let e := s.stdEarlyEnd .fault .abandoned
    have idle : Idle e := ⟨by rw [bin]; exact scan, ctx, by rw [bin, batch]; exact nofun,
      fun _ => by rw [trav]; exact faulted.duty, fun _ => by rw [trav, faulted.homed, faulted.head]; rfl⟩
    have reacted := applyPoint_reacted e
    have same := recompute_workSame .other e.applyPoint.state
    have drive : e.applyPoint.state.trav.head = .faulted := by
      rcases reacted.drive with ⟨head, -⟩ | ⟨lost, -⟩
      · rw [head, trav, faulted.head]
      · have known := lost.known
        rw [trav, faulted.homed] at known
        cases known
    have head : (e.applyPoint.state.recompute .other).state.trav.head = .faulted := same.head.trans drive
    have rest := (reacted.idle idle).congr same
    exact ⟨⟨(same.life.trans reacted.life).trans (life.trans faulted.ready),
      rest.workOk (by rw [head]; rfl) (by rw [head]; exact HeadState.noConfusion), by rw [head]; rfl⟩, recompute_fits _ _⟩
  · rename_i none
    exact faulted.agrees (faulted.idle scan (Option.not_isSome_iff_eq_none.1 none) batch)

/-- A fault ends all open work (R67). -/
theorem fault_agrees (agrees : Agrees s) (cause : FaultCause) : Agrees (s.fault cause) := by
  obtain ⟨bin, std, -⟩ := enterFaulted_frame cause s
  have faulted := enterFaulted_stands agrees cause
  unfold State.fault
  by_cases open_ : s.bin.scan.isSome = true
  · have traverse := agrees.work.scan.symm.trans open_
    have noBatch : s.bin.batch = none :=
      no_batch agrees.work.batch fun e => by rw [e] at traverse; cases traverse
    have noStd : s.std.ctx = none := Option.not_isSome_iff_eq_none.1 (by
      rw [agrees.work.std, decide_eq_false fun e => by rw [e] at traverse; cases traverse]
      exact Bool.false_ne_true)
    obtain ⟨stands, idle⟩ := faultScan_stands faulted (by rw [bin]; exact open_) (by rw [bin]; exact noBatch)
      (by rw [std]; exact noStd)
    obtain ⟨batch, scan, -⟩ := endBatch_work .fault (s.enterFaulted cause).faultScan
    exact faultStd_agrees (endBatch_stands stands) (scan.trans idle.scan) batch
  · have whole : (s.enterFaulted cause).faultScan = s.enterFaulted cause := if_neg (by rw [bin]; exact open_)
    obtain ⟨batch, scan, -⟩ := endBatch_work .fault (s.enterFaulted cause)
    rw [whole]
    exact faultStd_agrees (endBatch_stands faulted)
      (scan.trans (by rw [bin]; exact Option.not_isSome_iff_eq_none.1 open_)) batch

end Sys2Proof.Proofs
end

section
/-!
PROOFS. The remaining operations of an event keep the agreement of the blocks: breaks and the mode write, frames, closes and
arrivals, the drive, the link (R13, R38 to R40, R53 to R66, R133, R172 to R180).
-/
namespace Sys2Proof.Proofs

open Sys2Proof.Machine Sys2Proof.Laws

-- One proof after another: threads that wait for each other count against the memory limit of the check.
set_option Elab.async false

variable {s t u : State} {g : Goal}

/-! ## Breaks -/

theorem setNotice_aside (n : Notice) (s : State) : Aside s (s.setNotice n) := { }

theorem writeHistory_aside (head : HeadState) (cues : BitVec 4) (pos cuePos : Word) (work : OpenWork) (record : Word)
    (s : State) : Aside s (s.writeHistory head cues pos cuePos work record) := { }

theorem declare_agrees (works : Works s) (cues : BitVec 4) (cuePos : Word) : Agrees (s.declare cues cuePos) :=
  (handGoal_agrees (works.congr (breakStart_workSame s) (by rw [breakStart_arb])) .breakRaised).aside
    ((writeHistory_aside ..).trans (setNotice_aside ..))

theorem checkResume_agrees (agrees : Agrees s) : Agrees s.checkResume :=
  ite_agrees agrees fun _ =>
    handGoal_agrees (agrees.toWorks.congr (resumeCore_workSame s) (by rw [resumeCore_arb])) .other

theorem edgeCue_agrees (agrees : Agrees s) : Agrees s.edgeCue := by
  unfold State.edgeCue
  split
  · split
    · exact declare_agrees agrees.toWorks _ _
    · exact agrees.aside { }
    · exact agrees
  · exact agrees

theorem lineCue_agrees (agrees : Agrees s) : Agrees s.lineCue := by
  unfold State.lineCue
  split
  · split
    · exact declare_agrees agrees.toWorks _ _
    · exact agrees.aside { }
    · exact agrees
  · exact agrees

theorem gaugeDeclare_agrees (agrees : Agrees s) (cuePos : Word) : Agrees (s.gaugeDeclare cuePos) := by
  unfold State.gaugeDeclare
  split
  · exact agrees
  · exact declare_agrees agrees.toWorks _ _

theorem moveCounts_aside (f : Machine.Frame) (xs : List Sample) (s : State) : Aside s (s.moveCounts f xs) :=
  ite_aside { }

theorem breakFrame_agrees (agrees : Agrees s) (f : Machine.Frame) (xs : List Sample) : Agrees (s.breakFrame f xs) :=
  gaugeDeclare_agrees (agrees.aside (moveCounts_aside f xs s)) _

theorem lineExpiry_agrees (agrees : Agrees s) : Agrees s.lineExpiry := by
  have taken : Agrees { s with brk := { s.brk with lineTimer := none, line := s.pins.breakIn } } := agrees.aside { }
  unfold State.lineExpiry
  refine ite_agrees agrees fun _ => ?_
  dsimp only
  split
  · exact lineCue_agrees taken
  · exact ite_agrees taken fun _ => checkResume_agrees taken

/-! ## The mode write (R13 to R16) -/

theorem takeModeReq_works (works : Works s) (req holdPos : Word) : Works (s.takeModeReq req holdPos) := by
  have accepted : ∀ m, Works (s.acceptMode m holdPos) := fun m => by
    unfold State.acceptMode
    dsimp only
    split
    iterate 2 exact works.congr { } rfl
  unfold State.takeModeReq
  split
  · split
    · exact accepted _
    · exact works
  · exact works

theorem takeStdNow_works (works : Works s) (v : Word) : Works (s.takeStdNow v) := by
  unfold State.takeStdNow
  split
  · exact works
  · exact works.congr { } rfl

/-- Requests that are not taken leave the state. -/
theorem takeRequests_idle {req holdPos stdNow : Word} (refused : ¬ (s.modeReqResult req = .accepted ∨ stdNow ≠ 0)) :
    (s.takeModeReq req holdPos).takeStdNow stdNow = s := by
  obtain ⟨mode, std⟩ := not_or.1 refused
  rw [State.takeStdNow, if_pos (not_not.1 std), State.takeModeReq, if_neg mode]

theorem takeRequests_agrees (agrees : Agrees s) (req holdPos stdNow : Word) :
    Agrees (s.takeRequests req holdPos stdNow) := by
  unfold State.takeRequests
  dsimp only
  split
  · exact handGoal_agrees (takeStdNow_works (takeModeReq_works agrees.toWorks _ _) _) _
  · rename_i refused
    rw [takeRequests_idle refused]
    exact agrees

theorem takeBreakAck_agrees (agrees : Agrees s) (v : Word) : Agrees (s.takeBreakAck v) :=
  ite_agrees agrees fun _ =>
    checkResume_agrees (s := ({ s with brk.latch := true } : State).writeAckTime) (agrees.aside { })

theorem takeFaultAck_agrees (agrees : Agrees s) (v : Word) : Agrees (s.takeFaultAck v) := by
  unfold State.takeFaultAck
  refine ite_agrees agrees fun acked => ?_
  have head := acked.2.1
  have idle := agrees.work.idle (by rw [head]; rfl) (by rw [head]; exact HeadState.noConfusion)
  have work := enterUnhomed_workOk idle.scan idle.std (no_batch idle.batch (by rw [head]; exact HeadState.noConfusion))
  have unhomed := enterUnhomed_head s
  have kept := (HeadMove.unhomed s).kept
  obtain ⟨still, std⟩ := still_of_head unhomed rfl HeadState.noConfusion
  exact takeGoalStill_agrees (by rw [kept.ex]; exact agrees.ready) (kept.fits agrees.fits) (work.idle still std) still std
    _ _

theorem takeArm_agrees (agrees : Agrees s) (v : Word) : Agrees (s.takeArm v) := by
  let armed : State := { s with brk.armed := decide (v ≠ 0) }
  have start : Agrees armed := agrees.aside { }
  have watched : Agrees armed.takeWatch.2 :=
    ⟨start.toWorks.congr (takeWatch_workSame armed) (by rw [takeWatch_arb]), takeWatch_fits start.fits⟩
  have whole : s.takeArm v = if decide (v ≠ 0) = s.brk.armed then s
      else if armed.takeWatch.1 then armed.takeWatch.2.declare cueBitLine armed.takeWatch.2.trav.position
        else armed.takeWatch.2 := rfl
  rw [whole]
  split
  · exact agrees
  · exact ite_agrees watched fun _ => declare_agrees watched.toWorks _ _

theorem concludeMode_aside (r : Result) (s : State) : Aside s (s.concludeMode r) := by
  unfold State.concludeMode
  dsimp only
  split <;> exact { }

theorem modeWrite_agrees (agrees : Agrees s) (req holdPos stdNow breakAck faultAck arm : Word) :
    Agrees (s.modeWrite req holdPos stdNow breakAck faultAck arm) :=
  (takeArm_agrees (takeFaultAck_agrees (takeBreakAck_agrees (takeRequests_agrees agrees _ _ _) _) _) _).aside
    (concludeMode_aside _ _)

/-! ## The close of a scan (R129) -/

theorem side_aside (j : Judged) (side : Side) (missed : Bool) : Aside j.state (j.side side missed).state := by
  unfold Judged.side
  split
  · dsimp only
    split
    · exact (setMiss_aside _ _ _).trans (raiseAlarm_aside _ _ _)
    · exact setMiss_aside _ _ _
  · exact setMiss_aside _ _ _

theorem judgeEdges_aside (ctx : ScanCtx) (s : State) : Aside s (s.judgeEdges ctx).state := by
  have sides : ∀ front back, Aside s
      ((Judged.side { kinds := 0, cue := false, state := s } .front front).side .back back).state :=
    fun front _ => (side_aside { kinds := 0, cue := false, state := s } .front front).trans (side_aside _ _ _)
  unfold State.judgeEdges
  split
  · split
    · rename_i front back _ _ _
      have edges : Aside s (s.setEdges front back) := { }
      exact (edges.trans (setMiss_aside .front 0 _)).trans (setMiss_aside .back 0 _)
    · exact sides _ _
  · exact sides _ _

theorem moveEntry_aside (i : Fin 48) (j : Judgement) (v : Int) (raise clear : Nat) (s : State) :
    Aside s (s.moveEntry i j v raise clear).2 := by
  unfold State.moveEntry
  dsimp only
  split
  · split
    · split
      · exact clearAlarm_aside _ _ _
      · exact setAlarm_aside _ _ _
    iterate 2 exact setAlarm_aside _ _ _
  · split
    · split
      · exact raiseAlarm_aside _ _ _
      · exact setAlarm_aside _ _ _
    iterate 2 exact setAlarm_aside _ _ _

theorem evalChannel_aside (c : Fin 9) (avg : Int) (bins : List ProfBin) (acc : Word × State) :
    Aside acc.2 (State.evalChannel c avg bins acc).2 := by
  refine foldl_snd_aside (fun acc kind => ?_) scanKinds acc
  unfold State.evalKind
  dsimp only
  split
  · exact moveEntry_aside _ _ _ _ _ _
  · exact .refl _

theorem profileClose_aside (ctx : ScanCtx) (kinds : Word) (s : State) : Aside s (s.profileClose ctx kinds).2 := by
  unfold State.profileClose
  dsimp only
  refine Aside.trans ?_ (produce_aside _ _ _)
  split
  · exact Aside.trans (Aside.mk { } { }) (foldl_snd_aside (fun acc c => evalChannel_aside _ _ _ acc) _ (_, _))
  · exact .refl s

/-- What a close leaves: no scan, the head where it was, the goal the claims'. -/
structure Closed (s t : State) : Prop where
  idle : Idle t
  head : t.trav.head = s.trav.head
  duty : t.trav.duty = s.trav.duty
  ready : t.ex.life = .ready
  fits : GoalFits t

/-- The scan's end and the scan count, after its record (R129, R108). -/
def scanEnded (s : State) : State :=
  { ({ s with bin.scan := none } : State).liveBool 0x058 false with std.scanCount := min 255 (s.std.scanCount + 1) }

/-- A close is the edge judgement, the profile unit, the scan's end and the due condition (R129). -/
theorem closeScan_eq {ctx : ScanCtx} (found : s.bin.scan = some ctx) : ∃ kinds v, Aside s v ∧
    s.closeScan.2 = ((scanEnded (v.profileClose ctx kinds).2).tellDue.recompute .other).state := by
  unfold State.closeScan
  rw [found]
  by_cases track : s.page.edgeTrack = true
  · refine ⟨(s.judgeEdges ctx).kinds, (s.judgeEdges ctx).state, judgeEdges_aside ctx s, ?_⟩
    dsimp only
    rw [if_pos track]
    rfl
  · refine ⟨0, s, .refl s, ?_⟩
    dsimp only
    rw [if_neg track]
    rfl

theorem closeScan_closed (works : Works s) (head : s.trav.head.traversing = true) : Closed s s.closeScan.2 := by
  obtain ⟨ctx, found⟩ := Option.isSome_iff_exists.1 (works.work.scan.trans head)
  obtain ⟨kinds, v, aside, whole⟩ := closeScan_eq found
  have closed := aside.trans (profileClose_aside ctx kinds v)
  have other : s.trav.head ≠ .standardizing := fun e => by rw [e] at head; cases head
  have work := works.work.congr closed.toWorkSame
  let w : State := (v.profileClose ctx kinds).2
  have std : w.std.ctx = none := Option.not_isSome_iff_eq_none.1 (by
    rw [work.std, closed.head, decide_eq_false other]
    exact Bool.false_ne_true)
  have idle : Idle (scanEnded w).tellDue := ⟨rfl, std, work.batch, work.rest, work.homed⟩
  have same := recompute_workSame .other (scanEnded w).tellDue
  rw [whole]
  exact ⟨idle.congr same, same.head.trans closed.head, same.duty.trans closed.duty, same.life.trans (closed.life.trans works.ready),
    recompute_fits _ _⟩

/-! ## Arrivals (R53, R59) -/

/-- The head has arrived: it knows where it is, it rests, and it has no work. -/
structure Arrived (s : State) : Prop where
  free : Free s
  duty : s.trav.duty = 0
  ready : s.ex.life = .ready
  fits : GoalFits s

theorem HeadMove.agrees (move : HeadMove s t) (placed : Placed s.arb.goal t) (ready : s.ex.life = .ready)
    (fits : GoalFits s) : Agrees t := by
  have kept := move.kept
  exact ⟨⟨by rw [kept.ex]; exact ready, placed.work, by rw [kept.arb]; exact placed.allowed⟩, kept.fits fits⟩

theorem enterTurning_kept (side : Side) (s : State) : HeadKept s (s.enterTurning side) := by
  have turned : HeadKept s { s.setHead .turning with trav :=
      { (s.setHead .turning).trav with turn := side, dwellTimer := some ((s.setHead .turning).page.dwellMs * 1000) } } :=
    (setHead_kept .turning s).trans (setTrav_kept _ _)
  unfold State.enterTurning
  dsimp only
  split
  · exact turned.trans ((setHead_kept _ _).trans (openScan_kept _ _))
  · exact turned

theorem enterTurning_agrees (arrived : Arrived s) (side : Side)
    (goal : s.arb.goal = .scan ∨ s.arb.goal = .hold ∨ s.arb.goal = .standardize) : Agrees (s.enterTurning side) := by
  have kept := enterTurning_kept side s
  have placed := enterTurning_placed arrived.free arrived.duty side goal
  exact ⟨⟨by rw [kept.ex]; exact arrived.ready, placed.work, by rw [kept.arb]; exact placed.allowed⟩,
    kept.fits arrived.fits⟩

theorem arriveGoal_agrees (arrived : Arrived s) (side : Side) : Agrees (s.arriveGoal side) := by
  obtain ⟨free, duty, ready, fits⟩ := id arrived
  unfold State.arriveGoal
  split <;> rename_i goal
  · exact enterTurning_agrees arrived side (.inl goal)
  · split
    · exact enterTurning_agrees arrived .back (.inr (.inr goal))
    · exact (HeadMove.returning s).agrees (placed_of_head (enterReturning_workOk free) (enterReturning_head s) rfl) ready
        fits
  · exact (HeadMove.returning s).agrees (placed_of_head (enterReturning_workOk free) (enterReturning_head s) rfl) ready fits
  · exact (HeadMove.standing s).agrees (placed_of_head (enterStanding_workOk free duty) (enterStanding_head s) rfl) ready
      fits
  · exact (HeadMove.homing s).agrees
      (placed_of_head (enterHoming_workOk free.scan free.std free.batch) (enterHoming_head s) rfl) ready fits
  · exact (HeadMove.movingToHold s).agrees
      (placed_of_head (enterMovingToHold_workOk free) (enterMovingToHold_head s) (by rw [goal]; rfl)) ready fits

theorem withGeneration_aside (n : Word) (s : State) : Aside s { s with ex.generation := n } := { }

theorem edgeCueAfterApply_agrees (agrees : Agrees s) (n : Word) : Agrees (s.edgeCueAfterApply n) :=
  (edgeCue_agrees (agrees.aside (withGeneration_aside n s))).aside (withGeneration_aside _ _)

/-- What the head does when its scan is closed and the apply point is reported (R59, R66, R70). -/
theorem arrived_agrees {r : Recomputed} (ready : r.state.ex.life = .ready) (fits : GoalFits r.state)
    (idle : Idle r.state) (duty : r.state.trav.duty = 0)
    (head : r.state.trav.head = .unhomed ∨ r.state.trav.head = .faulted ∨ r.state.trav.head.traversing = true)
    (side : Side) : Agrees (arrived side r) := by
  rcases head with head | head | head
  · obtain ⟨still, std⟩ := still_of_head head rfl HeadState.noConfusion
    have whole : arrived side r = r.state.takeGoalStill r.posChanged false := by rw [arrived, head]
    rw [whole]
    exact takeGoalStill_agrees ready fits idle still std _ _
  · obtain ⟨still, std⟩ := still_of_head head rfl HeadState.noConfusion
    have whole : arrived side r = r.state := by rw [arrived, head]
    rw [whole]
    exact ⟨⟨ready, idle.workOk still std, by rw [head]; rfl⟩, fits⟩
  · have whole : arrived side r = r.state.arriveGoal side := by
      unfold arrived
      split <;> rename_i h
      · rw [h] at head; cases head
      · rw [h] at head; cases head
      · rfl
    have free : Free r.state := by
      refine idle.free ?_ ?_ ?_ <;> revert head <;> cases r.state.trav.head <;> decide
    rw [whole]
    exact arriveGoal_agrees ⟨free, duty, ready, fits⟩ side

theorem arriveScan_agrees (agrees : Agrees s) (head : s.trav.head.traversing = true) (duty : s.trav.duty = 0)
    (side : Side) : Agrees (s.arriveScan side) := by
  have closed := closeScan_closed agrees.toWorks head
  have reacted := applyPoint_reacted s.closeScan.2
  have still : s.closeScan.2.applyPoint.state.trav.duty = 0 :=
    reacted.drive.elim (fun same => same.2.2.trans (closed.duty.trans duty)) (fun lost => lost.1.duty)
  have head : s.closeScan.2.applyPoint.state.trav.head = .unhomed ∨
      s.closeScan.2.applyPoint.state.trav.head = .faulted ∨
      s.closeScan.2.applyPoint.state.trav.head.traversing = true := by
    rcases reacted.head with same | lost | lost
    · exact .inr (.inr (by rw [same, closed.head]; exact head))
    · exact .inl lost
    · exact .inr (.inl lost)
  have arrives := arrived_agrees (reacted.life.trans closed.ready) (applyPoint_fits closed.fits)
    (reacted.idle closed.idle) still head side
  rw [arriveScan_eq]
  split
  · exact edgeCueAfterApply_agrees arrives _
  · exact arrives

/-- Only a head of D 0 arrives (R53). -/
theorem arrivalDue_duty {b : Bool} (due : s.arrivalDue b = true) : s.trav.duty = 0 :=
  of_decide_eq_true (Bool.and_eq_true_iff.1 (Bool.and_eq_true_iff.1 due).1).2

/-- The head takes a state in which it rests, and the goal from there (R53, R54). -/
theorem restThenGoal_agrees {h : HeadState} (ready : s.ex.life = .ready) (fits : GoalFits s) (free : Free s)
    (duty : s.trav.duty = 0) (rests : h = .parked ∨ h = .standing) (p e : Bool) :
    Agrees ((s.setHead h).takeGoalStill p e) := by
  have head := setHead_head s h
  have kept := setHead_kept h s
  have places : WorkOk (s.setHead h) ∧ h.traversing = false ∧ h ≠ .standardizing := by
    rcases rests with rfl | rfl
    · exact ⟨enterParked_workOk free duty, rfl, HeadState.noConfusion⟩
    · exact ⟨enterStanding_workOk free duty, rfl, HeadState.noConfusion⟩
  obtain ⟨work, still, std⟩ := places
  obtain ⟨still, std⟩ := still_of_head head still std
  exact takeGoalStill_agrees (by rw [kept.ex]; exact ready) (kept.fits fits) (work.idle still std) still std _ _

/-- The head takes HOLDING, starts a batch, and takes the goal (R53, R133). -/
theorem holdThenGoal_agrees (ready : s.ex.life = .ready) (fits : GoalFits s) (free : Free s) (duty : s.trav.duty = 0)
    (p e : Bool) : Agrees (((s.setHead .holding).startBatch).takeGoalStill p e) := by
  have head : (s.setHead .holding).startBatch.trav.head = .holding := setHead_head _ _
  have begun : HeadKept (s.setHead .holding) (s.setHead .holding).startBatch := ⟨rfl, rfl, rfl, rfl, rfl, rfl⟩
  have kept := (setHead_kept .holding s).trans begun
  have work := free.setHead_workOk (h := .holding) rfl HeadState.noConfusion rfl fun _ => duty
  have scan : (s.setHead .holding).startBatch.bin.scan = none := by
    show (s.setHead .holding).bin.scan = none
    rw [State.setHead_bin, free.scan]
  have idle : Idle (s.setHead .holding).startBatch :=
    ⟨scan, by rw [kept.std]; exact free.std, fun _ => head, work.rest, work.homed⟩
  obtain ⟨still, std⟩ := still_of_head head rfl HeadState.noConfusion
  exact takeGoalStill_agrees (by rw [kept.ex]; exact ready) (kept.fits fits) idle still std _ _

/-- A head that moves without a scan, its position known, has no work. -/
theorem Agrees.free (agrees : Agrees s) {h : HeadState} (head : s.trav.head = h)
    (moves : h = .movingToHold ∨ h = .returning ∨ h = .stopping) : Free s := by
  have idle : Idle s := agrees.work.idle (by rw [head]; rcases moves with rfl | rfl | rfl <;> rfl)
    (by rw [head]; rcases moves with rfl | rfl | rfl <;> exact HeadState.noConfusion)
  refine idle.free ?_ ?_ ?_ <;> rw [head] <;> rcases moves with rfl | rfl | rfl <;> decide

theorem arrive_agrees (agrees : Agrees s) (duty : s.trav.duty = 0) : Agrees s.arrive := by
  have rests : ∀ {h p e}, Free s → h = .parked ∨ h = .standing → Agrees ((s.setHead h).takeGoalStill p e) :=
    fun free resting => restThenGoal_agrees agrees.ready agrees.fits free duty resting _ _
  unfold State.arrive
  split <;> rename_i head
  · refine ite_agrees agrees fun homed => rests ?_ (.inl rfl)
    have idle := agrees.work.idle (by rw [head]; rfl) (by rw [head]; exact HeadState.noConfusion)
    exact ⟨idle.scan, idle.std, no_batch idle.batch (by rw [head]; exact HeadState.noConfusion), homed⟩
  · exact arriveScan_agrees agrees (by rw [head]; rfl) duty _
  · exact arriveScan_agrees agrees (by rw [head]; rfl) duty _
  · exact holdThenGoal_agrees agrees.ready agrees.fits (agrees.free head (.inl rfl)) duty _ _
  · exact rests (agrees.free head (.inr (.inl rfl))) (.inl rfl)
  · exact rests (agrees.free head (.inr (.inr rfl))) (.inr rfl)
  all_goals exact agrees

/-! ## The drive (R49 to R53, R60) -/

/-- A head at rest has no cruise figure, so its target is 0 (R51). -/
theorem driveStep_rest (rest : s.trav.head.atRest = true) (duty : s.trav.duty = 0) : s.driveStep.trav.duty = 0 := by
  have cruise : s.motion.cruise = none := by
    revert rest
    unfold State.motion
    dsimp only
    cases s.trav.head <;> first | exact fun _ => rfl | exact nofun
  have target : s.targetDuty = (0, false) := by
    unfold State.targetDuty
    dsimp only
    rw [cruise]
  have idle : s.driveStep.trav.duty = rampDuty s.page.ramp s.targetDuty.1 s.trav.duty := rfl
  rw [idle, target, duty]
  simp [rampDuty]

theorem driveStep_agrees (agrees : Agrees s) : Agrees s.driveStep where
  ready := agrees.ready
  work := ⟨agrees.work.scan, agrees.work.batch, agrees.work.std,
    fun rest => driveStep_rest rest (agrees.work.rest rest), agrees.work.homed⟩
  allowed := agrees.allowed
  fits := agrees.fits

theorem driveExpiry_agrees (agrees : Agrees s) : Agrees s.driveExpiry := by
  have stepped := driveStep_agrees agrees
  unfold State.driveExpiry
  dsimp only
  split
  · exact fault_agrees stepped _
  · exact ite_agrees stepped fun due => arrive_agrees stepped (arrivalDue_duty due)

theorem dwellExpiry_agrees (agrees : Agrees s) : Agrees s.dwellExpiry := by
  refine ite_agrees agrees fun turning => ?_
  obtain ⟨head, -⟩ := turning
  have idle := agrees.work.idle (by rw [head]; rfl) (by rw [head]; exact HeadState.noConfusion)
  have free := idle.free (by rw [head]; exact HeadState.noConfusion) (by rw [head]; rfl)
    (by rw [head]; exact HeadState.noConfusion)
  refine (HeadMove.depart s _).agrees (placed_of_head (depart_workOk free _) (depart_head s _) ?_) agrees.ready agrees.fits
  have allowed := agrees.allowed
  rw [head] at allowed
  cases s.trav.turn <;> exact allowed

theorem countStep_agrees (agrees : Agrees s) (d : Int) : Agrees (s.countStep d) := by
  have counted : Agrees { s with trav.position := s.trav.position + BitVec.ofInt 32 d } := agrees.aside { }
  unfold State.countStep
  split
  · exact agrees
  · exact ite_agrees counted fun _ => fault_agrees counted _

theorem frontLimEvent_agrees (agrees : Agrees s) : Agrees s.frontLimEvent := by
  have active : Agrees { s with trav.frontLim := true } := agrees.aside { }
  unfold State.frontLimEvent
  dsimp only
  split
  · exact fault_agrees active _
  · refine ite_agrees active fun homing => ?_
    exact ⟨⟨agrees.ready, ⟨agrees.work.scan, agrees.work.batch, agrees.work.std, agrees.work.rest,
      fun other => absurd homing.1 other⟩, agrees.allowed⟩, agrees.fits⟩

theorem backLimEvent_agrees (agrees : Agrees s) : Agrees s.backLimEvent := by
  have active : Agrees { s with trav.backLim := true } := agrees.aside { }
  exact ite_agrees active fun _ => fault_agrees active _

theorem drvFaultEvent_agrees (agrees : Agrees s) : Agrees s.drvFaultEvent := by
  have active : Agrees { s with trav.drvFault := true } := agrees.aside { }
  exact ite_agrees active fun _ => fault_agrees active _

/-! ## The panel (R77) -/

theorem panelChange_agrees (agrees : Agrees s) (i : PanelInput) : Agrees (s.panelChange i) := by
  cases i <;> exact agrees.aside { }

theorem panelExpiry_agrees (agrees : Agrees s) (i : PanelInput) : Agrees (s.panelExpiry i) := by
  unfold State.panelExpiry
  refine ite_agrees agrees fun _ => ?_
  let u : State := { s with arb := (s.arb.setTimer i none).setPanel i (s.pins.panel i) }
  have works : Works u := agrees.toWorks.congr { } (by cases i <;> rfl)
  have handed := handGoal_agrees works .other
  unfold State.handGoal at handed
  dsimp only at handed ⊢
  split <;> rename_i changed
  · rw [if_pos changed] at handed
    exact handed.aside (setNotice_aside _ _)
  · rw [if_neg changed] at handed
    exact handed

/-! ## The head link (R31 to R40) -/

theorem linkDown_agrees (works : Works s) (cause : LinkCause) : Agrees (s.linkDown cause) := by
  have frame := (linkDownCore_dropped cause s).frame
  have same : WorkSame s (s.linkDownCore cause) := by rw [frame]; exact { }
  exact stdLinkEnd_agrees (handGoal_agrees (works.congr same (by rw [frame])) .linkRaised)

theorem linkUp_agrees (works : Works s) : Agrees s.linkUp := by
  let u : State := ({ s with link.up := true } : State).live 0x02C 1
  have up : Works u := works.congr { } rfl
  have cleared := clearAlarm_aside linkDownAlarm none u
  exact handGoal_agrees (up.congr (cleared.trans (setNotice_aside .link _)).toWorkSame
    (cleared.trans (setNotice_aside .link _)).goal) .other

theorem echoTimeout_agrees (agrees : Agrees s) : Agrees s.echoTimeout := by
  have counted : Agrees { s with link.echoCount := 0 } := agrees.aside { }
  exact ite_agrees counted fun _ => linkDown_agrees counted.toWorks _

theorem judgeLink_agrees (agrees : Agrees s) : Agrees s.judgeLink := by
  have timed : Agrees (if s.echoDue then s.echoTimeout else s) := ite_agrees agrees fun _ => echoTimeout_agrees agrees
  unfold State.judgeLink
  split
  · exact linkDown_agrees agrees.toWorks _
  · exact ite_agrees timed fun _ => linkUp_agrees timed.toWorks

theorem echoCheck_aside (f : Machine.Frame) (status : Option SlotWord) (s : State) : Aside s (s.echoCheck f status) := by
  unfold State.echoCheck
  split
  · split
    · exact { }
    · exact ite_aside { }
  · exact .refl s

theorem countFrame_aside (received : Bool) (s : State) : Aside s (s.countFrame received) := by
  unfold State.countFrame
  split <;> exact { }

theorem tempAlarm_aside (status : Option SlotWord) (s : State) : Aside s (s.tempAlarm status) := by
  unfold State.tempAlarm
  split
  · exact .refl s
  · rename_i w
    have set : Aside s { s with link.lastTempAlarm := statusTempAlarm w } := { }
    dsimp only
    split
    · exact .refl s
    · split
      · exact set.trans (raiseAlarm_aside _ _ _)
      · exact set.trans (clearAlarm_aside _ _ _)

/-! ## Frames (R90, R124, R133, R134) -/

theorem liveSamples_aside (xs : List Sample) (s : State) : Aside s (s.liveSamples xs) := by
  refine foldl_aside (fun v x => ?_) xs s
  unfold State.liveSample
  split <;> exact { }

theorem scanFrame_aside (f : Machine.Frame) (xs : List Sample) (s : State) : Aside s (s.scanFrame f xs) := by
  unfold State.scanFrame
  split
  · rename_i ctx found
    exact ite_aside (Aside.mk { scan := by rw [found]; rfl } { })
  · exact .refl s

theorem checkBatchFull_aside (s : State) : Aside s s.checkBatchFull := by
  unfold State.checkBatchFull
  split
  · rename_i b found
    have produced := produce_aside { kind := .fixed, outcome := .complete, direction := 0, startTime := b.startTime
                                     endTime := s.link.timeCounter, front := 0, back := 0, nBins := 0
                                     present := presentMask (b.chans.map (fun c => c.chan.val))
                                     firstAfterBreak := b.firstAfterBreak, alarmRaised := 0 }
      (b.holdPos :: Word.ofCount b.frames :: b.chans.flatMap batchChanWords) ({ s with bin.batch := none } : State)
    refine ite_aside (Aside.mk ⟨produced.head, produced.homed, produced.duty, produced.scan, ?_, produced.ctx,
      produced.life⟩ ⟨produced.goal, produced.request, produced.park, produced.up, produced.stdNow, produced.due,
      produced.broken⟩)
    rw [found]
    rfl
  · exact .refl s

theorem batchFrame_agrees (agrees : Agrees s) (f : Machine.Frame) (xs : List Sample) : Agrees (s.batchFrame f xs) := by
  unfold State.batchFrame
  refine ite_agrees agrees fun _ => ?_
  split
  · rename_i b found
    refine ite_agrees agrees fun _ => ?_
    have taken : Aside s { s with bin.batch := some (b.take xs) } := Aside.mk { batch := by rw [found]; rfl } { }
    exact (agrees.aside taken).aside (checkBatchFull_aside _)
  · refine ite_agrees agrees fun holding => ?_
    have begun : Agrees { s.startBatch with bin.batch := s.startBatch.bin.batch.map (fun b => b.take xs) } :=
      ⟨⟨agrees.ready, ⟨agrees.work.scan, fun _ => holding, agrees.work.std, agrees.work.rest, agrees.work.homed⟩,
        agrees.allowed⟩, agrees.fits⟩
    exact begun.aside (checkBatchFull_aside _)

theorem convertFrame_agrees (agrees : Agrees s) (f : Machine.Frame) (slots : List SlotRx) (valid : Bool) :
    Agrees (s.convertFrame f slots valid) := by
  have shown := agrees.aside (liveSamples_aside (frameSamples s.page s.std.refs slots f.slotCount valid) s)
  unfold State.convertFrame State.distribute
  dsimp only
  split
  · exact stdFrame_agrees shown _
  · exact breakFrame_agrees (batchFrame_agrees (shown.aside (scanFrame_aside _ _ _)) _ _) _ _

theorem frameReceived_agrees (agrees : Agrees s) (slots : List SlotRx) : Agrees (s.frameReceived slots) := by
  unfold State.frameReceived
  split
  · exact agrees
  · rename_i f found
    have landed : Aside s { s with link.inFlight := none } := { }
    have judged := agrees.aside ((landed.trans (echoCheck_aside f (slotWord slots f.slotCount 0) _)).trans
      (countFrame_aside (slotWord slots f.slotCount 0).isSome _))
    exact convertFrame_agrees ((judgeLink_agrees judged).aside (tempAlarm_aside _ _)) _ _ _

/-! ## Alarm events (R130, R162) -/

theorem edgeMissReached_aside (side : Side) (s : State) : Aside s (s.edgeMissReached side) :=
  ite_aside (raiseAlarm_aside _ _ _)

theorem streakReached_aside (i : Fin 36) (s : State) : Aside s (s.streakReached i) := by
  unfold State.streakReached
  dsimp only
  split
  · split
    · exact ite_aside (clearAlarm_aside _ _ _)
    · exact ite_aside (raiseAlarm_aside _ _ _)
  · exact .refl s

end Sys2Proof.Proofs
end

section
/-!
PROOFS. Every command and every idle step keep the agreement of the blocks (R46, R52, R55, R71, R73, R74, R111, R133,
section 4.2): what the end of an event makes of it, the resets, the commands that are no events.
-/
namespace Sys2Proof.Proofs

open Sys2Proof.Machine Sys2Proof.Laws

-- One proof after another: threads that wait for each other count against the memory limit of the check.
set_option Elab.async false

variable {s t u : State}

/-! ## Between events and inside one -/

/-- While a break or the link demands that the head park, the claims' goal is PARK (R74). -/
theorem claimedGoal_of_demand (demand : (s.breakDemand || s.linkDemand) = true) : s.claimedGoal = .park := by
  unfold State.claimedGoal
  rw [demand]
  rfl

theorem Agrees.sound (agrees : Agrees s) (settled : s.Settled) : s.Sound := by
  obtain ⟨unhomed, sheet⟩ := (allows_iff s.arb.goal s.trav.head).1 agrees.allowed
  refine ⟨⟨agrees.work.scan, agrees.work.batch, agrees.work.std, agrees.work.rest, agrees.work.homed, ?_, fun _ => unhomed⟩,
    ⟨fun _ => agrees.fits, sheet, fun demand => ?_⟩, settled⟩
  · rw [agrees.ready]
    exact nofun
  · refine Bool.eq_false_iff.2 fun opened => (sheet opened).1 ?_
    exact agrees.fits.trans (claimedGoal_of_demand demand)

theorem Agrees.of_sound (sound : s.Sound) (ready : s.ex.life = .ready) : Agrees s :=
  ⟨⟨ready, ⟨sound.head.scan, sound.head.batch, sound.head.std, sound.head.rest, sound.head.homed⟩,
    (allows_iff s.arb.goal s.trav.head).2 ⟨sound.head.unhomed ready, sound.goal.sheet⟩⟩, sound.goal.goal ready⟩

/-- What the agreement and the command word are read from is as it was. -/
theorem Sound.congr (sound : s.Sound) (aside : Aside s t) (shutter : t.link.shutter = s.link.shutter := by rfl)
    (ref : t.link.ref = s.link.ref := by rfl) (ctx : t.std.ctx = s.std.ctx := by rfl) : t.Sound := by
  have work := WorkOk.congr
    ⟨sound.head.scan, sound.head.batch, sound.head.std, sound.head.rest, sound.head.homed⟩ aside.toWorkSame
  refine ⟨⟨work.scan, work.batch, work.std, work.rest, work.homed, ?_, ?_⟩, ⟨fun ready => ?_, ?_, ?_⟩, ?_⟩
  · rw [aside.life, aside.head]
    exact sound.head.starting
  · rw [aside.life, aside.head, aside.goal]
    exact sound.head.unhomed
  · exact aside.fits (sound.goal.goal (aside.life.symm.trans ready))
  · rw [aside.head, aside.goal]
    exact sound.goal.sheet
  · rw [aside.head, breakDemand_congr aside.broken, linkDemand_congr aside.life aside.up]
    exact sound.goal.parked
  · exact settled_congr sound.settled aside.goal aside.head aside.up shutter ref ctx

/-! ## The end of an event (R35, R111) -/

theorem stdStart_agrees (agrees : Agrees s) : Agrees s.stdStart ∧ s.stdStart.stdStartDue = false := by
  cases due : s.stdStartDue with
  | false =>
    rw [stdStart_of_not_due s due]
    exact ⟨agrees, due⟩
  | true =>
    have parked : s.trav.head = .parked :=
      of_decide_eq_true (Bool.and_eq_true_iff.1 (Bool.and_eq_true_iff.1 due).1).2
    have idle := agrees.work.idle (by rw [parked]; rfl) (by rw [parked]; exact HeadState.noConfusion)
    have free := idle.free (by rw [parked]; exact HeadState.noConfusion) (by rw [parked]; rfl)
      (by rw [parked]; exact HeadState.noConfusion)
    obtain ⟨ctx, whole⟩ : ∃ ctx, s.stdStart = ({ s with std.ctx := some ctx } : State).setHead .standardizing :=
      ⟨_, if_pos due⟩
    have kept := setHead_kept .standardizing { s with std.ctx := some ctx }
    have head := setHead_head { s with std.ctx := some ctx } .standardizing
    rw [whole]
    refine ⟨⟨⟨by rw [kept.ex]; exact agrees.ready, ⟨?_, ?_, ?_, ?_, ?_⟩, by rw [head]; rfl⟩, kept.fits agrees.fits⟩, ?_⟩
    · rw [State.setHead_bin, head, show ({ s with std.ctx := some ctx } : State).bin.scan = none from free.scan]
      rfl
    · rw [State.setHead_bin, show ({ s with std.ctx := some ctx } : State).bin.batch = none from free.batch]
      exact nofun
    · rw [kept.std, head]
      rfl
    · rw [State.setHead_duty]
      exact fun _ => agrees.work.rest (by rw [parked]; rfl)
    · rw [State.setHead_homed, head]
      exact fun _ => free.homed
    · unfold State.stdStartDue
      rw [head]
      exact (congrArg (· && _) (Bool.and_false _)).trans (Bool.false_and _)

theorem commandCompare_aside (s : State) : Aside s s.commandCompare := by
  unfold State.commandCompare
  split <;> exact { }

theorem endEvent_sound (agrees : Agrees s) : s.endEvent.Sound := by
  obtain ⟨started, rest⟩ := stdStart_agrees agrees
  have compared := commandCompare_aside s.stdStart
  obtain ⟨shutter, ref⟩ := endEvent_carries s
  refine (started.aside compared).sound ⟨?_, shutter, ref⟩
  unfold State.stdStartDue
  rw [compared.goal, compared.head, compared.up]
  exact rest

theorem event_sound {f : State → State} (sound : s.Sound) (keeps : Agrees s → Agrees (f s)) : (s.event f).Sound := by
  cases life : s.ex.life with
  | ready =>
    rw [event_ready _ _ life]
    exact endEvent_sound (keeps (.of_sound sound life))
  | starting =>
    rw [event_starting _ _ life]
    exact sound

/-! ## The resets (R17, R25, R26) -/

theorem coldState_sound (s : State) (active : Bool) (m : Mem) : (s.coldState active m).Sound :=
  Sound.congr (s := State.reset) reset_sound { }

theorem startGoal_workSame (s : State) : WorkSame s s.startGoal := by
  rw [startGoal_frame]
  exact { }

theorem liveTables_workSame (s : State) : WorkSame s s.liveTables := by
  rw [show s.liveTables = { s with mem := s.liveTables.mem } from (liveTables_shown s).1]
  exact { }

theorem liveBlocks_workSame (s : State) : WorkSame s s.liveExchange.liveBlocks := { }

theorem written_workSame (s : State) : WorkSame s (written s) :=
  ((liveBlocks_workSame s).trans (liveTables_workSame _)).trans
    ((raiseAlarm_workSame linkDownAlarm (some LinkCause.reset.code) _).trans
      ((setNotice_aside .restarted _).toWorkSame.trans (startGoal_workSame _)))

theorem startGoal_fits (s : State) : GoalFits s.startGoal := recompute_fits .other s

theorem written_fits (s : State) : GoalFits (written s) := startGoal_fits _

/-- The start-up leaves an UNHOMED head with no work, which takes the goal (R26, R71). -/
theorem startUpComplete_agrees (sound : s.Sound) (starting : s.ex.life = .starting) : Agrees s.startUpComplete := by
  have head : s.trav.head = .unhomed := sound.head.starting starting
  have same : WorkSame s.startUp (written s.startUp) := written_workSame s.startUp
  have work : WorkOk s.startUp :=
    ⟨sound.head.scan, sound.head.batch, sound.head.std, sound.head.rest, sound.head.homed⟩
  obtain ⟨still, std⟩ := still_of_head (h := .unhomed) (same.head.trans head) rfl HeadState.noConfusion
  rw [startUpComplete_eq]
  exact takeGoalStill_agrees same.life (written_fits _) ((work.congr same).idle still std) still std _ _

theorem warmArbiter_fits (s : State) : GoalFits s.warmArbiter := recompute_fits .other _

/-- A warm reset leaves a head with no work, STANDING or UNHOMED, which takes the goal (R17, R72). -/
theorem warmReset_agrees (agrees : Agrees s) : Agrees s.warmReset := by
  have rested := warm_rested agrees.ready
  let v := s.warmExchange.warmDiscard.warmTraverse.warmLink.warmBreak.warmArbiter
  have drive : s.warmHead = .unhomed ∨ s.warmHead = .standing := (warmHead_eq s).imp And.left And.left
  have known : s.warmHead = .standing → s.trav.homed = true := by
    intro standing
    have homed := agrees.work.homed
    revert standing homed
    unfold State.warmHead
    cases s.trav.head <;> first
      | exact fun _ homed => homed HeadState.noConfusion
      | exact nofun
  have idle : Idle v := by
    refine ⟨by rw [rested.bin], by rw [rested.std], by rw [rested.bin]; exact nofun, fun _ => by rw [rested.trav]; rfl,
      fun _ => ?_⟩
    rw [rested.trav]
    show (s.trav.homed && decide (s.warmHead = .standing)) = positionKnown s.warmHead
    rcases drive with e | e
    · rw [e]
      exact Bool.and_false _
    · rw [known e, e]
      rfl
  have head : v.trav.head.traversing = false ∧ v.trav.head ≠ .standardizing := by
    rw [rested.trav]
    show s.warmHead.traversing = false ∧ s.warmHead ≠ .standardizing
    rcases drive with e | e <;> rw [e] <;> exact ⟨rfl, HeadState.noConfusion⟩
  exact takeGoalStill_agrees (by rw [rested.ex]; exact agrees.ready) (warmArbiter_fits _) idle head.1 head.2 _ _

/-! ## The commands -/

theorem setField_aside (i : FieldInput) (b : Bool) (p : Pins) (s : State) :
    Aside s { s with pins := p, trav := s.trav.setField i b } := by
  cases i <;> exact { }

theorem fieldActive_sound {f : State → State} (sound : s.Sound) (i : FieldInput)
    (keeps : ∀ v, Agrees v → Agrees (f v)) : (s.fieldActive i f).Sound := by
  unfold State.fieldActive
  split
  · exact sound
  · exact event_sound (Sound.congr sound { }) (keeps _)

/-- A command that is no event, or whose event comes only where a condition holds, leaves the rest. -/
theorem ite_sound {p : Prop} [Decidable p] (sound : s.Sound) (h : p → t.Sound) : (if p then t else s).Sound := by
  split
  · rename_i hp
    exact h hp
  · exact sound

theorem exec_sound (c : Instr) (s t : State) (sound : s.Sound) (run : exec c s = .next t) : t.Sound := by
  cases c <;> cases run
  case coldReset => exact coldState_sound _ _ _
  case starting => exact coldState_sound _ _ _
  case startUpCompletion =>
    exact ite_sound sound fun starting => endEvent_sound (startUpComplete_agrees sound starting.1)
  case apply => exact event_sound sound applyWrite_agrees
  case pendingApplyTaken =>
    exact event_sound sound fun agrees => ite_agrees agrees fun due =>
      applyNow_agrees agrees (Bool.and_eq_true_iff.1 due).2
  case mode => exact event_sound sound fun agrees => modeWrite_agrees agrees _ _ _ _ _ _
  case modeReq => exact event_sound sound fun agrees => (takeRequests_agrees agrees _ _ _).aside (concludeMode_aside _ _)
  case stdNow v =>
    refine event_sound sound fun agrees => Agrees.aside ?_ (concludeMode_aside _ _)
    split
    · exact agrees
    · exact handGoal_agrees (takeStdNow_works agrees.toWorks v) _
  case breakAck => exact event_sound sound fun agrees => (takeBreakAck_agrees agrees _).aside (concludeMode_aside _ _)
  case faultAck => exact event_sound sound fun agrees => (takeFaultAck_agrees agrees _).aside (concludeMode_aside _ _)
  case arm => exact event_sound sound fun agrees => (takeArm_agrees agrees _).aside (concludeMode_aside _ _)
  case restart => exact ite_sound sound fun ready => endEvent_sound (warmReset_agrees (.of_sound sound ready))
  case unknownCode => exact ite_sound sound fun _ => Sound.congr sound { }
  case noticeWrite => exact ite_sound sound fun _ => Sound.congr sound { }
  case noticeMaskWrite => exact ite_sound sound fun _ => Sound.congr sound { }
  case otherRegisterWrite => exact sound
  case exchangeMemoryWrite => exact ite_sound sound fun _ => Sound.congr sound { }
  case stateWordWrite => exact ite_sound sound fun _ => Sound.congr sound { }
  case frameStart => exact ite_sound sound fun _ => Sound.congr sound { }
  case frameReceived => exact event_sound sound fun agrees => frameReceived_agrees agrees _
  case echoTimeout => exact event_sound sound fun agrees => ite_agrees agrees fun _ => echoTimeout_agrees agrees
  case linkGoesDown => exact event_sound sound fun agrees => ite_agrees agrees fun _ => linkDown_agrees agrees.toWorks _
  case linkGoesUp => exact event_sound sound fun agrees => ite_agrees agrees fun _ => linkUp_agrees agrees.toWorks
  case batchFull => exact event_sound sound fun agrees => agrees.aside (checkBatchFull_aside _)
  case gaugeCueFire => exact event_sound sound fun agrees => gaugeDeclare_agrees agrees _
  case standardizeStart => exact event_sound sound fun agrees => (stdStart_agrees agrees).1
  case settleEnd => exact event_sound sound fun agrees => ite_agrees agrees fun _ => agrees.aside (settleEnd_aside _)
  case measureEnd =>
    exact event_sound sound fun agrees => ite_agrees agrees fun due => measureEnd_agrees agrees (measureDue_some due)
  case driveIntervalExpiry => exact event_sound sound driveExpiry_agrees
  case arrival =>
    exact event_sound sound fun agrees => ite_agrees agrees fun due => arrive_agrees agrees (arrivalDue_duty due)
  case stall => exact event_sound sound fun agrees => ite_agrees agrees fun _ => fault_agrees agrees _
  case edgeMissLimitReached => exact event_sound sound fun agrees => agrees.aside (edgeMissReached_aside _ _)
  case alarmStreakReached => exact event_sound sound fun agrees => agrees.aside (streakReached_aside _ _)
  case dwellExpiry => exact event_sound sound dwellExpiry_agrees
  case encoderStep => exact event_sound (Sound.congr sound { }) fun agrees => countStep_agrees agrees _
  case frontLimActive => exact fieldActive_sound sound _ fun _ => frontLimEvent_agrees
  case backLimActive => exact fieldActive_sound sound _ fun _ => backLimEvent_agrees
  case drvFaultActive => exact fieldActive_sound sound _ fun _ => drvFaultEvent_agrees
  case fieldInputInactive input =>
    dsimp only
    split
    · exact Sound.congr sound (setField_aside input false _ s)
    · exact Sound.congr sound { }
  case panelInputChange =>
    split
    · exact sound
    · exact event_sound (Sound.congr sound { }) fun agrees => panelChange_agrees agrees _
  case panelDebounceExpiry => exact event_sound sound fun agrees => panelExpiry_agrees agrees _
  case breakInChange =>
    split
    · exact sound
    · exact event_sound (Sound.congr sound { }) fun agrees => agrees.aside { }
  case lineDebounceExpiry => exact event_sound sound lineExpiry_agrees
  case breakResume => exact event_sound sound checkResume_agrees

theorem pwmTick_head (tr : Traverse) : tr.pwmTick.head = tr.head ∧ tr.pwmTick.homed = tr.homed ∧
    tr.pwmTick.duty = tr.duty := by
  unfold Traverse.pwmTick
  split <;> exact ⟨rfl, rfl, rfl⟩

theorem tick_sound (sound : s.Sound) : s.tick.Sound := by
  unfold State.tick
  refine ite_sound sound fun _ => ?_
  obtain ⟨head, homed, duty⟩ := pwmTick_head s.trav
  rw [enqueue_eq]
  exact Sound.congr sound (Aside.mk { head := head, homed := homed, duty := duty } { })

/-- Settles O6: inside an event the agreement holds of the work, the head and the goal, and the end of the event starts a
standardize that is due and brings the command word to the demand. -/
theorem stepKeepsSound : Obligations.StepKeepsSound := fun _ _ =>
  step_keeps (fun _ _ sound => Sound.congr sound { }) (fun _ => tick_sound) exec_sound

end Sys2Proof.Proofs
end

section
/-!
PROOFS. Part time, the start of a frame, the echo check, and the start of a standardize (R27 to R29, R35 to R37, R48, R111).
-/
namespace Sys2Proof.Proofs

open Sys2Proof.Machine Sys2Proof.Laws

-- One proof after another: threads that wait for each other count against the memory limit of the check.
set_option Elab.async false

variable {s t u : State}

/-! ## The echo check (R36, R37) -/

theorem echoCheck_idle (f : Machine.Frame) (status : Option SlotWord) (idle : s.link.echoPending = false) :
    s.echoCheck f status = s := by
  unfold State.echoCheck
  rw [idle]
  rfl

theorem echoCheck_match (f : Machine.Frame) {w : SlotWord} (pending : s.link.echoPending = true)
    (echo : w.setWidth 4 = s.link.seq) :
    s.echoCheck f (some w) = { s with link := { s.link with echoPending := false, echoCount := 0 } } := by
  have carried : (some w).any (fun w => statusEcho w == s.link.seq) = true := beq_iff_eq.2 echo
  unfold State.echoCheck
  rw [if_pos pending, if_pos carried]

theorem echoCheck_miss (f : Machine.Frame) {status : Option SlotWord} (pending : s.link.echoPending = true)
    (other : ∀ w, status = some w → w.setWidth 4 ≠ s.link.seq) :
    s.echoCheck f status = { s with link := { s.link with
      echoCount := s.link.echoCount + (if f.sinceCommand then 1 else 0) } } := by
  have lost : ¬ status.any (fun w => statusEcho w == s.link.seq) = true := by
    cases status with
    | none => exact Bool.false_ne_true
    | some w => exact fun carried => other w rfl (beq_iff_eq.1 carried)
  unfold State.echoCheck
  rw [if_pos pending, if_neg lost]
  cases f.sinceCommand <;> rfl

theorem frameValid_iff (f : Machine.Frame) (status : Option SlotWord) (s : State) :
    s.frameValid f status = true ↔
      ∃ w, status = some w ∧ statusReady w = true ∧ statusShutterOpen w = true ∧ s.link.echoPending = false ∧
        (f.head = .standardizing → statusRefIn w = s.link.ref) := by
  unfold State.frameValid
  cases status with
  | none => simp
  | some w => by_cases std : f.head = .standardizing <;> simp [std] <;> tauto

/-- Settles O35. -/
theorem echoAndValidity : Obligations.EchoAndValidity := by
  refine ⟨fun f status s => ⟨echoCheck_idle f status, ?_, echoCheck_miss f⟩, fun f status s => frameValid_iff f status s⟩
  rintro w pending rfl echo
  exact echoCheck_match f pending echo

/-! ## The start of a frame (R28, R29) -/

/-- Settles O33. -/
theorem frameStart : Obligations.FrameStart := by
  intro s
  refine ⟨fun ready => ⟨s.frameStart, congrArg Host.Outcome.next (if_pos ready), rfl, ?_, ?_, ?_, ?_, ?_, ?_⟩,
    fun starting => congrArg Host.Outcome.next (if_neg (by rw [starting]; exact nofun))⟩
  all_goals
    let n := s.link.frameCounter + 1
    let u : State := { s with link := { s.link with
      sampleTimer := some s.page.samplePeriod, frameCounter := n, inFlight := some (s.newFrame n) } }
    let v : State := u.liveWords 0x030 [u.link.timeCounter, n]
    have counters : ∀ {lo hi}, hi ≤ 0x08030 ∨ 0x08038 ≤ lo → SameBytes v.mem s.mem lo hi :=
      fun out => liveWords_sameBytes u 0x030 _ out
    have position : ∀ {lo hi}, hi ≤ 0x08044 ∨ 0x08048 ≤ lo → SameBytes s.frameStart.mem v.mem lo hi :=
      fun out => live_sameBytes v 0x044 _ out
  · exact (readWord_of_sameBytes (position (.inl (by decide))) (lo := 0x08030) (hi := 0x08038) (by decide)
      (by decide)).trans (liveWords_liveWord 0x030 [u.link.timeCounter, n] u (i := 0) Nat.zero_lt_two)
  · exact (readWord_of_sameBytes (position (.inl (by decide))) (lo := 0x08030) (hi := 0x08038) (by decide)
      (by decide)).trans (liveWords_liveWord 0x030 [u.link.timeCounter, n] u (i := 1) Nat.one_lt_two)
  · exact live_liveWord 0x044 _ v
  · exact sameBytes_trans (position (.inl (by decide))) (counters (.inl (Nat.le_refl _)))
  · exact sameBytes_trans (position (.inl (Nat.le_refl _))) (counters (.inr (Nat.le_refl _)))
  · exact sameBytes_trans (position (.inr (Nat.le_refl _))) (counters (.inr (by decide)))

/-! ## One microsecond of part time (R27, R48) -/

theorem insertAt_perm (n : Nat) (c : Instr) (q : List Instr) : (insertAt n c q).Perm (c :: q) := by
  induction n generalizing q with
  | zero => exact .refl _
  | succ n ih =>
    cases q with
    | nil => exact .refl _
    | cons x q => exact ((ih q).cons x).trans (.swap c x q)

/-- The queue gets each expiry once, in some order (log entry 4). -/
theorem enqueue_perm (cs : List Instr) (s : State) : (enqueue s cs).pending.Perm (cs ++ s.pending) := by
  induction cs generalizing s with
  | nil => exact .refl _
  | cons c cs ih =>
    unfold enqueue
    split
    · rename_i empty
      rw [empty, List.append_nil]
      exact (ih { s with pending := [c] }).trans List.perm_append_comm
    · exact ((ih _).trans ((insertAt_perm _ c s.pending).append_left cs)).trans List.perm_middle

theorem pwmTick_pwm (tr : Traverse) :
    tr.pwmTick.pwmDuty = (if 50 ≤ tr.pwmPhase + 1 then tr.duty else tr.pwmDuty) ∧
      tr.pwmTick.pwmPhase = (if 50 ≤ tr.pwmPhase + 1 then 0 else tr.pwmPhase + 1) := by
  unfold Traverse.pwmTick
  rw [show Config.pwmPeriodUs = 50 from rfl]
  split <;> exact ⟨rfl, rfl⟩

theorem pwmTick_position (tr : Traverse) : tr.pwmTick.position = tr.position := by
  unfold Traverse.pwmTick
  split <;> rfl

/-- What a microsecond does before its expiries are put into the queue (R27). -/
def ticked (s : State) : State :=
  { s with
    link := { s.link with timeCounter := s.link.timeCounter + 1, sampleTimer := countDown s.link.sampleTimer }
    trav := { s.trav.pwmTick with driveTimer := countDown s.trav.driveTimer, dwellTimer := countDown s.trav.dwellTimer }
    arb := { s.arb with parkTimer := countDown s.arb.parkTimer, inhibitTimer := countDown s.arb.inhibitTimer }
    brk.lineTimer := countDown s.brk.lineTimer }

theorem tick_ready (ready : s.ex.life = .ready) : s.tick = enqueue (ticked s) s.expiries := if_pos ready

theorem tick_starting (starting : s.ex.life = .starting) : s.tick = s := if_neg (by rw [starting]; exact nofun)

/-- Settles O4. -/
theorem idleStepIsOneMicrosecond : Obligations.IdleStepIsOneMicrosecond := by
  intro s empty
  have run : step s = .next s.tick := by
    unfold step
    rw [empty]
  refine ⟨fun starting => by rw [run, tick_starting starting], fun ready => ⟨s.tick, run, ?_⟩⟩
  have queue : s.tick.pending.Perm s.expiries := by
    have perm := enqueue_perm s.expiries (ticked s)
    rw [show (ticked s).pending = [] from empty, List.append_nil] at perm
    rw [tick_ready ready]
    exact perm
  obtain ⟨pwmDuty, pwmPhase⟩ := pwmTick_pwm s.trav
  obtain ⟨head, -, duty⟩ := pwmTick_head s.trav
  refine ⟨?_, ?_, ?_, ?_, ?_, ?_, ?_, ?_, ?_, queue, ?_⟩
  all_goals rw [tick_ready ready, enqueue_eq]
  · rfl
  · rfl
  · rfl
  · rfl
  · rfl
  · rfl
  · rfl
  · exact pwmDuty
  · exact pwmPhase
  · exact ⟨rfl, rfl, rfl, rfl, rfl, rfl, rfl, head, pwmTick_position _, duty⟩

/-! ## The start of a standardize (R111) -/

/-- The context of a standardize that starts now (R111). -/
def startedCtx (s : State) : StdCtx :=
  { phase := .settleOpen, count := 0, startTime := s.link.timeCounter
    chans := s.page.enabledChannels.map (fun c =>
      { chan := c, inCheck := decide (s.page.checkExpect c ≠ 0), old := s.std.refs[c] }) }

theorem stdStart_due (due : s.stdStartDue = true) :
    s.stdStart = ({ s with std.ctx := some (startedCtx s) } : State).setHead .standardizing := if_pos due

/-- What a start writes: the head, its live word, and the context. -/
theorem stdStart_started (due : s.stdStartDue = true) (parked : s.trav.head = .parked) :
    s.stdStart = ({ s with std.ctx := some (startedCtx s), trav := entered .standardizing s.trav } : State).live 0x038 4 := by
  rw [stdStart_due due, setHead_of_ne (by
    show s.trav.head ≠ .standardizing
    rw [parked]
    exact HeadState.noConfusion)]
  rfl

theorem startedCtx_chans {x : StdChan} (mem : x ∈ (startedCtx s).chans) :
    x.inCheck = decide (s.page.checkExpect x.chan ≠ 0) ∧ x.old = s.std.refs[x.chan] ∧
      x.airSum = 0 ∧ x.airCount = 0 ∧ x.checkSum = 0 ∧ x.checkCount = 0 := by
  obtain ⟨c, -, rfl⟩ := List.mem_map.1 mem
  exact ⟨rfl, rfl, rfl, rfl, rfl, rfl⟩

/-- A demand that the command word does not carry goes out with a new SEQ and waits for its echo (R35). -/
theorem commandCompare_changed (changed : ¬ (s.shutterDemand = s.link.shutter ∧ s.refDemand = s.link.ref)) :
    s.commandCompare.link.seq = s.link.seq + 1 ∧ s.commandCompare.link.echoPending = true ∧
      s.commandCompare.link.echoCount = 0 := by
  unfold State.commandCompare
  rw [if_neg changed]
  exact ⟨rfl, rfl, rfl⟩

/-- Settles O39: the row starts the standardize, and the end of the event finds nothing more to start. -/
theorem standardizeStart : Obligations.StandardizeStart := by
  intro s ready goal parked up
  have due : s.stdStartDue = true := by
    rw [State.stdStartDue, goal, parked, up]
    rfl
  have started := stdStart_started due parked
  have rest : s.stdStart.stdStartDue = false := by
    rw [started]
    exact (congrArg (· && _) (Bool.and_false _)).trans (Bool.false_and _)
  have ended : s.stdStart.endEvent = s.endEvent := by
    rw [State.endEvent, stdStart_of_not_due _ rest]
    rfl
  obtain ⟨head, shutter, ref, -⟩ := endEvent_started due
  have frame : s.endEvent = { s.stdStart with link := s.endEvent.link } := commandCompare_frame s.stdStart
  refine completes_event (f := State.stdStart) rfl ready ?_
  rw [ended]
  refine ⟨head, ?_, shutter, ref, fun shut => ?_, ⟨startedCtx s, ?_, rfl, rfl, rfl, ?_, fun x => startedCtx_chans⟩, ?_⟩
  · rw [frame, started]
    exact live_liveWord 0x038 4 _
  · have link : s.stdStart.link = s.link := by
      rw [started]
      rfl
    have demand : s.stdStart.shutterDemand = true := by
      rw [started]
      rfl
    have changed := commandCompare_changed (s := s.stdStart) (by
      rw [demand, link, shut]
      exact fun same => nomatch same.1)
    rw [link] at changed
    exact changed
  · rw [frame, started]
    rfl
  · exact (List.map_map ..).trans (List.map_id _)
  · rw [frame, started]
    exact ⟨rfl, rfl, rfl, rfl⟩

end Sys2Proof.Proofs
end

section
/-!
PROOFS. What the operations of an event leave of the head link: its state and counts, the entries and the notice of the
link, its live word (R36, R38, R40, R41, R44).
-/
namespace Sys2Proof.Proofs

open Sys2Proof.Machine Sys2Proof.Laws

-- One proof after another: threads that wait for each other count against the memory limit of the check.
set_option Elab.async false

variable {s t u : State} {g : Goal}

/-! ## The relation -/

/-- The link stands: an apply may return the counts of R38 to 0 (R44), and a changed command word waits for its echo anew
(R35). -/
structure LinkKept (s t : State) : Prop where
  up : t.link.up = s.link.up := by rfl
  lastTemp : t.link.lastTempAlarm = s.link.lastTempAlarm := by rfl
  flight : s.link.inFlight = none → t.link.inFlight = none := by exact id
  counts : (t.link.lossCount = s.link.lossCount ∧ t.link.goodRun = s.link.goodRun) ∨
    s.ex.applyPending = true ∧ t.link.lossCount = 0 ∧ t.link.goodRun = 0 := by exact .inl ⟨rfl, rfl⟩
  echo : (t.link.echoPending = s.link.echoPending ∧ t.link.echoCount = s.link.echoCount) ∨
    t.link.echoPending = true ∧ t.link.echoCount = 0 := by exact .inl ⟨rfl, rfl⟩
  pending : t.ex.applyPending = true → s.ex.applyPending = true := by exact id
  temp : t.alarms[headTempAlarm] = s.alarms[headTempAlarm] := by rfl
  entry : t.alarms[linkDownAlarm] = s.alarms[linkDownAlarm] := by rfl
  notice : t.noticeSet .link = s.noticeSet .link := by rfl
  word : SameBytes t.mem s.mem 0x0802C 0x08030 := by exact sameBytes_refl _ _ _

theorem LinkKept.refl (s : State) : LinkKept s s := { }

theorem LinkKept.trans (h1 : LinkKept s t) (h2 : LinkKept t u) : LinkKept s u where
  up := h2.up.trans h1.up
  lastTemp := h2.lastTemp.trans h1.lastTemp
  flight := h2.flight ∘ h1.flight
  counts := by
    rcases h2.counts with ⟨loss, run⟩ | ⟨pending, zero⟩
    · rw [loss, run]
      exact h1.counts
    · exact .inr ⟨h1.pending pending, zero⟩
  echo := by
    rcases h2.echo with ⟨waits, count⟩ | zero
    · rw [waits, count]
      exact h1.echo
    · exact .inr zero
  pending := h1.pending ∘ h2.pending
  temp := h2.temp.trans h1.temp
  entry := h2.entry.trans h1.entry
  notice := h2.notice.trans h1.notice
  word := sameBytes_trans h2.word h1.word

theorem LinkKept.liveWord (h : LinkKept s t) : t.liveWord 0x02C = s.liveWord 0x02C :=
  readWord_of_sameBytes h.word (by decide) (by decide)

/-! ## The shared operations -/

theorem ite_linkKept {p : Prop} [Decidable p] (h : LinkKept s t) : LinkKept s (if p then t else s) := by
  split
  · exact h
  · exact .refl s

theorem foldl_linkKept {α : Type} {f : State → α → State} (h : ∀ s a, LinkKept s (f s a)) (l : List α) (s : State) :
    LinkKept s (l.foldl f s) := by
  induction l generalizing s with
  | nil => exact .refl s
  | cons a l ih => exact (h s a).trans (ih _)

theorem foldl_snd_linkKept {α β : Type} {f : β × State → α → β × State} (h : ∀ acc a, LinkKept acc.2 (f acc a).2)
    (l : List α) (acc : β × State) : LinkKept acc.2 (l.foldl f acc).2 := by
  induction l generalizing acc with
  | nil => exact .refl _
  | cons a l ih => exact (h acc a).trans (ih _)

theorem liveWords_linkKept (off : Nat) (ws : List Word) (s : State)
    (out : off + 4 * ws.length ≤ 0x02C ∨ 0x030 ≤ off) : LinkKept s (s.liveWords off ws) :=
  { word := liveWords_sameBytes s off ws (by simp only [liveBase]; omega) }

theorem live_linkKept (off : Nat) (w : Word) (s : State) (out : off + 4 ≤ 0x02C ∨ 0x030 ≤ off := by decide) :
    LinkKept s (s.live off w) :=
  { word := live_sameBytes s off w (by simp only [liveBase]; omega) }

theorem liveTwo_linkKept (off : Nat) (a b : Word) (s : State) (low : off + 8 ≤ 0x02C := by decide) :
    LinkKept s (s.liveWords off [a, b]) := liveWords_linkKept off _ s (.inl low)

theorem liveThree_linkKept (off : Nat) (a b c : Word) (s : State) (low : off + 12 ≤ 0x02C := by decide) :
    LinkKept s (s.liveWords off [a, b, c]) := liveWords_linkKept off _ s (.inl low)

theorem setNotice_linkNotice {n : Notice} (other : n ≠ .link) (s : State) :
    (s.setNotice n).noticeSet .link = s.noticeSet .link := by
  have bit : n.maskBit.getLsbD Notice.link.bit = false := by
    cases n <;> first | rfl | exact absurd rfl other
  unfold State.noticeSet State.setNotice
  rw [BitVec.getLsbD_or, bit, Bool.or_false]

theorem setNotice_linkKept {n : Notice} (other : n ≠ .link) (s : State) : LinkKept s (s.setNotice n) :=
  { notice := setNotice_linkNotice other s }

/-- An alarm entry of another owner than the link. -/
def OtherEntry (i : Fin 48) : Prop := i ≠ headTempAlarm ∧ i ≠ linkDownAlarm

theorem scanAlarm_other (c : Fin 9) (kind : Fin 4) : OtherEntry (scanAlarm c kind) := by
  unfold OtherEntry scanAlarm
  simp only [ne_eq, Fin.ext_iff, headTempAlarm, linkDownAlarm]
  omega

theorem stdFaultAlarm_other (c : Fin 8) : OtherEntry (stdFaultAlarm c) := by
  unfold OtherEntry stdFaultAlarm
  simp only [ne_eq, Fin.ext_iff, headTempAlarm, linkDownAlarm]
  omega

theorem edgeLostAlarm_other (side : Side) : OtherEntry (edgeLostAlarm side) := by
  unfold OtherEntry
  cases side <;> decide

theorem setAlarm_linkKept {i : Fin 48} (other : OtherEntry i) (e : AlarmEntry) (s : State) :
    LinkKept s (s.setAlarm i e) := by
  have frame := setAlarm_frame i e s
  exact
    { up := by rw [frame], lastTemp := by rw [frame], flight := by rw [frame]; exact id
      counts := by rw [frame]; exact .inl ⟨rfl, rfl⟩, echo := by rw [frame]; exact .inl ⟨rfl, rfl⟩
      pending := by rw [frame]; exact id
      temp := (State.setAlarm_get s i headTempAlarm e).trans (if_neg other.1)
      entry := (State.setAlarm_get s i linkDownAlarm e).trans (if_neg other.2)
      notice := by rw [frame]; rfl
      word := setAlarm_sameBytes s i e (.inl (by omega)) }

theorem clearAlarm_linkKept {i : Fin 48} (other : OtherEntry i) (x : Option Int) (s : State) :
    LinkKept s (s.clearAlarm i x) := by
  unfold State.clearAlarm
  dsimp only
  split
  · exact (setAlarm_linkKept other _ s).trans (setNotice_linkKept Notice.noConfusion _)
  · exact setAlarm_linkKept other _ s

theorem raiseAlarm_linkKept {i : Fin 48} (other : OtherEntry i) (x : Option Int) (s : State) :
    LinkKept s (s.raiseAlarm i x).2 := by
  unfold State.raiseAlarm
  dsimp only
  split
  · exact setAlarm_linkKept other _ s
  · exact (setAlarm_linkKept other _ s).trans (setNotice_linkKept Notice.noConfusion _)

theorem produce_linkKept (hd : RecHeader) (body : List Word) (s : State) : LinkKept s (s.produce hd body) := by
  have stored : ∀ (m : Mem) (k : Fin 8) (ws : List Word), SameBytes (writeWord (writeWords m (frameBase k.val + 4) ws)
      (frameBase k.val) readyCode) m 0x0802C 0x08030 := fun m k ws =>
    sameBytes_trans (sameBytes_writeWord _ _ _ (.inl (by simp only [frameBase, storeBase]; omega)))
      (sameBytes_writeWords _ _ _ (.inl (by simp only [frameBase, storeBase]; omega)))
  unfold State.produce
  dsimp only
  split
  · refine LinkKept.trans (LinkKept.trans ?_ (live_linkKept 0x028 0 _)) (setNotice_linkKept ?_ _)
    · exact { word := stored _ _ _ }
    · split <;> exact Notice.noConfusion
  · refine LinkKept.trans (LinkKept.trans ?_ (live_linkKept 0x028 _ _)) (setNotice_linkKept Notice.noConfusion _)
    exact { }

theorem recompute_linkKept (ev : GoalEvent) (s : State) : LinkKept s (s.recompute ev).state := by
  rw [recompute_frame s ev]
  exact { word := recompute_sameBytes s ev (by decide) }

theorem setHead_linkKept (h : HeadState) (s : State) : LinkKept s (s.setHead h) := by
  unfold State.setHead
  split
  · exact .refl s
  · exact { word := sameBytes_writeWord _ _ _ (by decide) }

theorem setBreakState_linkKept (b : BreakState) (s : State) : LinkKept s (s.setBreakState b) := by
  unfold State.setBreakState
  split
  · exact .refl s
  · exact { word := sameBytes_writeWord _ _ _ (by decide) }

theorem setMiss_linkKept (side : Side) (n : Nat) (s : State) : LinkKept s (s.setMiss side n) := by
  have set : LinkKept s (missSet side n s) := by cases side <;> exact { }
  rw [setMiss_eq]
  split
  · exact set.trans (clearAlarm_linkKept (edgeLostAlarm_other side) _ _)
  · exact set

theorem setEdges_linkKept (front back : Int) (s : State) : LinkKept s (s.setEdges front back) :=
  LinkKept.trans (t := { s with bin := { s.bin with edgeFront := front, edgeBack := back } }) { }
    (liveWords_linkKept 0x060 _ _ (.inr (by decide)))

theorem setRef_linkKept (c : Fin 8) (r : RefRecord) (s : State) : LinkKept s (s.setRef c r) :=
  LinkKept.trans (t := { s with std.refs := s.std.refs.set c.val r c.isLt }) { }
    (liveWords_linkKept _ _ _ (.inr (by omega)))

theorem historyAddr_high (i : Fin 32) : 0x08030 ≤ historyAddr i := by
  simp only [historyAddr, historyBase]
  omega

theorem writeHistory_linkKept (head : HeadState) (cues : BitVec 4) (pos cuePos : Word) (work : OpenWork) (record : Word)
    (s : State) : LinkKept s (s.writeHistory head cues pos cuePos work record) := by
  unfold State.writeHistory
  dsimp only
  refine LinkKept.trans ?_ (live_linkKept 0x054 _ _)
  exact { word := sameBytes_writeWords _ _ _ (.inl (historyAddr_high _)) }

/-! ## The head -/

theorem setTrav_linkKept (tr : Traverse) (s : State) : LinkKept s { s with trav := tr } := { }

theorem enterHoming_linkKept (s : State) : LinkKept s s.enterHoming := by
  have entered : LinkKept s (({ s with trav.homed := false } : State).setHead .homing) :=
    (setTrav_linkKept _ s).trans (setHead_linkKept _ _)
  unfold State.enterHoming
  dsimp only
  split
  · exact entered.trans (setTrav_linkKept _ _)
  · exact entered

theorem enterUnhomed_linkKept (s : State) : LinkKept s s.enterUnhomed :=
  (setTrav_linkKept _ s).trans (setHead_linkKept _ _)

theorem enterFaulted_linkKept (cause : FaultCause) (s : State) : LinkKept s (s.enterFaulted cause) :=
  (((setTrav_linkKept _ s).trans (setHead_linkKept _ _)).trans (live_linkKept 0x048 _ _)).trans
    (setNotice_linkKept Notice.noConfusion _)

theorem openScan_linkKept (d : ScanDir) (s : State) : LinkKept s (s.openScan d) := by
  unfold State.openScan State.liveBool
  dsimp only
  refine LinkKept.trans (LinkKept.trans ?_ (live_linkKept 0x058 _ _)) (live_linkKept 0x05C _ _)
  exact { flight := fun none => by dsimp only; rw [none]; rfl }

theorem startBatch_linkKept (s : State) : LinkKept s s.startBatch :=
  { flight := fun none => by dsimp only [State.startBatch]; rw [none]; rfl }

theorem endBatch_linkKept (outcome : RecOutcome) (s : State) : LinkKept s (s.endBatch outcome) := by
  have ended : LinkKept s { s with bin.batch := none } := { }
  unfold State.endBatch
  split
  · exact .refl s
  · cases outcome with
    | complete | thin | aborted => exact ended
    | brk | link | fault => exact ended.trans (produce_linkKept _ _ _)

theorem HeadMove.linkKept (h : HeadMove s t) : LinkKept s t := by
  induction h with
  | stay => exact .refl _
  | homing => exact enterHoming_linkKept _
  | unhomed => exact enterUnhomed_linkKept _
  | returning => exact (setTrav_linkKept _ _).trans (setHead_linkKept _ _)
  | movingToHold => exact (setTrav_linkKept _ _).trans (setHead_linkKept _ _)
  | standing => exact setHead_linkKept _ _
  | stopping => exact setHead_linkKept _ _
  | depart => exact (setHead_linkKept _ _).trans (openScan_linkKept _ _)
  | batchEnded _ _ ih => exact (endBatch_linkKept _ _).trans ih
  | stood _ ih => exact (setHead_linkKept _ _).trans ih

theorem takeGoalStill_linkKept (p e : Bool) (s : State) : LinkKept s (s.takeGoalStill p e) :=
  (takeGoalStill_move p e s).linkKept

/-! ## The reactions of the blocks (Table 1-5) -/

theorem applyBinning_linkKept (h : ApplyHandoff) (s : State) : LinkKept s (s.applyBinning h) := by
  have discarded : LinkKept s (if s.trav.head = .holding then s.discardBatch else s) := ite_linkKept { }
  unfold State.applyBinning
  dsimp only
  refine discarded.trans (ite_linkKept ?_)
  exact ((setEdges_linkKept _ _ _).trans (setMiss_linkKept .front 0 _)).trans (setMiss_linkKept .back 0 _)

theorem applyTraverse_linkKept (h : ApplyHandoff) (s : State) : LinkKept s (s.applyTraverse h) := by
  have unhomed : LinkKept s (if (h.changes.has 0x058 && s.trav.homed) = true then s.enterUnhomed else s) :=
    ite_linkKept (enterUnhomed_linkKept s)
  unfold State.applyTraverse
  dsimp only
  exact unhomed.trans (ite_linkKept (enterFaulted_linkKept _ _))

theorem applyStd_linkKept (h : ApplyHandoff) (s : State) : LinkKept s (s.applyStd h) := by
  have ref : ∀ (v : State) (c : Fin 8), LinkKept v (v.applyRef h c) := fun v c => by
    unfold State.applyRef
    refine ite_linkKept ?_
    exact ((setRef_linkKept _ _ _).trans (clearAlarm_linkKept (stdFaultAlarm_other c) _ _)).trans { }
  exact (foldl_linkKept ref channels8 s).trans { }

theorem applyProfile_linkKept (h : ApplyHandoff) (s : State) : LinkKept s (s.applyProfile h) := by
  have channels := foldl_linkKept (f := fun s (c : Fin 8) => if h.unseeds c then s.unseed c.castSucc else s)
    (fun v c => ite_linkKept (t := v.unseed c.castSucc) { }) channels8 s
  unfold State.applyProfile
  dsimp only
  split
  · exact { }
  · exact channels.trans (ite_linkKept { })

theorem liveDisable_linkKept (c : Fin 9) (s : State) : LinkKept s (s.liveDisable c) :=
  (live_linkKept _ _ _ (.inr (by omega))).trans (live_linkKept _ _ _ (.inr (by omega)))

theorem applyConvert_linkKept (h : ApplyHandoff) (s : State) : LinkKept s (s.applyConvert h) := by
  have channels := foldl_linkKept (f := fun s (c : Fin 8) => if h.disabled c then s.liveDisable c.castSucc else s)
    (fun v c => ite_linkKept (liveDisable_linkKept _ v)) channels8 s
  unfold State.applyConvert
  exact channels.trans (ite_linkKept (liveDisable_linkKept _ _))

theorem resetEntry_linkKept {i : Fin 48} (other : OtherEntry i) (clear : Bool) (s : State) :
    LinkKept s (s.resetEntry i clear) := by
  unfold State.resetEntry
  split
  · exact clearAlarm_linkKept other _ _
  · exact setAlarm_linkKept other _ _

theorem applyLimits_linkKept (h : ApplyHandoff) (s : State) : LinkKept s (s.applyLimits h) := by
  have drop : ∀ (v : State) (k : Fin 9), LinkKept v (v.dropChannel k) := fun v k =>
    foldl_linkKept (fun v kind => resetEntry_linkKept (scanAlarm_other k kind) _ v) scanKinds v
  have limit : ∀ (v : State) (k : Fin 9), LinkKept v (v.applyLimit h k) := fun v k => by
    unfold State.applyLimit
    exact ite_linkKept (foldl_linkKept (fun v kind => resetEntry_linkKept (scanAlarm_other k kind) _ v) scanKinds v)
  have channels := (foldl_linkKept limit channels9 s).trans
    (foldl_linkKept (f := fun s (c : Fin 8) => if h.disabled c then s.dropChannel c.castSucc else s)
      (fun v c => ite_linkKept (drop v _)) channels8 _)
  unfold State.applyLimits
  exact channels.trans (ite_linkKept (drop _ _))

theorem takeWatch_linkKept (s : State) : LinkKept s s.takeWatch.2 := by
  have changed : ∀ b, LinkKept s (s.clearCounts.setBreakState b) := fun b =>
    LinkKept.trans (t := s.clearCounts) { } (setBreakState_linkKept b _)
  unfold State.takeWatch
  split
  · exact .refl s
  · split
    · exact changed _
    · exact .refl s
  · split
    · exact .refl s
    · exact changed _

theorem breakStart_linkKept (s : State) : LinkKept s s.breakStart := by
  let v : State := { s with brk := { s.brk with number := s.brk.number + 1, latch := false } }
  have numbered : LinkKept s v := { }
  have counted : LinkKept (v.live 0x050 (s.brk.number + 1)) (v.live 0x050 (s.brk.number + 1)).clearCounts := { }
  exact ((numbered.trans (live_linkKept 0x050 _ v)).trans counted).trans (setBreakState_linkKept _ _)

theorem declareAtApply_linkKept (s : State) : LinkKept s s.declareAtApply.state :=
  ((breakStart_linkKept s).trans (recompute_linkKept _ _)).trans
    ((writeHistory_linkKept ..).trans (setNotice_linkKept Notice.noConfusion _))

theorem resumeCore_linkKept (s : State) : LinkKept s s.resumeCore := by
  have watched : LinkKept s (s.clearCounts.setBreakState (if s.watches then .watch else .disarmed)) :=
    LinkKept.trans (t := s.clearCounts) { } (setBreakState_linkKept _ _)
  have binned : ∀ v : State, LinkKept v v.binResume := fun v => by
    have missed := (setMiss_linkKept .front 0 v).trans (setMiss_linkKept .back 0 _)
    unfold State.binResume
    dsimp only
    split
    · exact (missed.trans (setEdges_linkKept _ _ _)).trans { }
    · exact missed.trans { }
  refine ((watched.trans (binned _)).trans ?_).trans (setNotice_linkKept Notice.noConfusion _)
  exact { word := sameBytes_writeWord _ _ _ (.inl (Nat.le_add_right_of_le (historyAddr_high _))) }

theorem applyBreak_linkKept (h : ApplyHandoff) (s : State) : LinkKept s (s.applyBreak h).state := by
  have counts : LinkKept s (s.applyCounts h) := { }
  unfold State.applyBreak
  dsimp only
  split
  · exact (counts.trans (resumeCore_linkKept _)).trans (recompute_linkKept _ _)
  · split
    · exact (counts.trans (takeWatch_linkKept _)).trans (declareAtApply_linkKept _)
    · exact counts.trans (takeWatch_linkKept _)

/-! ## The apply (R8, R12, R44) -/

theorem applyReactions_linkKept (h : ApplyHandoff) (s : State) :
    LinkKept (s.applyLink h) (s.applyReactions h).state :=
  ((((((applyBinning_linkKept h _).trans (applyTraverse_linkKept h _)).trans (applyStd_linkKept h _)).trans
    (applyProfile_linkKept h _)).trans (applyConvert_linkKept h _)).trans (applyLimits_linkKept h _)).trans
    ((recompute_linkKept _ _).trans (applyBreak_linkKept h _))

theorem LinkKept.countsZero (kept : LinkKept s t) (pending : s.ex.applyPending = true) :
    LinkKept s { t with link := { t.link with lossCount := 0, goodRun := 0 } } :=
  { kept with counts := .inr ⟨pending, rfl, rfl⟩ }

theorem gateIdle_linkKept (s : State) : LinkKept s s.gateIdle := by
  unfold State.gateIdle
  split
  · exact LinkKept.trans (t := { s with ex.applyPending := false }) { pending := nofun } (live_linkKept 0x004 0 _)
  · exact .refl s

theorem acceptApply_linkKept (s : State) : LinkKept s s.acceptApply := by
  have kept := gateIdle_linkKept
  unfold State.acceptApply
  dsimp only
  refine LinkKept.trans (LinkKept.trans (LinkKept.trans (LinkKept.trans ?_ (liveThree_linkKept 0x01C _ _ _ _))
    (liveTwo_linkKept 0x008 _ _ _)) (kept _)) (setNotice_linkKept Notice.noConfusion _)
  exact { word := copied_sameBytes s (.inr (by decide)) }

theorem refuseApply_linkKept (code : Result) (off : Nat) (s : State) : LinkKept s (s.refuseApply code off) := by
  have judged : LinkKept s { s with ex.gateResult := code } := { }
  exact ((judged.trans (liveTwo_linkKept 0x008 _ _ _)).trans (gateIdle_linkKept _)).trans
    (setNotice_linkKept Notice.noConfusion _)

theorem applyPoint_linkKept (s : State) : LinkKept s s.applyPoint.state := by
  cases pending : s.ex.applyPending with
  | false =>
    rw [applyPoint_idle s pending]
    exact .refl s
  | true =>
    rw [applyPoint_pending s pending]
    cases check : validatePage s.staged with
    | some f =>
      rw [applyTake_refused s check]
      exact refuseApply_linkKept _ _ s
    | none =>
      rw [applyTake_accepted s check]
      refine LinkKept.trans ?_ (applyReactions_linkKept _ _)
      unfold State.applyLink
      split
      · exact (acceptApply_linkKept s).countsZero pending
      · exact acceptApply_linkKept s

/-! ## Goals, breaks and the ends of a standardize -/

theorem abortScan_linkKept (outcome : RecOutcome) (s : State) : LinkKept s (s.abortScan outcome) := by
  cases found : s.bin.scan with
  | none =>
    rw [State.abortScan, found]
    exact .refl s
  | some ctx =>
    rw [abortScan_some found]
    have ended : ∀ v : State, LinkKept v ({ v with bin.scan := none } : State) := fun v => { }
    exact ((produce_linkKept _ _ s).trans (ended _)).trans (live_linkKept 0x058 0 _)

theorem settle_linkKept (r : Recomputed) : LinkKept r.state r.settle := ite_linkKept (takeGoalStill_linkKept _ _ _)

theorem thenEnter_linkKept (r : Recomputed) {step : State → State} (h : ∀ v, LinkKept v (step v)) :
    LinkKept r.state (r.thenEnter step) := by
  have stepped : LinkKept r.state (if r.changed then (step r.state).takeGoalStill r.posChanged false else step r.state) := by
    split
    · exact (h _).trans (takeGoalStill_linkKept _ _ _)
    · exact h _
  unfold Recomputed.thenEnter
  split
  · exact .refl _
  · exact takeGoalStill_linkKept _ _ _
  all_goals exact stepped

theorem finishStd_linkKept (s : State) : LinkKept s s.finishStd :=
  (setNotice_linkKept (n := .stdz) Notice.noConfusion s).trans { }

theorem stdEarlyEnd_linkKept (outcome : RecOutcome) (result : StdResult) (s : State) :
    LinkKept s (s.stdEarlyEnd outcome result) := by
  unfold State.stdEarlyEnd
  split
  · exact .refl s
  · exact (produce_linkKept _ _ s).trans (finishStd_linkKept _)

theorem takeGoal_linkKept (p : Bool) (s : State) : LinkKept s (s.takeGoal p) := by
  have abort : LinkKept s s.abortForGoal :=
    ((abortScan_linkKept _ s).trans (applyPoint_linkKept _)).trans
      (thenEnter_linkKept _ fun v => (enterAborted_move _ v).linkKept)
  have home : LinkKept s s.abandonForHome := by
    obtain ⟨changed, posChanged, whole⟩ := abandonForHome_eq s
    rw [whole]
    exact ((((stdEarlyEnd_linkKept _ _ s).trans (enterHoming_linkKept _)).trans (applyPoint_linkKept _)).trans
      (recompute_linkKept _ _)).trans (settle_linkKept ⟨_, changed, posChanged⟩)
  unfold State.takeGoal
  split
  iterate 2
    split
    iterate 2 exact .refl s
    iterate 4 exact abort
  · exact ite_linkKept home
  all_goals exact takeGoalStill_linkKept _ _ _

theorem handGoal_linkKept (ev : GoalEvent) (s : State) : LinkKept s (s.handGoal ev) := by
  refine (recompute_linkKept ev s).trans ?_
  unfold State.handGoal
  exact ite_linkKept (takeGoal_linkKept _ _)

theorem declare_linkKept (cues : BitVec 4) (cuePos : Word) (s : State) : LinkKept s (s.declare cues cuePos) :=
  ((breakStart_linkKept s).trans (handGoal_linkKept _ _)).trans
    ((writeHistory_linkKept ..).trans (setNotice_linkKept Notice.noConfusion _))

theorem parkAfterStd_linkKept (s : State) : LinkKept s s.parkAfterStd :=
  (((setHead_linkKept _ s).trans (applyPoint_linkKept _)).trans (recompute_linkKept _ _)).trans
    (takeGoalStill_linkKept _ _ _)

theorem stdLinkEnd_linkKept (s : State) : LinkKept s s.stdLinkEnd :=
  ite_linkKept ((stdEarlyEnd_linkKept _ _ s).trans (parkAfterStd_linkKept _))

theorem actOnResult_linkKept (acc : Bool × State) (e : StdEntry) : LinkKept acc.2 (State.actOnResult acc e).2 := by
  have tried : LinkKept acc.2 (acc.2.setUntried e.chan false) := { }
  unfold State.actOnResult
  dsimp only
  split
  · exact (tried.trans (setRef_linkKept _ _ _)).trans (clearAlarm_linkKept (stdFaultAlarm_other _) _ _)
  all_goals exact tried.trans (raiseAlarm_linkKept (stdFaultAlarm_other _) _ _)

theorem stdConclude_linkKept (s : State) : LinkKept s s.stdConclude := by
  unfold State.stdConclude
  split
  · exact .refl s
  · exact ((foldl_snd_linkKept actOnResult_linkKept _ (false, s)).trans (produce_linkKept _ _ _)).trans
      (finishStd_linkKept _)

theorem measureEnd_linkKept (s : State) : LinkKept s s.measureEnd := by
  have begun : LinkKept s s.beginSettleRef := by
    unfold State.beginSettleRef
    split
    · exact .refl s
    · exact { }
  unfold State.measureEnd
  split
  · exact begun
  · exact (stdConclude_linkKept s).trans (parkAfterStd_linkKept _)

theorem settleEnd_linkKept (s : State) : LinkKept s s.settleEnd := by
  unfold State.settleEnd
  split
  · exact .refl s
  · exact { }

/-! ## A frame's way through the blocks (R90) -/

theorem stdFrame_linkKept (xs : List Sample) (s : State) : LinkKept s (s.stdFrame xs) := by
  unfold State.stdFrame
  split
  · exact .refl s
  · rename_i ctx _
    have counted : LinkKept s { s with std.ctx := some (ctx.count1 s.link.echoPending xs) } := { }
    dsimp only
    split
    · exact counted.trans (settleEnd_linkKept _)
    · exact counted.trans (ite_linkKept (measureEnd_linkKept _))

theorem checkBatchFull_linkKept (s : State) : LinkKept s s.checkBatchFull := by
  have ended : LinkKept s { s with bin.batch := none } := { }
  unfold State.checkBatchFull
  split
  · exact ite_linkKept ((ended.trans (produce_linkKept _ _ _)).trans (startBatch_linkKept _))
  · exact .refl s

theorem batchFrame_linkKept (f : Machine.Frame) (xs : List Sample) (s : State) : LinkKept s (s.batchFrame f xs) := by
  have taken : ∀ (v : State) (b : Option Batch), LinkKept v ({ v with bin.batch := b } : State) := fun _ _ => { }
  unfold State.batchFrame
  refine ite_linkKept ?_
  split
  · exact ite_linkKept ((taken s _).trans (checkBatchFull_linkKept _))
  · exact ite_linkKept (((startBatch_linkKept s).trans (taken _ _)).trans (checkBatchFull_linkKept _))

theorem scanFrame_linkKept (f : Machine.Frame) (xs : List Sample) (s : State) : LinkKept s (s.scanFrame f xs) := by
  unfold State.scanFrame
  split
  · exact ite_linkKept { }
  · exact .refl s

theorem breakFrame_linkKept (f : Machine.Frame) (xs : List Sample) (s : State) : LinkKept s (s.breakFrame f xs) := by
  have moved : LinkKept s (s.moveCounts f xs) := ite_linkKept { }
  have declared : ∀ v : State, LinkKept v (v.gaugeDeclare f.position) := fun v => by
    unfold State.gaugeDeclare
    split
    · exact .refl _
    · exact declare_linkKept _ _ _
  exact moved.trans (declared _)

theorem liveSamples_linkKept (xs : List Sample) (s : State) : LinkKept s (s.liveSamples xs) := by
  refine foldl_linkKept (fun v x => ?_) xs s
  have shown := live_linkKept (0x0C0 + 4 * x.chan.val) x.validity.code v (.inr (by omega))
  unfold State.liveSample
  dsimp only
  split
  · exact shown.trans (live_linkKept _ _ _ (.inr (by omega)))
  · exact shown

theorem convertFrame_linkKept (f : Machine.Frame) (slots : List SlotRx) (valid : Bool) (s : State) :
    LinkKept s (s.convertFrame f slots valid) := by
  have shown := liveSamples_linkKept (frameSamples s.page s.std.refs slots f.slotCount valid) s
  unfold State.convertFrame State.distribute
  refine shown.trans ?_
  split
  · exact stdFrame_linkKept _ _
  · exact ((scanFrame_linkKept _ _ _).trans (batchFrame_linkKept _ _ _)).trans (breakFrame_linkKept _ _ _)

/-! ## The end of an event (R35, R111) -/

theorem stdStart_linkKept (s : State) : LinkKept s s.stdStart := by
  have begun : ∀ ctx, LinkKept s { s with std.ctx := ctx } := fun _ => { }
  exact ite_linkKept ((begun _).trans (setHead_linkKept _ _))

theorem commandCompare_linkKept (s : State) : LinkKept s s.commandCompare := by
  unfold State.commandCompare
  split
  · exact .refl s
  · exact { flight := fun none => by dsimp only; rw [none]; rfl, echo := .inr ⟨rfl, rfl⟩ }

theorem endEvent_linkKept (s : State) : LinkKept s s.endEvent := (stdStart_linkKept s).trans (commandCompare_linkKept _)

end Sys2Proof.Proofs
end

section
/-!
PROOFS. The link goes DOWN or UP in a row of its own (R36, R38 to R40): the link, the goal, the work that ends with one
record, and the record of a standardize that the link ends (R118, R119).
-/
namespace Sys2Proof.Proofs

open Sys2Proof.Machine Sys2Proof.Laws

-- One proof after another: threads that wait for each other count against the memory limit of the check.
set_option Elab.async false

variable {s t u v w : State}

/-! ## No record and no end of a standardize -/

/-- No standardize ends or is asked for, and no record is produced. -/
structure RecordsSame (s t : State) : Prop where
  ctx : t.std.ctx = s.std.ctx := by rfl
  scanCount : t.std.scanCount = s.std.scanCount := by rfl
  stdNow : t.std.stdNow = s.std.stdNow := by rfl
  lastRecord : t.ex.lastRecord = s.ex.lastRecord := by rfl
  store : ∀ hi, SameBytes t.mem s.mem storeBase hi := by exact fun _ => sameBytes_refl _ _ _

theorem RecordsSame.refl (s : State) : RecordsSame s s := { }

theorem RecordsSame.trans (h1 : RecordsSame s t) (h2 : RecordsSame t u) : RecordsSame s u where
  ctx := h2.ctx.trans h1.ctx
  scanCount := h2.scanCount.trans h1.scanCount
  stdNow := h2.stdNow.trans h1.stdNow
  lastRecord := h2.lastRecord.trans h1.lastRecord
  store hi := sameBytes_trans (h2.store hi) (h1.store hi)

theorem NoRecord.same (h : NoRecord s t) : RecordsSame s t := ⟨h.ctx, h.scanCount, h.stdNow, h.lastRecord, h.store⟩

theorem setHead_records (h : HeadState) (s : State) : RecordsSame s (s.setHead h) := by
  unfold State.setHead
  split
  · exact .refl s
  · exact { store := fun _ => sameBytes_writeWord _ _ _ (.inr (by decide)) }

theorem setTrav_records (tr : Traverse) (s : State) : RecordsSame s { s with trav := tr } := { }

theorem openScan_records (d : ScanDir) (s : State) : RecordsSame s (s.openScan d) :=
  have shown : ∀ (v : State) hi, SameBytes ((v.liveBool 0x058 true).live 0x05C s.link.timeCounter).mem v.mem storeBase hi :=
    fun v _ => sameBytes_trans (live_sameBytes _ 0x05C _ (.inr (by decide))) (live_sameBytes v 0x058 _ (.inr (by decide)))
  { store := fun _ => shown _ _ }

/-- A head without a batch takes a goal and produces no record. -/
theorem HeadMove.records (h : HeadMove s t) (batch : s.bin.batch = none) : RecordsSame s t ∧ t.bin.batch = none := by
  induction h with
  | stay s => exact ⟨.refl s, batch⟩
  | homing s => exact ⟨(enterHoming_noRecord s).same, by rw [(enterHoming_driveMoved s).frame]; exact batch⟩
  | unhomed s => exact ⟨(enterUnhomed_noRecord s).same, (State.enterUnhomed_bin s) ▸ batch⟩
  | returning s =>
    exact ⟨(setTrav_records _ s).trans (setHead_records _ _), by rw [State.enterReturning, State.setHead_bin]; exact batch⟩
  | movingToHold s =>
    exact ⟨(setTrav_records _ s).trans (setHead_records _ _),
      by rw [State.enterMovingToHold, State.setHead_bin]; exact batch⟩
  | standing s => exact ⟨setHead_records _ s, by rw [State.enterStanding, State.setHead_bin]; exact batch⟩
  | stopping s => exact ⟨setHead_records _ s, by rw [State.enterStopping, State.setHead_bin]; exact batch⟩
  | depart s d =>
    refine ⟨(setHead_records _ s).trans (openScan_records d _), ?_⟩
    show (s.setHead _).bin.batch = none
    rw [State.setHead_bin]
    exact batch
  | batchEnded outcome _ ih =>
    rename_i s t _
    have same : s.endBatch outcome = s := by
      unfold State.endBatch
      rw [batch]
    rw [same] at ih
    exact ih batch
  | stood _ ih =>
    rename_i s t _
    obtain ⟨same, none⟩ := ih (by rw [State.enterStanding, State.setHead_bin]; exact batch)
    exact ⟨(setHead_records _ s).trans same, none⟩

/-- The end of an event in which no standardize starts moves the link alone. -/
theorem endEvent_records (rest : s.stdStartDue = false) : RecordsSame s s.endEvent := by
  rw [endEvent_frame rest]
  exact { }

theorem recompute_records (ev : GoalEvent) (s : State) : RecordsSame s (s.recompute ev).state :=
  (recompute_noRecord ev s).same

/-! ## After the record of an end of a standardize -/

/-- What follows the record leaves it, and leaves no context (R117, R119). -/
theorem parkAfterStd_records (free : Free s) (duty : s.trav.duty = 0) : RecordsSame s s.parkAfterStd := by
  have parked := enterParked_head s
  have entered := enterParked_workOk free duty
  have idle : Idle s.enterParked := entered.idle (by rw [parked]; rfl) (by rw [parked]; exact HeadState.noConfusion)
  have reacted := applyPoint_reacted s.enterParked
  have same := recompute_workSame .other s.enterParked.applyPoint.state
  have left := (reacted.idle idle).congr same
  have batch : (s.enterParked.applyPoint.state.recompute .other).state.bin.batch = none := by
    refine no_batch left.batch ?_
    rw [same.head]
    rcases reacted.head with e | e | e <;> rw [e]
    · rw [parked]; exact HeadState.noConfusion
    · exact HeadState.noConfusion
    · exact HeadState.noConfusion
  exact (((setHead_records _ s).trans (applyPoint_noRecord _).same).trans (recompute_records _ _)).trans
    ((takeGoalStill_move _ _ _).records batch).1

/-! ## The link goes DOWN -/

theorem raiseAlarm_lowBytes (i : Fin 48) (x : Option Int) (s : State) {lo hi : Nat} (low : hi ≤ 0x08200) :
    SameBytes (s.raiseAlarm i x).2.mem s.mem lo hi := by
  unfold State.raiseAlarm
  dsimp only
  split
  · exact setAlarm_sameBytes s i _ (.inl (by omega))
  · exact setAlarm_sameBytes s i _ (.inl (by omega))

theorem clearAlarm_lowBytes (i : Fin 48) (x : Option Int) (s : State) {lo hi : Nat} (low : hi ≤ 0x08200) :
    SameBytes (s.clearAlarm i x).mem s.mem lo hi := by
  unfold State.clearAlarm
  dsimp only
  split
  · exact setAlarm_sameBytes s i _ (.inl (by omega))
  · exact setAlarm_sameBytes s i _ (.inl (by omega))

theorem raiseAlarm_others {i j : Fin 48} (other : i ≠ j) (x : Option Int) (s : State) :
    (s.raiseAlarm i x).2.alarms[j] = s.alarms[j] := by
  unfold State.raiseAlarm
  dsimp only
  split
  · exact (State.setAlarm_get s i j _).trans (if_neg other)
  · exact (State.setAlarm_get s i j _).trans (if_neg other)

theorem linkDownCore_word (cause : LinkCause) (s : State) : (s.linkDownCore cause).liveWord 0x02C = 0 := by
  let down : State := ({ s with
    link := { s.link with up := false, lossCount := 0, goodRun := 0, echoCount := 0 } } : State).live 0x02C 0
  have shown : down.liveWord 0x02C = 0 := live_liveWord 0x02C 0 _
  exact (readWord_of_sameBytes (raiseAlarm_lowBytes linkDownAlarm (some cause.code) down (Nat.le_refl _)) (Nat.zero_le _)
    (by decide)).trans shown

theorem linkDownCore_others (cause : LinkCause) (s : State) {j : Fin 48} (other : linkDownAlarm ≠ j) :
    (s.linkDownCore cause).alarms[j] = s.alarms[j] :=
  raiseAlarm_others other _ _

/-- The goal by the claims while the link is DOWN (R74). -/
theorem claimedGoal_down (ready : s.ex.life = .ready) (down : s.link.up = false) : s.claimedGoal = .park := by
  refine claimedGoal_of_demand ?_
  rw [State.linkDemand, ready, down]
  exact Bool.or_true _

/-- The state in which the head takes the goal that the link's loss hands it: the link is DOWN, the goal PARK, and the
blocks else are as they were. -/
structure LinkLost (cause : LinkCause) (s w : State) : Prop where
  link : w.link = { s.link with up := false, lossCount := 0, goodRun := 0, echoCount := 0 }
  goal : w.arb.goal = .park
  claims : w.claimedGoal = .park
  trav : w.trav = s.trav
  bin : w.bin = s.bin
  std : w.std = s.std
  ex : w.ex = { s.ex with notice := w.ex.notice }
  brk : w.brk = s.brk
  others : ∀ j, linkDownAlarm ≠ j → w.alarms[j] = s.alarms[j]
  memory : LiveAlone s w

/-- Handing the lost link's goal to the head: it takes it, or it had the goal PARK already (R40, R73). -/
theorem linkDownCore_handGoal (ready : s.ex.life = .ready) (cause : LinkCause) : ∃ w p, LinkLost cause s w ∧
    (((s.linkDownCore cause).handGoal .linkRaised = w ∧ s.arb.goal = .park) ∨
      (w.arb.cause = .link ∧ (s.linkDownCore cause).handGoal .linkRaised = w.takeGoal p)) := by
  let d := s.linkDownCore cause
  have dropped : LinkDropped cause s d := linkDownCore_dropped cause s
  have claims : d.claimedGoal = .park :=
    claimedGoal_down (by rw [dropped.frame]; exact ready) (by rw [dropped.frame])
  obtain ⟨ex, std, trav, link, bin, -, brk⟩ := recompute_ex .linkRaised d
  have frame := recompute_frame d .linkRaised
  have lost : LinkLost cause s (d.recompute .linkRaised).state :=
    { link := by rw [link, dropped.frame]
      goal := (recompute_goal d .linkRaised).trans claims
      claims := (recompute_claims .linkRaised d).trans claims
      trav := by rw [trav, dropped.frame], bin := by rw [bin, dropped.frame], std := by rw [std, dropped.frame]
      ex := by rw [ex, dropped.frame], brk := by rw [brk, dropped.frame]
      others := fun j other => by
        have alarms : (d.recompute .linkRaised).state.alarms = d.alarms := by rw [frame]
        rw [alarms]
        exact linkDownCore_others cause s other
      memory := dropped.memory.trans (recompute_liveAlone .linkRaised d) }
  refine ⟨_, (d.recompute .linkRaised).posChanged, lost, ?_⟩
  rcases handGoal_cases d .linkRaised with ⟨same, e⟩ | ⟨changed, e⟩
  · refine .inl ⟨e, ?_⟩
    have goal := recompute_goal_same same
    rw [lost.goal] at goal
    rw [goal, dropped.frame]
  · exact .inr ⟨(recompute_cause .linkRaised changed).trans (by rw [claims]; rfl), e⟩

/-- Work that is open as the link goes DOWN. -/
def openWork (s : State) : Bool := s.bin.scan.isSome || s.bin.batch.isSome || s.std.ctx.isSome

/-- Off the sheet no scan and no batch is open (Figure 3-2, R133). -/
theorem WorkOk.off_sheet (work : WorkOk s) (shut : s.trav.head.shutterOpen = false) :
    s.bin.scan = none ∧ s.bin.batch = none := by
  refine ⟨Option.not_isSome_iff_eq_none.1 ?_, no_batch work.batch fun holding => by rw [holding] at shut; cases shut⟩
  rw [work.scan]
  revert shut
  cases s.trav.head <;> decide

theorem openWork_off_sheet (work : WorkOk s) (shut : s.trav.head.shutterOpen = false) (std : s.std.ctx = none) :
    openWork s = false := by
  obtain ⟨scan, batch⟩ := work.off_sheet shut
  rw [openWork, scan, batch, std]
  rfl

/-- The scan that the link ends is aborted with one record (R61). -/
theorem abortForGoal_oneRecord (work : WorkOk s) (head : s.trav.head.traversing = true) :
    s.abortForGoal.ex.lastRecord = s.ex.lastRecord + 1 ∧ s.abortForGoal.std.ctx = none := by
  obtain ⟨idle, trav⟩ := abortScan_idle work head s.arb.cause.outcome
  obtain ⟨ctx, found⟩ := Option.isSome_iff_exists.1 (work.scan.trans head)
  have one : (s.abortScan s.arb.cause.outcome).ex.lastRecord = s.ex.lastRecord + 1 := by
    rw [abortScan_some found]
    exact produce_number s _ _
  have reacted := applyPoint_reacted (s.abortScan s.arb.cause.outcome)
  have point := (applyPoint_noRecord (s.abortScan s.arb.cause.outcome)).same
  have left := reacted.idle idle
  let r := (s.abortScan s.arb.cause.outcome).applyPoint
  have batch : r.state.bin.batch = none := by
    refine no_batch left.batch ?_
    rcases reacted.head with e | e | e <;> rw [e]
    · rw [trav]
      intro holding
      rw [holding] at head
      cases head
    · exact HeadState.noConfusion
    · exact HeadState.noConfusion
  have moved := (enterAborted_move s.arb.goal r.state).records batch
  have entered : RecordsSame r.state (r.thenEnter (State.enterAborted s.arb.goal)) := by
    have stepped : RecordsSame r.state (if r.changed then
        (r.state.enterAborted s.arb.goal).takeGoalStill r.posChanged false else r.state.enterAborted s.arb.goal) := by
      split
      · exact moved.1.trans ((takeGoalStill_move _ _ _).records moved.2).1
      · exact moved.1
    unfold Recomputed.thenEnter
    split
    · exact .refl _
    · exact ((takeGoalStill_move _ _ _).records batch).1
    all_goals exact stepped
  have all := point.trans entered
  exact ⟨all.lastRecord.trans one, all.ctx.trans idle.std⟩

/-- The batch that the link ends is handed for its record (R135). -/
theorem endBatch_link_oneRecord {b : Batch} (found : s.bin.batch = some b) :
    (s.endBatch .link).ex.lastRecord = s.ex.lastRecord + 1 := by
  unfold State.endBatch
  rw [found]
  exact produce_number { s with bin.batch := none } _ _

/-- The goal PARK of a lost link, taken by a head that is not STANDARDIZING: open work ends with one record (R61, R135). -/
theorem takeGoal_oneRecord (work : WorkOk s) (goal : s.arb.goal = .park) (cause : s.arb.cause = .link)
    (std : s.std.ctx = none) (p : Bool) :
    (s.takeGoal p).ex.lastRecord = s.ex.lastRecord + (if openWork s then 1 else 0) ∧ (s.takeGoal p).std.ctx = none := by
  have other : s.trav.head ≠ .standardizing := by
    have iff := work.std
    rw [std] at iff
    exact of_decide_eq_false iff.symm
  cases still : s.trav.head.traversing with
  | true =>
    have scan : s.bin.scan.isSome = true := work.scan.trans still
    have whole : s.takeGoal p = s.abortForGoal :=
      takeGoal_traversing p (traversing_iff.1 still) (by rw [goal]; exact Goal.noConfusion)
        (by rw [goal]; exact Goal.noConfusion)
    rw [whole, openWork, scan]
    exact abortForGoal_oneRecord work still
  | false =>
    have scan : s.bin.scan.isSome = false := work.scan.trans still
    have whole : s.takeGoal p = s.takeGoalStill p false := by
      unfold State.takeGoal
      cases head : s.trav.head with
      | outbound | inbound => rw [head] at still; cases still
      | standardizing => exact absurd head other
      | unhomed | homing | parked | standing | turning | holding | movingToHold | returning | stopping | faulted => rfl
    have kept := takeGoalStill_kept p false s
    rw [whole]
    refine ⟨?_, by rw [kept.std]; exact std⟩
    cases found : s.bin.batch with
    | none =>
      have idle : openWork s = false := by
        rw [openWork, scan, found, std]
        rfl
      rw [idle]
      exact ((takeGoalStill_move p false s).records found).1.lastRecord.trans (BitVec.add_zero _).symm
    | some b =>
      have holding : s.trav.head = .holding := work.batch (by rw [found]; rfl)
      have left : s.takeGoalStill p false = (s.endBatch .link).enterReturning := by
        rw [State.takeGoalStill, holding, goal, cause]
        rfl
      have busy : openWork s = true := by
        rw [openWork, scan, found]
        rfl
      rw [left, busy]
      refine Eq.trans ?_ (endBatch_link_oneRecord found)
      exact ((setTrav_records _ _).trans (setHead_records _ _)).lastRecord

theorem LinkLost.workSame {cause : LinkCause} (lost : LinkLost cause s w) : WorkSame s w where
  head := by rw [lost.trav]
  homed := by rw [lost.trav]
  duty := by rw [lost.trav]
  scan := by rw [lost.bin]
  batch := by rw [lost.bin]
  ctx := by rw [lost.std]
  life := by rw [lost.ex]

theorem stdLinkEnd_none (none : s.std.ctx = none) : s.stdLinkEnd = s := by
  rw [State.stdLinkEnd, none]
  rfl

/-- A STANDARDIZING head is left to the sequencer, which ends the standardize (R62, R119). -/
theorem linkDown_std (agrees : Agrees s) {ctx : StdCtx} (found : s.std.ctx = some ctx) (cause : LinkCause) :
    ∃ w, LinkLost cause s w ∧ s.linkDown cause = (w.stdEarlyEnd .link .nodata).parkAfterStd := by
  have head : s.trav.head = .standardizing := of_decide_eq_true (by rw [← agrees.work.std, found]; rfl)
  obtain ⟨w, p, lost, handed⟩ := linkDownCore_handGoal agrees.ready cause
  have same : (s.linkDownCore cause).handGoal .linkRaised = w := by
    rcases handed with ⟨e, -⟩ | ⟨-, e⟩
    · exact e
    · rw [e, State.takeGoal, lost.trav, head]
      exact if_neg (by rw [lost.goal]; exact Goal.noConfusion)
  refine ⟨w, lost, ?_⟩
  rw [State.linkDown, same, State.stdLinkEnd, lost.std, found]
  rfl

/-- What an early end leaves is free to be PARKED. -/
theorem stdEarlyEnd_free (work : WorkOk s) (head : s.trav.head = .standardizing) (outcome : RecOutcome)
    (result : StdResult) :
    Free (s.stdEarlyEnd outcome result) ∧ (s.stdEarlyEnd outcome result).trav.duty = 0 := by
  obtain ⟨scan, batch, duty, homed⟩ := work.standardizing head
  obtain ⟨none, bin, trav, -⟩ := stdEarlyEnd_work outcome result s
  exact ⟨⟨by rw [bin]; exact scan, none, by rw [bin]; exact batch, by rw [trav]; exact homed⟩, by rw [trav]; exact duty⟩

/-- What the link's loss leaves of the work: nothing open, and one record where something was (R61, R119, R135). -/
theorem linkDown_oneRecord (agrees : Agrees s) (cause : LinkCause) :
    (s.linkDown cause).ex.lastRecord = s.ex.lastRecord + (if openWork s then 1 else 0) ∧
      (s.linkDown cause).std.ctx = none := by
  cases found : s.std.ctx with
  | some ctx =>
    obtain ⟨w, lost, whole⟩ := linkDown_std agrees found cause
    have head : w.trav.head = .standardizing := of_decide_eq_true (by
      rw [lost.trav, ← agrees.work.std, found]
      rfl)
    obtain ⟨free, duty⟩ := stdEarlyEnd_free (agrees.work.congr lost.workSame) head .link .nodata
    have early := stdEarlyEnd_earlyEnd (s := w) (by rw [lost.std]; exact found) .link .nodata
    have parked := parkAfterStd_records free duty
    rw [whole, openWork, found, Option.isSome_some, Bool.or_true]
    exact ⟨(parked.lastRecord.trans early.lastRecord).trans (by rw [lost.ex]; rfl), parked.ctx.trans early.ended⟩
  | none =>
    obtain ⟨w, p, lost, handed⟩ := linkDownCore_handGoal agrees.ready cause
    have lostWork : WorkOk w := agrees.work.congr lost.workSame
    have number : w.ex.lastRecord = s.ex.lastRecord := by rw [lost.ex]
    have work : openWork w = openWork s := by rw [openWork, openWork, lost.bin, lost.std]
    have std : w.std.ctx = none := by rw [lost.std]; exact found
    have taken : ((s.linkDownCore cause).handGoal .linkRaised).ex.lastRecord =
        s.ex.lastRecord + (if openWork s then 1 else 0) ∧
        ((s.linkDownCore cause).handGoal .linkRaised).std.ctx = none := by
      rcases handed with ⟨e, park⟩ | ⟨cause, e⟩
      · rw [e]
        refine ⟨?_, std⟩
        have sheet := ((allows_iff s.arb.goal s.trav.head).1 agrees.allowed).2
        have idle := openWork_off_sheet agrees.work (Bool.eq_false_iff.2 fun opened => (sheet opened).1 park) found
        rw [number, idle]
        exact (BitVec.add_zero _).symm
      · rw [e, ← number, ← work]
        exact takeGoal_oneRecord lostWork lost.goal cause std p
    rw [State.linkDown, stdLinkEnd_none taken.2]
    exact taken

/-! ## The record of a standardize that the link ends (R118, R119) -/

/-- The four words of a channel in the record of an early end. -/
theorem earlyBody_channel {ctx : StdCtx} {result : StdResult} {h : RecHeader} {k : Fin 8}
    (found : findFree s.mem s.ex.nextFrame = some k) {m : Mem}
    (same : ∀ hi, SameBytes m (s.produce h (earlyBody ctx result)).mem storeBase hi) {i : Nat}
    (hi : i < ctx.chans.length) :
    let word := fun i => readWord m (frameBase k.val + 4 * i)
    word (16 + 4 * i) = (if ctx.chans[i].old.accepted = true then BitVec.ofNat 32 ctx.chans[i].old.value else 0) ∧
      word (17 + 4 * i) = 0 ∧ word (18 + 4 * i) = 0 ∧ word (19 + 4 * i) = result.code := by
  have entry := fun j (hj : j < 4) => earlyBody_getElem? ctx result hi hj
  have word := fun {j : Nat} {w : Word} (e : (earlyBody ctx result)[4 * i + j]? = some w) => record_bodyWord found same e
  dsimp only
  rw [show 17 + 4 * i = 16 + (4 * i + 1) by omega, show 18 + 4 * i = 16 + (4 * i + 2) by omega,
    show 19 + 4 * i = 16 + (4 * i + 3) by omega]
  refine ⟨(word (entry 0 (by decide))).trans ?_, word (entry 1 (by decide)), word (entry 2 (by decide)),
    word (entry 3 (by decide))⟩
  simp only [earlyEntry, Word.ofCount]
  split <;> rfl

/-- With no apply pending the head is PARKED under the goal PARK, and the rest stands as the record left it. -/
theorem parkAfterStd_park (idle : s.ex.applyPending = false) (claims : s.claimedGoal = .park) :
    s.parkAfterStd = (s.enterParked.recompute .other).state := by
  let n := s.enterParked
  have kept : HeadKept s n := setHead_kept .parked s
  have pending : n.ex.applyPending = false := by rw [kept.ex]; exact idle
  have head : (n.recompute .other).state.trav.head = .parked := by
    rw [(recompute_ex .other n).2.2.1]
    exact enterParked_head s
  have goal : (n.recompute .other).state.arb.goal = .park := (recompute_goal n .other).trans (kept.claims.trans claims)
  unfold State.parkAfterStd
  dsimp only
  rw [applyPoint_idle n pending, State.takeGoalStill, head, goal]

/-- What a PARKED end leaves of the references, the marks, the entries and the due condition. -/
theorem parkAfterStd_park_rest (idle : s.ex.applyPending = false) (claims : s.claimedGoal = .park) :
    s.parkAfterStd.std = s.std ∧ s.parkAfterStd.alarms = s.alarms ∧ s.parkAfterStd.trav.head = .parked := by
  rw [parkAfterStd_park idle claims]
  obtain ⟨-, std, trav, -⟩ := recompute_ex .other s.enterParked
  have frame := recompute_frame s.enterParked .other
  refine ⟨std.trans (State.setHead_std ..), ?_, by rw [trav]; exact enterParked_head s⟩
  rw [frame]
  exact State.setHead_alarms ..

/-- What the link's loss leaves of the standardize that it ends. -/
theorem linkDown_stdEndedEarly (agrees : Agrees s) {ctx : StdCtx} (found : s.std.ctx = some ctx) (cause : LinkCause) :
    StdEndedEarly ctx 4 2 s (s.linkDown cause).endEvent ∧ (s.ex.applyPending = false →
      (s.linkDown cause).trav.head = .parked) := by
  obtain ⟨w, lost, whole⟩ := linkDown_std agrees found cause
  have head : w.trav.head = .standardizing := of_decide_eq_true (by
    rw [lost.trav, ← agrees.work.std, found]
    rfl)
  let e := w.stdEarlyEnd .link .nodata
  have foundW : w.std.ctx = some ctx := by rw [lost.std]; exact found
  have early : EarlyEnd ctx .link .nodata w e := stdEarlyEnd_earlyEnd foundW .link .nodata
  obtain ⟨free, duty⟩ := stdEarlyEnd_free (agrees.work.congr lost.workSame) head .link .nodata
  have down : e.parkAfterStd.link.up = false := by
    rw [(parkAfterStd_linkKept e).up, early.link, lost.link]
  have rest : e.parkAfterStd.stdStartDue = false := by
    rw [State.stdStartDue, down]
    exact Bool.and_false _
  have after : RecordsSame e e.parkAfterStd.endEvent := (parkAfterStd_records free duty).trans (endEvent_records rest)
  have frame := endEvent_frame rest
  have store : ∀ hi, SameBytes e.parkAfterStd.endEvent.mem
      (w.produce (earlyHeader ctx .link w.link.timeCounter) (earlyBody ctx .nodata)).mem storeBase hi := fun hi =>
    sameBytes_trans (after.store hi) (early.store hi)
  have claims : e.claimedGoal = .park :=
    claimedGoal_down (early.life.trans (lost.workSame.life.trans agrees.ready)) (by rw [early.link, lost.link])
  have pending : e.ex.applyPending = s.ex.applyPending := early.pending.trans (by rw [lost.ex])
  rw [whole]
  refine ⟨⟨after.ctx.trans early.ended, ?_, after.scanCount.trans early.scanCount, after.stdNow.trans early.stdNow,
    (after.lastRecord.trans early.lastRecord).trans (by rw [lost.ex]), fun k free => ?_, fun idle => ?_⟩, fun idle => ?_⟩
  · exact (parkAfterStd_evolves.trans endEvent_evolves).frame.notices (Set.notMem_empty _) _ early.stdz
  · have free' : findFree w.mem w.ex.nextFrame = some k := by
      rw [findFree_congr (lost.memory.same (.inr (by decide))), lost.ex]
      exact free
    have number : w.ex.lastRecord = s.ex.lastRecord := by rw [lost.ex]
    have time : w.link.timeCounter = s.link.timeCounter := by rw [lost.link]
    have generation : w.ex.generation = s.ex.generation := by rw [lost.ex]
    obtain ⟨ready, words⟩ := record_words free' (store 0x40000)
    refine ⟨ready, words 0 (by decide), (words 1 (by decide)).trans (congrArg (· + 1) number), words 3 (by decide),
      words 4 (by decide), (words 5 (by decide)).trans generation, words 6 (by decide), (words 7 (by decide)).trans time,
      words 8 (by decide), words 9 (by decide), words 10 (by decide), words 11 (by decide), words 12 (by decide),
      words 13 (by decide), (words 14 (by decide)).trans ?_, fun i hi => earlyBody_channel free' store hi⟩
    rw [← length_earlyBody ctx .nodata]
    rfl
  · obtain ⟨std, alarms, -⟩ := parkAfterStd_park_rest (pending.trans idle) claims
    rw [frame]
    refine ⟨by rw [std, early.refs, lost.std], by rw [std, early.untried, lost.std], fun c => ?_, ?_⟩
    · dsimp only
      rw [alarms, early.alarms]
      exact lost.others _ (stdFaultAlarm_other c).2.symm
    · dsimp only
      rw [std, early.due, lost.std]
  · exact (parkAfterStd_park_rest (pending.trans idle) claims).2.2

/-! ## The rows -/

/-- What the row of a link that goes DOWN leaves. -/
structure WentDown (cause : LinkCause) (s t : State) : Prop where
  sound : t.Sound
  up : t.link.up = false
  counts : t.link.lossCount = 0 ∧ t.link.goodRun = 0 ∧ t.link.echoCount = 0
  waits : s.link.echoPending = true → t.link.echoPending = true
  word : t.liveWord 0x02C = 0
  entry : t.alarms[linkDownAlarm].active = true ∧ t.alarms[linkDownAlarm].lastValue = cause.code
  notice : t.noticeSet .link = true
  goal : t.arb.goal = .park
  scan : t.bin.scan = none
  batch : t.bin.batch = none
  ctx : t.std.ctx = none
  shut : t.trav.head.shutterOpen = false
  other : t.trav.head ≠ .standardizing
  record : t.ex.lastRecord = s.ex.lastRecord + (if openWork s then 1 else 0)
  std : ∀ ctx, s.std.ctx = some ctx → StdEndedEarly ctx 4 2 s t ∧
    (s.ex.applyPending = false → t.trav.head = .parked ∧ t.link.shutter = false ∧ t.link.ref = false)

/-- A head off the sheet that is not STANDARDIZING demands neither the shutter nor the reference (R34). -/
theorem demands_of_head {h : HeadState} (head : s.trav.head = h) (shut : h.shutterOpen = false)
    (other : h ≠ .standardizing) : s.shutterDemand = false ∧ s.refDemand = false := by
  rw [State.shutterDemand, State.refDemand, head, if_neg other, decide_eq_false other]
  exact ⟨shut, Bool.false_and _⟩

theorem linkDown_wentDown (agrees : Agrees s) (cause : LinkCause) : WentDown cause s (s.linkDown cause).endEvent := by
  have dropped := linkDownCore_dropped cause s
  have kept : LinkKept (s.linkDownCore cause) (s.linkDown cause).endEvent :=
    ((handGoal_linkKept _ _).trans (stdLinkEnd_linkKept _)).trans (endEvent_linkKept _)
  have down := linkDown_agrees agrees.toWorks cause
  have sound := endEvent_sound down
  have ended := endEvent_kept (s.linkDown cause)
  have up : (s.linkDown cause).endEvent.link.up = false := by rw [kept.up, dropped.frame]
  have rest : (s.linkDown cause).stdStartDue = false := by
    rw [State.stdStartDue, ended.up.symm.trans up]
    exact Bool.and_false _
  have ready : (s.linkDown cause).endEvent.ex.life = .ready := by rw [ended.ex]; exact down.ready
  have goal : (s.linkDown cause).endEvent.arb.goal = .park :=
    (sound.goal.goal ready).trans (claimedGoal_down ready up)
  obtain ⟨record, ctx⟩ := linkDown_oneRecord agrees cause
  have frame := endEvent_frame rest
  have none : (s.linkDown cause).endEvent.std.ctx = .none := by rw [frame]; exact ctx
  have shut : (s.linkDown cause).endEvent.trav.head.shutterOpen = false :=
    Bool.eq_false_iff.2 fun opened => (sound.goal.sheet opened).1 goal
  have other : (s.linkDown cause).endEvent.trav.head ≠ .standardizing := by
    have iff := sound.head.std
    rw [none] at iff
    exact of_decide_eq_false iff.symm
  have work := (Agrees.of_sound sound ready).work.off_sheet shut
  refine ⟨sound, up, ?_, fun waits => ?_, kept.liveWord.trans (linkDownCore_word cause s), ?_, ?_, goal, work.1, work.2,
    none, shut, other, ?_, fun c found => ?_⟩
  · have counts : (s.linkDownCore cause).link.lossCount = 0 ∧ (s.linkDownCore cause).link.goodRun = 0 ∧
        (s.linkDownCore cause).link.echoCount = 0 := by
      rw [dropped.frame]
      exact ⟨rfl, rfl, rfl⟩
    refine and_assoc.1 ⟨?_, ?_⟩
    · rcases kept.counts with ⟨loss, run⟩ | ⟨-, zero⟩
      · exact ⟨loss.trans counts.1, run.trans counts.2.1⟩
      · exact zero
    · exact kept.echo.elim (fun same => same.2.trans counts.2.2) (·.2)
  · refine kept.echo.elim (fun same => same.1.trans ?_) (·.1)
    rw [dropped.frame]
    exact waits
  · rw [kept.entry]
    exact ⟨dropped.active, dropped.value⟩
  · rw [kept.notice]
    exact dropped.link
  · rw [ended.ex]
    exact record
  · obtain ⟨early, parked⟩ := linkDown_stdEndedEarly agrees found cause
    refine ⟨early, fun idle => ?_⟩
    have head : (s.linkDown cause).endEvent.trav.head = .parked := by rw [frame]; exact parked idle
    obtain ⟨shutter, ref⟩ := demands_of_head head rfl HeadState.noConfusion
    exact ⟨head, sound.settled.shutter.trans shutter, sound.settled.ref.trans ref⟩

/-- A cleared entry (R160). -/
theorem clearAlarm_cleared (i : Fin 48) (x : Option Int) (s : State) :
    (s.clearAlarm i x).alarms[i].active = false ∧
      (s.clearAlarm i x).alarms[i].lastValue = x.getD s.alarms[i].lastValue ∧
      (s.clearAlarm i x).alarms[i].timesRaised = s.alarms[i].timesRaised := by
  unfold State.clearAlarm
  dsimp only
  split
  · have same := setAlarm_same i { s.alarms[i].withValue x with
      active := false, lastChange := s.link.timeCounter, violationStreak := 0, clearStreak := 0 } s
    exact ⟨congrArg AlarmEntry.active same, congrArg AlarmEntry.lastValue same, (congrArg AlarmEntry.timesRaised same).trans rfl⟩
  · rename_i inactive
    have same := setAlarm_same i (s.alarms[i].withValue x) s
    exact ⟨(congrArg AlarmEntry.active same).trans (Bool.eq_false_iff.2 inactive), congrArg AlarmEntry.lastValue same,
      (congrArg AlarmEntry.timesRaised same).trans rfl⟩

/-- The link's own part of going UP (R39). -/
def linkRaised (s : State) : State :=
  ((({ s with link.up := true } : State).live 0x02C 1).clearAlarm linkDownAlarm none).setNotice .link

theorem linkUp_eq (s : State) : s.linkUp = (linkRaised s).handGoal .other := rfl

theorem linkRaised_word (s : State) : (linkRaised s).liveWord 0x02C = 1 := by
  have shown : (({ s with link.up := true } : State).live 0x02C 1).liveWord 0x02C = 1 := live_liveWord 0x02C 1 _
  exact (readWord_of_sameBytes (clearAlarm_lowBytes linkDownAlarm none _ (Nat.le_refl _)) (Nat.zero_le _)
    (by decide)).trans shown

theorem linkRaised_link (s : State) : (linkRaised s).link = { s.link with up := true } := by
  rw [linkRaised, State.setNotice_link, State.clearAlarm_link]
  rfl

/-- Settles O37. -/
theorem linkStateRows : Obligations.LinkStateRows := by
  intro s sound ready
  have agrees := Agrees.of_sound sound ready
  refine ⟨fun waits count => ⟨fun up => ?_, fun down => ?_⟩, fun up losses => ?_, fun down run => ?_⟩
  · have due : s.echoDue = true := by
      rw [State.echoDue, waits]
      exact decide_eq_true count
    have counted : Agrees { s with link.echoCount := 0 } := agrees.aside { }
    have run : (if s.echoDue then s.echoTimeout else s) = ({ s with link.echoCount := 0 } : State).linkDown .noEcho := by
      rw [if_pos due]
      exact if_pos up
    have went := linkDown_wentDown counted .noEcho
    refine completes_run rfl ready run ?_
    exact ⟨went.up, went.waits waits, went.counts.2.2, went.counts.1, went.counts.2.1, went.entry.1, went.entry.2,
      went.notice, went.goal, went.scan, went.batch, went.ctx, went.std⟩
  · have due : s.echoDue = true := by
      rw [State.echoDue, waits]
      exact decide_eq_true count
    have run : (if s.echoDue then s.echoTimeout else s) = { s with link.echoCount := 0 } := by
      rw [if_pos due]
      exact if_neg (by rw [down]; exact Bool.false_ne_true)
    have settled : ({ s with link.echoCount := 0 } : State).Settled :=
      settled_congr sound.settled rfl rfl rfl rfl rfl rfl
    refine congrArg Host.Outcome.next ((event_ready _ _ ready).trans ?_)
    rw [run]
    exact endEvent_of_settled _ settled
  · have due : s.lossDue = true := by
      rw [State.lossDue, up]
      exact decide_eq_true losses
    have went := linkDown_wentDown agrees .loss
    refine completes_run rfl ready (if_pos due) ?_
    exact ⟨went.up, went.counts.1, went.counts.2.1, went.counts.2.2, went.word, went.entry.1, went.entry.2, went.notice,
      went.goal, went.scan, went.batch, went.ctx, went.shut, went.other, went.record, went.std⟩
  · have due : s.upDue = true := by
      rw [State.upDue, down]
      exact decide_eq_true run
    have kept : LinkKept (linkRaised s) s.linkUp.endEvent := (handGoal_linkKept _ _).trans (endEvent_linkKept _)
    have raised := linkUp_agrees agrees.toWorks
    have cleared := clearAlarm_cleared linkDownAlarm none (({ s with link.up := true } : State).live 0x02C 1)
    have t := endEvent_sound raised
    refine completes_run rfl ready (if_pos due) ⟨?_, kept.liveWord.trans (linkRaised_word s), ?_, ?_, ?_, ?_, ?_⟩
    · rw [kept.up, linkRaised_link]
    · rw [kept.entry]
      exact cleared.1
    · rw [kept.entry]
      exact cleared.2.1
    · rw [kept.notice]
      exact noticeSet_setNotice .link _
    · exact t.goal.goal (by rw [(endEvent_kept _).ex]; exact raised.ready)
    · exact ((linkUp_evolves (own := ∅)).trans endEvent_evolves).frame.time

end Sys2Proof.Proofs
end

section
/-!
PROOFS. A frame-received event at the head link controller: the counts, the link state, TEMP_ALARM (R31, R36, R38, R41).
-/
namespace Sys2Proof.Proofs

open Sys2Proof.Machine Sys2Proof.Laws

-- One proof after another: threads that wait for each other count against the memory limit of the check.
set_option Elab.async false

variable {s t u v : State} {slots : List SlotRx} {f : Machine.Frame}

/-! ## The frame judged -/

theorem echoCheck_frame (f : Machine.Frame) (status : Option SlotWord) (s : State) : ∃ b n,
    s.echoCheck f status = { s with link := { s.link with echoPending := b, echoCount := n } } ∧
      n ≤ s.link.echoCount + 1 := by
  rcases echoCheck_cases f status s with e | e | e
  · exact ⟨s.link.echoPending, s.link.echoCount, e, by omega⟩
  · exact ⟨false, 0, e, by omega⟩
  · exact ⟨s.link.echoPending, s.link.echoCount + 1, e, Nat.le_refl _⟩

/-- What the counts of R38 are after a frame. -/
def framedLink (received : Bool) (l : HeadLink) (b : Bool) (n : Nat) : HeadLink :=
  { l with
    inFlight := none, echoPending := b, echoCount := n
    lossCount := if received then 0 else min 255 (l.lossCount + 1)
    goodRun := if received then min 255 (l.goodRun + 1) else 0 }

/-- The echo check and the counts change the link alone (R36, R38). -/
theorem judgedFrame_frame (slots : List SlotRx) (f : Machine.Frame) (s : State) : ∃ b n,
    s.judgedFrame slots f = { s with link := framedLink (slotWord slots f.slotCount 0).isSome s.link b n } ∧
      n ≤ s.link.echoCount + 1 := by
  obtain ⟨b, n, e, low⟩ := echoCheck_frame f (slotWord slots f.slotCount 0) { s with link.inFlight := none }
  refine ⟨b, n, ?_, low⟩
  unfold State.judgedFrame
  rw [e]
  cases (slotWord slots f.slotCount 0).isSome <;> rfl

/-- With the echo count below its limit the frame is judged by the counts of R38 alone. -/
theorem judgeLink_noEcho (low : s.link.echoCount < 200) :
    s.judgeLink = if s.lossDue then s.linkDown .loss else if s.upDue then s.linkUp else s := by
  have echo : s.echoDue = false := by
    rw [State.echoDue, show Config.echoLimit = 200 from rfl, decide_eq_false (by omega), Bool.and_false]
  unfold State.judgeLink
  dsimp only
  rw [echo]
  rfl

/-! ## TEMP_ALARM (R41) -/

/-- An entry that is handed a raise with a value (R160). -/
theorem raiseAlarm_entry (i : Fin 48) (x : Int) (s : State) :
    let old := s.alarms[i]
    (s.raiseAlarm i (some x)).2.alarms[i] = if old.active = true then { old with lastValue := x } else
      { old with active := true, timesRaised := min 65535 (old.timesRaised + 1), lastChange := s.link.timeCounter
                 violationStreak := 0, clearStreak := 0, lastValue := x } := by
  unfold State.raiseAlarm
  dsimp only
  split <;> rename_i active
  · exact (setAlarm_same i _ s).trans (if_pos active).symm
  · exact (setAlarm_same i _ s).trans (if_neg active).symm

/-- An entry that is handed a clear with a value (R160). -/
theorem clearAlarm_entry (i : Fin 48) (x : Int) (s : State) :
    let old := s.alarms[i]
    (s.clearAlarm i (some x)).alarms[i] = if old.active = true then
      { old with active := false, lastChange := s.link.timeCounter, violationStreak := 0, clearStreak := 0
                 lastValue := x } else { old with lastValue := x } := by
  unfold State.clearAlarm
  dsimp only
  split <;> rename_i active
  · exact (setAlarm_same i _ s).trans (if_pos active).symm
  · exact (setAlarm_same i _ s).trans (if_neg active).symm

theorem raiseAlarm_notice (i : Fin 48) (x : Option Int) (inactive : s.alarms[i].active = false) :
    (s.raiseAlarm i x).2.noticeSet .alarm = true := by
  unfold State.raiseAlarm
  dsimp only
  rw [if_neg (by rw [show (s.alarms[i].withValue x).active = s.alarms[i].active from rfl, inactive]
                 exact Bool.false_ne_true)]
  exact noticeSet_setNotice .alarm _

theorem clearAlarm_notice (i : Fin 48) (x : Option Int) (active : s.alarms[i].active = true) :
    (s.clearAlarm i x).noticeSet .alarm = true := by
  unfold State.clearAlarm
  dsimp only
  rw [if_pos (show (s.alarms[i].withValue x).active = true from active)]
  exact noticeSet_setNotice .alarm _

/-- The HEAD_TEMP entry after a new TEMP_ALARM value. -/
structure TempHanded (level : Bool) (old new : AlarmEntry) (time : Word) (notice : Bool) : Prop where
  active : new.active = level
  value : new.lastValue = if level = true then 1 else 0
  times : new.timesRaised =
    if level = true ∧ old.active = false then min 65535 (old.timesRaised + 1) else old.timesRaised
  change : old.active ≠ level → new.lastChange = time ∧ notice = true

/-- What the TEMP_ALARM comparison leaves of the link, and of the HEAD_TEMP entry. -/
structure TempJudged (level : Bool) (s t : State) : Prop where
  link : t.link = { s.link with lastTempAlarm := level }
  pending : t.ex.applyPending = s.ex.applyPending
  notice : t.noticeSet .link = s.noticeSet .link
  same : level = s.link.lastTempAlarm → t.alarms[headTempAlarm] = s.alarms[headTempAlarm]
  new : level ≠ s.link.lastTempAlarm →
    TempHanded level s.alarms[headTempAlarm] t.alarms[headTempAlarm] s.link.timeCounter (t.noticeSet .alarm)

theorem raiseTemp_handed (s : State) : TempHanded true s.alarms[headTempAlarm]
    (s.raiseAlarm headTempAlarm (some 1)).2.alarms[headTempAlarm] s.link.timeCounter
    ((s.raiseAlarm headTempAlarm (some 1)).2.noticeSet .alarm) := by
  have entry := raiseAlarm_entry headTempAlarm 1 s
  dsimp only at entry
  cases active : s.alarms[headTempAlarm].active with
  | true =>
    rw [if_pos active] at entry
    exact ⟨(congrArg AlarmEntry.active entry).trans active, congrArg AlarmEntry.lastValue entry,
      (congrArg AlarmEntry.timesRaised entry).trans (if_neg (by rw [active]; exact nofun)).symm,
      fun other => absurd active other⟩
  | false =>
    rw [if_neg (by rw [active]; exact Bool.false_ne_true)] at entry
    exact ⟨congrArg AlarmEntry.active entry, congrArg AlarmEntry.lastValue entry,
      (congrArg AlarmEntry.timesRaised entry).trans (if_pos ⟨rfl, active⟩).symm,
      fun _ => ⟨congrArg AlarmEntry.lastChange entry, raiseAlarm_notice _ _ active⟩⟩

theorem clearTemp_handed (s : State) : TempHanded false s.alarms[headTempAlarm]
    (s.clearAlarm headTempAlarm (some 0)).alarms[headTempAlarm] s.link.timeCounter
    ((s.clearAlarm headTempAlarm (some 0)).noticeSet .alarm) := by
  have entry := clearAlarm_entry headTempAlarm 0 s
  dsimp only at entry
  cases active : s.alarms[headTempAlarm].active with
  | true =>
    rw [if_pos active] at entry
    exact ⟨congrArg AlarmEntry.active entry, congrArg AlarmEntry.lastValue entry,
      (congrArg AlarmEntry.timesRaised entry).trans (if_neg nofun).symm,
      fun _ => ⟨congrArg AlarmEntry.lastChange entry, clearAlarm_notice _ _ active⟩⟩
  | false =>
    rw [if_neg (by rw [active]; exact Bool.false_ne_true)] at entry
    exact ⟨(congrArg AlarmEntry.active entry).trans active, congrArg AlarmEntry.lastValue entry,
      (congrArg AlarmEntry.timesRaised entry).trans (if_neg nofun).symm, fun other => absurd active other⟩

theorem raiseAlarm_frame (i : Fin 48) (x : Option Int) (s : State) : (s.raiseAlarm i x).2.link = s.link ∧
    (s.raiseAlarm i x).2.ex.applyPending = s.ex.applyPending ∧
    (s.raiseAlarm i x).2.noticeSet .link = s.noticeSet .link := by
  unfold State.raiseAlarm
  dsimp only
  split
  · rw [setAlarm_frame]
    exact ⟨rfl, rfl, rfl⟩
  · rw [setAlarm_frame]
    exact ⟨rfl, rfl, setNotice_linkNotice Notice.noConfusion _⟩

theorem clearAlarm_frame (i : Fin 48) (x : Option Int) (s : State) : (s.clearAlarm i x).link = s.link ∧
    (s.clearAlarm i x).ex.applyPending = s.ex.applyPending ∧
    (s.clearAlarm i x).noticeSet .link = s.noticeSet .link := by
  unfold State.clearAlarm
  dsimp only
  split
  · rw [setAlarm_frame]
    exact ⟨rfl, rfl, setNotice_linkNotice Notice.noConfusion _⟩
  · rw [setAlarm_frame]
    exact ⟨rfl, rfl, rfl⟩

theorem tempAlarm_judged (w : SlotWord) (s : State) : TempJudged (statusTempAlarm w) s (s.tempAlarm (some w)) := by
  unfold State.tempAlarm
  dsimp only
  generalize statusTempAlarm w = level
  by_cases same : level = s.link.lastTempAlarm
  · rw [if_pos same]
    exact ⟨by rw [same], rfl, rfl, fun _ => rfl, fun other => absurd same other⟩
  · rw [if_neg same]
    let u : State := { s with link.lastTempAlarm := level }
    cases level with
    | true =>
      obtain ⟨link, pending, notice⟩ := raiseAlarm_frame headTempAlarm (some 1) u
      exact ⟨link, pending, notice, fun e => absurd e same, fun _ => raiseTemp_handed u⟩
    | false =>
      obtain ⟨link, pending, notice⟩ := clearAlarm_frame headTempAlarm (some 0) u
      exact ⟨link, pending, notice, fun e => absurd e same, fun _ => clearTemp_handed u⟩

/-! ## The event -/

/-- What the rest of the event leaves of the link, once it and TEMP_ALARM are judged (R90). -/
theorem afterJudgement (f : Machine.Frame) (slots : List SlotRx) (valid : Bool) (s : State) :
    LinkKept s (s.convertFrame f slots valid).endEvent :=
  (convertFrame_linkKept f slots valid s).trans (endEvent_linkKept _)

theorem convertFrame_notices (f : Machine.Frame) (slots : List SlotRx) (valid : Bool) (s : State) {n : Notice}
    (set : s.noticeSet n = true) : (s.convertFrame f slots valid).endEvent.noticeSet n = true := by
  let own : Set Reg := {.refs, .batch, .history}
  have shown : Evolves own s (s.liveSamples (frameSamples s.page s.std.refs slots f.slotCount valid)) :=
    liveSamples_evolves _
  have whole : Evolves own s (s.convertFrame f slots valid).endEvent :=
    (shown.trans (distribute_evolves f _ (by simp [own]) (by simp [own]) (by simp [own]))).trans endEvent_evolves
  exact whole.frame.notices (by simp [own]) _ set

/-- Without an apply pending the counts stand (R44). -/
theorem LinkKept.countsSame (kept : LinkKept s t) (idle : s.ex.applyPending = false) :
    t.link.lossCount = s.link.lossCount ∧ t.link.goodRun = s.link.goodRun :=
  kept.counts.resolve_right fun h => by rw [idle] at h; exact Bool.false_ne_true h.1

/-- A frame with an ABSENT status word. -/
theorem frameReceived_absent (sound : s.Sound) (ready : s.ex.life = .ready) (flight : s.link.inFlight = some f)
    (status : slotWord slots f.slotCount 0 = none) (idle : s.ex.applyPending = false)
    (echo : s.link.echoCount + 1 < 200) :
    let losses := min 255 (s.link.lossCount + 1)
    let t := (s.frameReceived slots).endEvent
    t.link.inFlight = none ∧ t.link.goodRun = 0 ∧ t.link.lastTempAlarm = s.link.lastTempAlarm ∧
      t.alarms[headTempAlarm] = s.alarms[headTempAlarm] ∧
      (s.link.up = true ∧ s.page.linkLoss ≤ losses → t.link.up = false ∧ t.link.lossCount = 0 ∧
        t.alarms[linkDownAlarm].active = true ∧ t.alarms[linkDownAlarm].lastValue = 1 ∧ t.noticeSet .link = true ∧
        t.liveWord 0x02C = 0 ∧ t.arb.goal = .park) ∧
      (s.link.up = false ∨ losses < s.page.linkLoss → t.link.up = s.link.up ∧ t.link.lossCount = losses) := by
  intro losses t
  have agrees := frameReceived_agrees (.of_sound sound ready) slots
  have tSound : t.Sound := endEvent_sound agrees
  have tReady : t.ex.life = .ready := by
    rw [(endEvent_kept _).ex]
    exact agrees.ready
  obtain ⟨b, n, judged, low⟩ := judgedFrame_frame slots f s
  rw [status] at judged
  let j := s.judgedFrame slots f
  have frame : j = { s with link := framedLink false s.link b n } := judged
  have link : j.link = framedLink false s.link b n := by rw [frame]
  have page : j.page = s.page := by rw [frame]; rfl
  have noEcho := judgeLink_noEcho (s := j) (by rw [link]; exact Nat.lt_of_le_of_lt low echo)
  have upDue : j.upDue = false := by
    rw [State.upDue, link]
    exact Bool.and_false _
  have lossDue : j.lossDue = (s.link.up && decide (s.page.linkLoss ≤ losses)) := by
    rw [State.lossDue, link, page]
    rfl
  have whole : t = ((j.judgeLink).convertFrame f slots (j.frameValid f none)).endEvent := by
    show (s.frameReceived slots).endEvent = _
    rw [frameReceived_eq flight, status]
    rfl
  by_cases lost : s.link.up = true ∧ s.page.linkLoss ≤ losses
  · have due : j.lossDue = true := by
      rw [lossDue, lost.1]
      exact decide_eq_true lost.2
    rw [if_pos due] at noEcho
    let d := j.linkDownCore .loss
    have dropped : LinkDropped .loss j d := linkDownCore_dropped .loss j
    have kept : LinkKept d t := by
      rw [whole, noEcho]
      exact ((handGoal_linkKept _ _).trans (stdLinkEnd_linkKept _)).trans (afterJudgement f slots _ _)
    have dIdle : d.ex.applyPending = false := by
      rw [dropped.frame, frame]
      exact idle
    have dLink : d.link =
        { framedLink false s.link b n with up := false, lossCount := 0, goodRun := 0, echoCount := 0 } := by
      rw [dropped.frame, link]
    obtain ⟨loss, run⟩ := kept.countsSame dIdle
    have up : t.link.up = false := by rw [kept.up, dLink]
    refine ⟨kept.flight (by rw [dLink]; rfl), run.trans (by rw [dLink]), kept.lastTemp.trans (by rw [dLink]; rfl),
      (kept.temp.trans (linkDownCore_others .loss j (by decide))).trans (by rw [frame]), fun _ => ?_, fun stays => ?_⟩
    · refine ⟨up, loss.trans (by rw [dLink]), ?_, ?_, ?_, kept.liveWord.trans (linkDownCore_word .loss j), ?_⟩
      · rw [kept.entry]; exact dropped.active
      · rw [kept.entry]; exact dropped.value
      · rw [kept.notice]; exact dropped.link
      · exact (tSound.goal.goal tReady).trans (claimedGoal_down tReady up)
    · rcases stays with down | below
      · rw [lost.1] at down
        cases down
      · exact absurd lost.2 (Nat.not_le.2 below)
  · have due : j.lossDue = false := by
      rw [lossDue]
      cases up : s.link.up with
      | false => rfl
      | true => exact decide_eq_false fun le => lost ⟨up, le⟩
    rw [due, upDue] at noEcho
    have kept : LinkKept j t := by
      rw [whole, noEcho]
      exact afterJudgement f slots _ j
    obtain ⟨loss, run⟩ := kept.countsSame (by rw [frame]; exact idle)
    refine ⟨kept.flight (by rw [link]; rfl), run.trans (by rw [link]; rfl), kept.lastTemp.trans (by rw [link]; rfl),
      kept.temp.trans (by rw [frame]), fun l => absurd l lost, fun _ => ⟨kept.up.trans (by rw [link]; rfl),
        loss.trans (by rw [link]; rfl)⟩⟩

theorem clearAlarm_others {i j : Fin 48} (other : i ≠ j) (x : Option Int) (s : State) :
    (s.clearAlarm i x).alarms[j] = s.alarms[j] := by
  unfold State.clearAlarm
  dsimp only
  split
  · exact (State.setAlarm_get s i j _).trans (if_neg other)
  · exact (State.setAlarm_get s i j _).trans (if_neg other)

/-- What the counts of a received frame leave: a link that is UP, or UP again after eight good frames (R38). -/
structure LinkCounted (j v : State) : Prop where
  link : v.link = { j.link with up := j.link.up || decide (8 ≤ j.link.goodRun) }
  pending : v.ex.applyPending = j.ex.applyPending := by rfl
  temp : v.alarms[headTempAlarm] = j.alarms[headTempAlarm] := by rfl
  notice : j.link.up = true → v.noticeSet .link = j.noticeSet .link := by exact fun _ => rfl

theorem judgeLink_received {j : State} (low : j.link.echoCount < 200) (zero : j.link.lossCount = 0)
    (limit : 1 ≤ j.page.linkLoss) : ∃ v, LinkKept v j.judgeLink ∧ LinkCounted j v := by
  have loss : j.lossDue = false := by
    rw [State.lossDue, zero, decide_eq_false (by omega), Bool.and_false]
  have noEcho := judgeLink_noEcho low
  rw [loss, if_neg Bool.false_ne_true] at noEcho
  have runLimit : Config.goodRunLimit = 8 := rfl
  cases due : j.upDue with
  | true =>
    rw [State.upDue, Bool.and_eq_true, Bool.not_eq_true', runLimit] at due
    obtain ⟨off, run⟩ := due
    have raised : j.judgeLink = (linkRaised j).handGoal .other := by
      rw [noEcho, if_pos (by rw [State.upDue, off, runLimit, run]; rfl)]
      rfl
    have cleared := clearAlarm_frame linkDownAlarm none (({ j with link.up := true } : State).live 0x02C 1)
    refine ⟨linkRaised j, by rw [raised]; exact handGoal_linkKept _ _,
      { link := ?_, pending := cleared.2.1, temp := ?_, notice := fun up => ?_ }⟩
    · rw [linkRaised_link, off, run]
      rfl
    · exact clearAlarm_others (by decide) none _
    · rw [off] at up
      cases up
  | false =>
    rw [due, if_neg Bool.false_ne_true] at noEcho
    rw [State.upDue, runLimit] at due
    refine ⟨j, by rw [noEcho]; exact .refl j, { link := ?_ }⟩
    cases up : j.link.up with
    | true => rw [Bool.true_or, ← up]
    | false =>
      rw [up] at due
      rw [show decide (8 ≤ j.link.goodRun) = false from due, Bool.false_or, ← up]

/-- A frame with a received status word. -/
theorem frameReceived_received {w : SlotWord} (ready : s.ex.life = .ready) (flight : s.link.inFlight = some f)
    (status : slotWord slots f.slotCount 0 = some w) (idle : s.ex.applyPending = false)
    (echo : s.link.echoCount + 1 < 200) (limit : 1 ≤ s.page.linkLoss) :
    Completes (.frameReceived slots) s (fun t =>
      t.link.inFlight = none ∧ t.link.lossCount = 0 ∧ t.link.goodRun = min 255 (s.link.goodRun + 1) ∧
      t.link.lastTempAlarm = statusTempAlarm w ∧
      t.link.up = (s.link.up || decide (8 ≤ min 255 (s.link.goodRun + 1))) ∧
      (s.link.up = true → t.noticeSet .link = s.noticeSet .link) ∧
      (statusTempAlarm w = s.link.lastTempAlarm → t.alarms[headTempAlarm] = s.alarms[headTempAlarm]) ∧
      (statusTempAlarm w ≠ s.link.lastTempAlarm → TempHanded (statusTempAlarm w) s.alarms[headTempAlarm]
        t.alarms[headTempAlarm] s.link.timeCounter (t.noticeSet .alarm))) := by
  obtain ⟨b, n, judged, low⟩ := judgedFrame_frame slots f s
  rw [status] at judged
  let j := s.judgedFrame slots f
  have frame : j = { s with link := framedLink true s.link b n } := judged
  have link : j.link = framedLink true s.link b n := by rw [frame]
  have page : j.page = s.page := by rw [frame]; rfl
  obtain ⟨v, first, counted⟩ := judgeLink_received (j := j) (by rw [link]; exact Nat.lt_of_le_of_lt low echo)
    (by rw [link]; rfl) (by rw [page]; exact limit)
  have vLink : v.link = { framedLink true s.link b n with
      up := s.link.up || decide (8 ≤ min 255 (s.link.goodRun + 1)) } := by rw [counted.link, link]; rfl
  have vIdle : v.ex.applyPending = false := by rw [counted.pending, frame]; exact idle
  have vTemp : v.alarms[headTempAlarm] = s.alarms[headTempAlarm] := by rw [counted.temp, frame]
  let l := j.judgeLink
  have evolves : Evolves {.batch, .history} j l := judgeLink_evolves
  have time : l.link.timeCounter = s.link.timeCounter := evolves.frame.time.trans (by rw [link]; rfl)
  have temp := tempAlarm_judged w l
  let h := l.tempAlarm (some w)
  let t := (h.convertFrame f slots (j.frameValid f (some w))).endEvent
  have rest : LinkKept h t := afterJudgement f slots _ h
  have lIdle : l.ex.applyPending = false := by
    cases e : l.ex.applyPending with
    | false => rfl
    | true => exact absurd (first.pending e) (by rw [vIdle]; exact Bool.false_ne_true)
  have hCounts : h.link.lossCount = l.link.lossCount ∧ h.link.goodRun = l.link.goodRun := by
    rw [show h.link = _ from temp.link]
    exact ⟨rfl, rfl⟩
  obtain ⟨loss, run⟩ := rest.countsSame (temp.pending.trans lIdle)
  obtain ⟨lLoss, lRun⟩ := first.countsSame vIdle
  have lastTemp : l.link.lastTempAlarm = s.link.lastTempAlarm := by rw [first.lastTemp, vLink]; rfl
  have lTemp : l.alarms[headTempAlarm] = s.alarms[headTempAlarm] := first.temp.trans vTemp
  refine completes_event rfl ready ?_
  have whole : (s.frameReceived slots).endEvent = t := by
    rw [frameReceived_eq flight, status]
  rw [whole]
  refine ⟨rest.flight ?_, ?_, ?_, ?_, ?_, fun up => ?_, fun same => ?_, fun new => ?_⟩
  · rw [show h.link = _ from temp.link]
    exact first.flight (by rw [vLink]; rfl)
  · rw [loss, hCounts.1, lLoss, vLink]
    rfl
  · rw [run, hCounts.2, lRun, vLink]
    rfl
  · rw [rest.lastTemp, show h.link = _ from temp.link]
  · rw [rest.up, show h.link = _ from temp.link]
    exact first.up.trans (by rw [vLink])
  · rw [rest.notice, temp.notice, first.notice, counted.notice (by rw [link]; exact up), frame]
    rfl
  · rw [rest.temp, temp.same (by rw [lastTemp]; exact same), lTemp]
  · have handed := temp.new (by rw [lastTemp]; exact new)
    rw [lTemp, time] at handed
    rw [rest.temp]
    exact { handed with change := fun other => ⟨(handed.change other).1,
      convertFrame_notices f slots _ h (handed.change other).2⟩ }

/-- Settles O34. -/
theorem frameReceivedCounts : Obligations.FrameReceivedCounts := by
  refine ⟨fun slots s f sound ready flight status idle echo limit => ?_,
    fun slots s f w sound ready flight status idle echo limit => ?_⟩
  · exact completes_event rfl ready (frameReceived_absent sound ready flight status idle echo)
  · obtain ⟨t, run, none, loss, good, last, up, notice, same, new⟩ :=
      frameReceived_received ready flight status idle echo limit
    refine ⟨t, run, none, loss, good, last, up, notice, same, fun other => ?_⟩
    have handed := new other
    exact ⟨handed.active, handed.value, handed.times, handed.change⟩

end Sys2Proof.Proofs
end

section
/-!
PROOFS. The conclusion of a standardize: its results acted on, its record, the head PARKED and then what its goal asks
(R114 to R118).
-/
namespace Sys2Proof.Proofs

open Sys2Proof.Machine Sys2Proof.Laws

-- One proof after another: threads that wait for each other count against the memory limit of the check.
set_option Elab.async false

variable {s t u v : State} {e : StdEntry} {c : Fin 8}

/-! ## What a moving head leaves of the other blocks -/

/-- The alarm entries, the references and marks, the edges and the live area from 0x060 on are as they were. -/
structure BlocksKept (s t : State) : Prop where
  alarms : t.alarms = s.alarms := by rfl
  refs : t.std.refs = s.std.refs := by rfl
  untried : t.std.untried = s.std.untried := by rfl
  edgeFront : t.bin.edgeFront = s.bin.edgeFront := by rfl
  edgeBack : t.bin.edgeBack = s.bin.edgeBack := by rfl
  missFront : t.bin.missFront = s.bin.missFront := by rfl
  missBack : t.bin.missBack = s.bin.missBack := by rfl
  words : SameBytes t.mem s.mem 0x08060 0x08500 := by exact sameBytes_refl _ _ _
  page : SameBytes t.mem s.mem activeBase liveBase := by exact sameBytes_refl _ _ _

theorem BlocksKept.refl (s : State) : BlocksKept s s := { }

theorem BlocksKept.trans (h1 : BlocksKept s t) (h2 : BlocksKept t u) : BlocksKept s u where
  alarms := h2.alarms.trans h1.alarms
  refs := h2.refs.trans h1.refs
  untried := h2.untried.trans h1.untried
  edgeFront := h2.edgeFront.trans h1.edgeFront
  edgeBack := h2.edgeBack.trans h1.edgeBack
  missFront := h2.missFront.trans h1.missFront
  missBack := h2.missBack.trans h1.missBack
  words := sameBytes_trans h2.words h1.words
  page := sameBytes_trans h2.page h1.page

/-- A record goes into the store, and into the live word of the skipped count (R22, R23). -/
theorem produce_midBytes (h : RecHeader) (body : List Word) (s : State) {lo hi : Nat} (above : hi ≤ 0x08028 ∨ 0x0802C ≤ lo)
    (below : hi ≤ storeBase) : SameBytes (s.produce h body).mem s.mem lo hi := by
  have shown : ∀ (v : State) (w : Word), SameBytes (v.live 0x028 w).mem v.mem lo hi := fun v w =>
    live_sameBytes v 0x028 w above
  cases found : findFree s.mem s.ex.nextFrame with
  | some k =>
    rw [produce_found h body found, State.setNotice_mem]
    exact sameBytes_trans (shown _ _) (stored_sameBytes k _ s (.inl (le_trans below (Nat.le_add_right _ _))))
  | none =>
    rw [produce_lost h body found, State.setNotice_mem]
    exact shown _ _

theorem setHead_blocks (h : HeadState) (s : State) : BlocksKept s (s.setHead h) := by
  unfold State.setHead
  split
  · exact .refl s
  · exact { words := live_sameBytes _ 0x038 _ (.inr (by decide)), page := live_sameBytes _ 0x038 _ (.inl (by decide)) }

theorem setTrav_blocks (tr : Traverse) (s : State) : BlocksKept s { s with trav := tr } := { }

theorem enterHoming_blocks (s : State) : BlocksKept s s.enterHoming := by
  have entered := (setTrav_blocks { s.trav with homed := false } s).trans (setHead_blocks .homing _)
  unfold State.enterHoming
  dsimp only
  split
  · exact entered.trans (setTrav_blocks _ _)
  · exact entered

theorem openScan_blocks (d : ScanDir) (s : State) : BlocksKept s (s.openScan d) :=
  have shown : ∀ (v : State) {lo hi : Nat}, hi ≤ 0x08058 ∨ 0x08060 ≤ lo →
      SameBytes ((v.liveBool 0x058 true).live 0x05C s.link.timeCounter).mem v.mem lo hi := fun v lo hi out =>
    sameBytes_trans (live_sameBytes _ 0x05C _ (by simp only [liveBase]; omega))
      (live_sameBytes v 0x058 _ (by simp only [liveBase]; omega))
  { words := shown _ (.inr (by decide)), page := shown _ (.inl (by decide)) }

theorem produce_blocks (h : RecHeader) (body : List Word) (s : State) : BlocksKept s (s.produce h body) where
  alarms := State.produce_alarms ..
  refs := by rw [State.produce_std]
  untried := by rw [State.produce_std]
  edgeFront := by rw [State.produce_bin]
  edgeBack := by rw [State.produce_bin]
  missFront := by rw [State.produce_bin]
  missBack := by rw [State.produce_bin]
  words := produce_midBytes h body s (.inr (by decide)) (by decide)
  page := produce_midBytes h body s (.inl (by decide)) (by decide)

theorem endBatch_blocks (outcome : RecOutcome) (s : State) : BlocksKept s (s.endBatch outcome) := by
  have dropped : BlocksKept s { s with bin.batch := none } := { }
  unfold State.endBatch
  split
  · exact .refl s
  · cases outcome with
    | brk | link | fault => exact dropped.trans (produce_blocks _ _ _)
    | complete | thin | aborted => exact dropped

theorem HeadMove.blocks (h : HeadMove s t) : BlocksKept s t := by
  induction h with
  | stay s => exact .refl s
  | homing s => exact enterHoming_blocks s
  | unhomed s => exact (setTrav_blocks _ s).trans (setHead_blocks _ _)
  | returning s => exact (setTrav_blocks _ s).trans (setHead_blocks _ _)
  | movingToHold s => exact (setTrav_blocks _ s).trans (setHead_blocks _ _)
  | standing s => exact setHead_blocks _ s
  | stopping s => exact setHead_blocks _ s
  | depart s d => exact (setHead_blocks _ s).trans (openScan_blocks d _)
  | batchEnded outcome _ ih => exact (endBatch_blocks outcome _).trans ih
  | stood _ ih => exact (setHead_blocks _ _).trans ih

theorem recompute_blocks (ev : GoalEvent) (s : State) : BlocksKept s (s.recompute ev).state := by
  rw [recompute_frame s ev]
  exact { words := recompute_sameBytes s ev (.inr (by decide)), page := recompute_sameBytes s ev (.inl (by decide)) }

theorem endEvent_blocks (s : State) : BlocksKept s s.endEvent := by
  have compared : BlocksKept s.stdStart s.endEvent := by
    unfold State.endEvent
    rw [commandCompare_frame]
    exact { }
  have started : BlocksKept s s.stdStart := by
    unfold State.stdStart
    split
    · exact BlocksKept.trans { } (setHead_blocks _ _)
    · exact .refl s
  exact started.trans compared

/-! ## One result is acted on (R116) -/

/-- The reference record of an accepted result. -/
def acceptedRef (e : StdEntry) : RefRecord := { value := e.newRef, check := e.check, accepted := true }

/-- What a channel's result leaves of that channel. -/
structure ChannelActed (c : Fin 8) (e : StdEntry) (s t : State) : Prop where
  tried : t.std.untried[c] = false
  accepted : e.result = .accepted →
    t.std.refs[c] = acceptedRef e ∧
    t.liveWord (0x100 + 16 * c.val) = BitVec.ofNat 32 e.newRef ∧
    t.liveWord (0x104 + 16 * c.val) = BitVec.ofInt 32 e.check ∧
    t.liveWord (0x108 + 16 * c.val) = 1 ∧
    t.alarms[stdFaultAlarm c].active = false ∧
    t.alarms[stdFaultAlarm c].timesRaised = s.alarms[stdFaultAlarm c].timesRaised ∧
    t.alarms[stdFaultAlarm c].lastValue = s.alarms[stdFaultAlarm c].lastValue
  refused : e.result ≠ .accepted →
    t.std.refs[c] = s.std.refs[c] ∧ t.alarms[stdFaultAlarm c].active = true ∧
    t.alarms[stdFaultAlarm c].lastValue = e.result.code.toInt ∧
    t.alarms[stdFaultAlarm c].timesRaised =
      (if s.alarms[stdFaultAlarm c].active = true then s.alarms[stdFaultAlarm c].timesRaised
        else min 65535 (s.alarms[stdFaultAlarm c].timesRaised + 1))

/-- A channel's reference record, mark, STD_FAULT entry and live words are as they were. -/
structure ChannelSame (c : Fin 8) (s t : State) : Prop where
  ref : t.std.refs[c] = s.std.refs[c]
  untried : t.std.untried[c] = s.std.untried[c]
  alarm : t.alarms[stdFaultAlarm c] = s.alarms[stdFaultAlarm c]
  words : SameBytes t.mem s.mem (0x08100 + 16 * c.val) (0x08110 + 16 * c.val)

theorem ChannelSame.refl (c : Fin 8) (s : State) : ChannelSame c s s := ⟨rfl, rfl, rfl, sameBytes_refl _ _ _⟩

theorem ChannelSame.trans (h1 : ChannelSame c s t) (h2 : ChannelSame c t u) : ChannelSame c s u where
  ref := h2.ref.trans h1.ref
  untried := h2.untried.trans h1.untried
  alarm := h2.alarm.trans h1.alarm
  words := sameBytes_trans h2.words h1.words

theorem BlocksKept.channel (h : BlocksKept s t) (c : Fin 8) : ChannelSame c s t where
  ref := by rw [h.refs]
  untried := by rw [h.untried]
  alarm := by rw [h.alarms]
  words := fun a lo hi => h.words a (by omega) (by omega)

theorem ChannelSame.liveWord (h : ChannelSame c s t) {k : Nat} (low : 0x100 + 16 * c.val ≤ k)
    (high : k + 4 ≤ 0x110 + 16 * c.val) : t.liveWord k = s.liveWord k :=
  readWord_of_sameBytes h.words (by simp only [liveBase]; omega) (by simp only [liveBase]; omega)

/-- What was acted stands while the channel stays as it is. -/
theorem ChannelActed.after (h : ChannelActed c e s t) (same : ChannelSame c t u) : ChannelActed c e s u where
  tried := same.untried.trans h.tried
  accepted ok := by
    rw [same.ref, same.alarm, same.liveWord (by omega) (by omega), same.liveWord (by omega) (by omega),
      same.liveWord (by omega) (by omega)]
    exact h.accepted ok
  refused bad := by
    rw [same.ref, same.alarm]
    exact h.refused bad

theorem ChannelActed.of_chan (h : ChannelActed e.chan e s t) (same : e.chan = c) : ChannelActed c e s t := same ▸ h

/-- It tells of the state before only by that channel. -/
theorem ChannelActed.before (h : ChannelActed c e t u) (ref : t.std.refs[c] = s.std.refs[c])
    (alarm : t.alarms[stdFaultAlarm c] = s.alarms[stdFaultAlarm c]) : ChannelActed c e s u where
  tried := h.tried
  accepted := by rw [← alarm]; exact h.accepted
  refused := by rw [← alarm, ← ref]; exact h.refused

/-- A value set for one channel, read for any. -/
theorem vector_set_get {α : Type} {n : Nat} (xs : Vector α n) (c d : Fin n) (x : α) :
    (xs.set c.val x c.isLt)[d] = if c = d then x else xs[d] := by
  rw [Fin.getElem_fin, Vector.getElem_set]
  simp only [Fin.ext_iff, Fin.getElem_fin]

theorem stdFaultAlarm_injective {c d : Fin 8} (h : stdFaultAlarm c = stdFaultAlarm d) : c = d := by
  have values := congrArg Fin.val h
  simp only [stdFaultAlarm] at values
  omega

/-- The part of the state that the results of a standardize reach. -/
structure ActedOn (s t : State) : Prop where
  frame : t = { s with std := { s.std with refs := t.std.refs, untried := t.std.untried }, alarms := t.alarms
                       mem := t.mem, ex := { s.ex with notice := t.ex.notice } }
  bytes : ∀ {lo hi : Nat}, hi ≤ 0x08100 ∨ 0x08500 ≤ lo → SameBytes t.mem s.mem lo hi

theorem ActedOn.refl (s : State) : ActedOn s s := ⟨rfl, fun _ => sameBytes_refl _ _ _⟩

theorem ActedOn.trans (h1 : ActedOn s t) (h2 : ActedOn t u) : ActedOn s u where
  frame := h2.frame.trans (by rw [h1.frame])
  bytes out := sameBytes_trans (h2.bytes out) (h1.bytes out)

theorem setAlarm_actedOn (i : Fin 48) (x : AlarmEntry) (s : State) : ActedOn s (s.setAlarm i x) where
  frame := by rw [setAlarm_frame]
  bytes out := setAlarm_sameBytes s i x (by omega)

theorem setNotice_actedOn (n : Notice) (s : State) : ActedOn s (s.setNotice n) := ⟨rfl, fun _ => sameBytes_refl _ _ _⟩

theorem raiseAlarm_actedOn (i : Fin 48) (x : Option Int) (s : State) : ActedOn s (s.raiseAlarm i x).2 := by
  unfold State.raiseAlarm
  dsimp only
  split
  · exact setAlarm_actedOn i _ s
  · exact (setAlarm_actedOn i _ s).trans (setNotice_actedOn _ _)

theorem clearAlarm_actedOn (i : Fin 48) (x : Option Int) (s : State) : ActedOn s (s.clearAlarm i x) := by
  unfold State.clearAlarm
  dsimp only
  split
  · exact (setAlarm_actedOn i _ s).trans (setNotice_actedOn _ _)
  · exact setAlarm_actedOn i _ s

theorem setRef_actedOn (c : Fin 8) (r : RefRecord) (s : State) : ActedOn s (s.setRef c r) where
  frame := rfl
  bytes out := liveWords_sameBytes _ _ _ (by
    simp only [liveBase, RefRecord.words, List.length_cons, List.length_nil]
    omega)

theorem setUntried_actedOn (c : Fin 8) (b : Bool) (s : State) : ActedOn s (s.setUntried c b) :=
  ⟨rfl, fun _ => sameBytes_refl _ _ _⟩

/-- The step of an accepted result. -/
def accept (e : StdEntry) (s : State) : State :=
  ((s.setUntried e.chan false).setRef e.chan (acceptedRef e)).clearAlarm (stdFaultAlarm e.chan) none

/-- The step of another result. -/
def refuse (e : StdEntry) (s : State) : Bool × State :=
  (s.setUntried e.chan false).raiseAlarm (stdFaultAlarm e.chan) (some e.result.code.toInt)

theorem actOnResult_accepted (acc : Bool × State) (ok : e.result = .accepted) :
    State.actOnResult acc e = (acc.1, accept e acc.2) := by
  unfold State.actOnResult
  rw [ok]
  rfl

theorem actOnResult_refused (acc : Bool × State) (bad : e.result ≠ .accepted) :
    State.actOnResult acc e = (acc.1 || (refuse e acc.2).1, (refuse e acc.2).2) := by
  unfold State.actOnResult
  cases result : e.result with
  | accepted => exact absurd result bad
  | nodata | lowref | drift | check | abandoned =>
    unfold refuse
    rw [result]

theorem actOnResult_actedOn (acc : Bool × State) (e : StdEntry) : ActedOn acc.2 (State.actOnResult acc e).2 := by
  by_cases ok : e.result = .accepted
  · rw [actOnResult_accepted acc ok]
    exact ((setUntried_actedOn _ _ _).trans (setRef_actedOn _ _ _)).trans (clearAlarm_actedOn _ _ _)
  · rw [actOnResult_refused acc ok]
    exact (setUntried_actedOn _ _ _).trans (raiseAlarm_actedOn _ _ _)

theorem accept_acted (ok : e.result = .accepted) (s : State) : ChannelActed e.chan e s (accept e s) := by
  let r : State := (s.setUntried e.chan false).setRef e.chan (acceptedRef e)
  have cleared := clearAlarm_cleared (stdFaultAlarm e.chan) none r
  have std : (accept e s).std = r.std := State.clearAlarm_std ..
  have bound := e.chan.isLt
  have word : ∀ i (hi : i < 3), r.liveWord (0x100 + 16 * e.chan.val + 4 * i) = (acceptedRef e).words[i] := fun i hi =>
    liveWords_liveWord (0x100 + 16 * e.chan.val) (acceptedRef e).words _ hi
  have kept : ∀ k, k + 4 ≤ 0x200 → (accept e s).liveWord k = r.liveWord k := fun k high =>
    readWord_of_sameBytes (clearAlarm_lowBytes (stdFaultAlarm e.chan) none r (lo := 0) (hi := 0x08200) (Nat.le_refl _))
      (Nat.zero_le _) (by simp only [liveBase]; omega)
  refine ⟨by rw [std]; exact (vector_set_get _ _ _ _).trans (if_pos rfl),
    fun _ => ⟨?_, ?_, ?_, ?_, cleared.1, cleared.2.2, cleared.2.1⟩, fun bad => absurd ok bad⟩
  · rw [std]
    exact (vector_set_get _ _ _ _).trans (if_pos rfl)
  · rw [kept _ (by omega)]
    exact word 0 (by decide)
  · rw [kept _ (by omega), show 0x104 + 16 * e.chan.val = 0x100 + 16 * e.chan.val + 4 * 1 by omega]
    exact word 1 (by decide)
  · rw [kept _ (by omega), show 0x108 + 16 * e.chan.val = 0x100 + 16 * e.chan.val + 4 * 2 by omega]
    exact word 2 (by decide)

theorem refuse_acted (bad : e.result ≠ .accepted) (s : State) : ChannelActed e.chan e s (refuse e s).2 := by
  let r : State := s.setUntried e.chan false
  have raised := raiseAlarm_raised (stdFaultAlarm e.chan) e.result.code.toInt r
  have entry := raiseAlarm_entry (stdFaultAlarm e.chan) e.result.code.toInt r
  have std : (refuse e s).2.std = r.std := by
    rw [refuse, raised.frame]
  refine ⟨by rw [std]; exact (vector_set_get _ _ _ _).trans (if_pos rfl), fun ok => absurd ok bad,
    fun _ => ⟨by rw [std]; rfl, raised.active, raised.value, ?_⟩⟩
  refine (congrArg AlarmEntry.timesRaised entry).trans ?_
  rw [apply_ite AlarmEntry.timesRaised]
  rfl

theorem actOnResult_acted (acc : Bool × State) (e : StdEntry) : ChannelActed e.chan e acc.2 (State.actOnResult acc e).2 := by
  by_cases ok : e.result = .accepted
  · rw [actOnResult_accepted acc ok]
    exact accept_acted ok acc.2
  · rw [actOnResult_refused acc ok]
    exact refuse_acted ok acc.2

theorem setUntried_channelSame {d : Fin 8} (other : d ≠ c) (b : Bool) (s : State) : ChannelSame c s (s.setUntried d b) :=
  ⟨rfl, (vector_set_get _ _ _ _).trans (if_neg other), rfl, sameBytes_refl _ _ _⟩

theorem setRef_channelSame {d : Fin 8} (other : d ≠ c) (r : RefRecord) (s : State) : ChannelSame c s (s.setRef d r) := by
  have apart : d.val ≠ c.val := fun h => other (Fin.ext h)
  refine ⟨(vector_set_get _ _ _ _).trans (if_neg other), rfl, rfl, liveWords_sameBytes _ _ _ ?_⟩
  simp only [liveBase, RefRecord.words, List.length_cons, List.length_nil]
  omega

theorem clearAlarm_channelSame {i : Fin 48} (apart : i ≠ stdFaultAlarm c) (x : Option Int) (s : State) :
    ChannelSame c s (s.clearAlarm i x) :=
  have bound := c.isLt
  ⟨by rw [State.clearAlarm_std], by rw [State.clearAlarm_std], clearAlarm_others apart _ _,
    clearAlarm_lowBytes _ _ _ (by omega)⟩

theorem raiseAlarm_channelSame {i : Fin 48} (apart : i ≠ stdFaultAlarm c) (x : Int) (s : State) :
    ChannelSame c s (s.raiseAlarm i (some x)).2 := by
  have bound := c.isLt
  have frame := (raiseAlarm_raised i x s).frame
  exact ⟨by rw [frame], by rw [frame], raiseAlarm_others apart _ _, raiseAlarm_lowBytes _ _ _ (by omega)⟩

/-- A result is acted on in its own channel alone. -/
theorem actOnResult_channelSame (other : e.chan ≠ c) (acc : Bool × State) :
    ChannelSame c acc.2 (State.actOnResult acc e).2 := by
  have apart : stdFaultAlarm e.chan ≠ stdFaultAlarm c := fun h => other (stdFaultAlarm_injective h)
  have tried := setUntried_channelSame other false acc.2
  by_cases ok : e.result = .accepted
  · rw [actOnResult_accepted acc ok]
    exact (tried.trans (setRef_channelSame other (acceptedRef e) _)).trans (clearAlarm_channelSame apart _ _)
  · rw [actOnResult_refused acc ok]
    exact tried.trans (raiseAlarm_channelSame apart _ _)

/-! ## All results are acted on -/

theorem results_actedOn (es : List StdEntry) (acc : Bool × State) : ActedOn acc.2 (es.foldl State.actOnResult acc).2 := by
  induction es generalizing acc with
  | nil => exact .refl _
  | cons e es ih => exact (actOnResult_actedOn acc e).trans (ih _)

theorem results_channelSame {es : List StdEntry} (out : ∀ e ∈ es, e.chan ≠ c) (acc : Bool × State) :
    ChannelSame c acc.2 (es.foldl State.actOnResult acc).2 := by
  induction es generalizing acc with
  | nil => exact .refl _ _
  | cons e es ih =>
    exact (actOnResult_channelSame (out e List.mem_cons_self) acc).trans
      (ih (fun x mem => out x (List.mem_cons_of_mem _ mem)) _)

theorem results_acted {es : List StdEntry} (nodup : (es.map StdEntry.chan).Nodup) (acc : Bool × State) :
    ∀ e ∈ es, ChannelActed e.chan e acc.2 (es.foldl State.actOnResult acc).2 := by
  induction es generalizing acc with
  | nil => exact fun _ mem => absurd mem List.not_mem_nil
  | cons e es ih =>
    rw [List.map_cons, List.nodup_cons] at nodup
    have out : ∀ x ∈ es, x.chan ≠ e.chan := fun x mem same => nodup.1 (List.mem_map.2 ⟨x, mem, same⟩)
    intro x mem
    rcases List.mem_cons.1 mem with rfl | mem
    · exact (actOnResult_acted acc x).after (results_channelSame out _)
    · have same := actOnResult_channelSame (fun h => out x mem h.symm) acc
      exact (ih nodup.2 _ x mem).before same.ref same.alarm

/-- A mark that is left belongs to no channel with a result. -/
theorem results_untried {es : List StdEntry} (acc : Bool × State)
    (left : (es.foldl State.actOnResult acc).2.std.untried[c] = true) :
    acc.2.std.untried[c] = true ∧ ∀ e ∈ es, e.chan ≠ c := by
  induction es generalizing acc with
  | nil => exact ⟨left, fun _ mem => absurd mem List.not_mem_nil⟩
  | cons e es ih =>
    obtain ⟨marked, out⟩ := ih _ left
    have other : e.chan ≠ c := by
      rintro rfl
      rw [(actOnResult_acted acc e).tried] at marked
      cases marked
    refine ⟨(actOnResult_channelSame other acc).untried.symm.trans marked, fun x mem => ?_⟩
    rcases List.mem_cons.1 mem with rfl | mem
    · exact other
    · exact out x mem

theorem raiseAlarm_raises (i : Fin 48) (x : Option Int) (s : State) :
    (s.raiseAlarm i x).1 = true ↔ s.alarms[i].active = false := by
  unfold State.raiseAlarm
  dsimp only
  split <;> rename_i active
  · exact iff_of_false Bool.false_ne_true fun inactive => Bool.eq_false_iff.1 inactive active
  · exact iff_of_true rfl (Bool.eq_false_iff.2 active)

/-- An entry was raised where a result that is not ACCEPTED found it NORMAL (R118). -/
theorem results_raised {es : List StdEntry} (nodup : (es.map StdEntry.chan).Nodup) (acc : Bool × State) :
    (es.foldl State.actOnResult acc).1 = true ↔
      acc.1 = true ∨ ∃ e ∈ es, e.result ≠ .accepted ∧ acc.2.alarms[stdFaultAlarm e.chan].active = false := by
  have first : ∀ (acc : Bool × State) (e : StdEntry), (State.actOnResult acc e).1 = true ↔
      acc.1 = true ∨ (e.result ≠ .accepted ∧ acc.2.alarms[stdFaultAlarm e.chan].active = false) := by
    intro acc e
    by_cases ok : e.result = .accepted
    · rw [actOnResult_accepted acc ok]
      exact ⟨.inl, fun h => h.resolve_right fun no => no.1 ok⟩
    · rw [actOnResult_refused acc ok, Bool.or_eq_true]
      exact or_congr_right ((raiseAlarm_raises _ _ _).trans ⟨fun inactive => ⟨ok, inactive⟩, And.right⟩)
  induction es generalizing acc with
  | nil => exact ⟨.inl, fun h => h.resolve_right fun ⟨_, mem, _⟩ => absurd mem List.not_mem_nil⟩
  | cons e es ih =>
    rw [List.map_cons, List.nodup_cons] at nodup
    have out : ∀ x ∈ es, e.chan ≠ x.chan := fun x mem same => nodup.1 (List.mem_map.2 ⟨x, mem, same.symm⟩)
    rw [List.foldl_cons]
    refine (ih nodup.2 _).trans ((or_congr_left (first acc e)).trans (or_assoc.trans ?_))
    refine or_congr_right ⟨?_, ?_⟩
    · rintro (here | ⟨x, mem, bad, inactive⟩)
      · exact ⟨e, List.mem_cons_self, here⟩
      · rw [(actOnResult_channelSame (out x mem) acc).alarm] at inactive
        exact ⟨x, List.mem_cons_of_mem _ mem, bad, inactive⟩
    · rintro ⟨x, mem, bad, inactive⟩
      rcases List.mem_cons.1 mem with rfl | mem
      · exact .inl ⟨bad, inactive⟩
      · exact .inr ⟨x, mem, bad, (congrArg AlarmEntry.active (actOnResult_channelSame (out x mem) acc).alarm).trans inactive⟩

end Sys2Proof.Proofs
end

section
/-!
PROOFS. The phases of a standardize: the rows SETTLE_END and MEASURE_END, and what a frame does (R112 to R118).
-/
namespace Sys2Proof.Proofs

open Sys2Proof.Machine Sys2Proof.Laws

-- One proof after another: threads that wait for each other count against the memory limit of the check.
set_option Elab.async false

variable {s t u v : State} {ctx : StdCtx}

/-! ## The results of a page -/

theorem stdEntry_congr {p q : Page} (h : ∀ off, off + 4 ≤ 0x4000 → q off = p off) (c : StdChan) :
    stdEntry q c = stdEntry p c := by
  have bound := c.chan.isLt
  have word : ∀ r, r ≤ 0x24 → q (chanOff c.chan.val r) = p (chanOff c.chan.val r) := fun r hr =>
    h _ (by simp only [chanOff]; omega)
  have frames : q.stdFrames = p.stdFrames := congrArg BitVec.toNat (h 0x090 (by decide))
  have form : q.offsetForm c.chan = p.offsetForm c.chan := congrArg (· == 1) (word 0x0C (by decide))
  have drift : q.driftLimit c.chan = p.driftLimit c.chan := congrArg BitVec.toNat (word 0x1C (by decide))
  have expect : q.checkExpect c.chan = p.checkExpect c.chan := congrArg BitVec.toInt (word 0x20 (by decide))
  have tol : q.checkTol c.chan = p.checkTol c.chan := congrArg BitVec.toNat (word 0x24 (by decide))
  unfold stdEntry
  rw [frames, form, drift, expect, tol]

theorem stdEntry_chan (p : Page) (c : StdChan) : (stdEntry p c).chan = c.chan := by
  unfold stdEntry
  dsimp only
  repeat' split
  all_goals rfl

/-- An accepted result carries the candidate as the new reference (R116, R118). -/
theorem stdEntry_accepted {p : Page} {c : StdChan} (ok : (stdEntry p c).result = .accepted) :
    (stdEntry p c).newRef = c.candidate := by
  revert ok
  unfold stdEntry
  dsimp only
  split
  · exact fun no => StdResult.noConfusion no
  · split
    · exact fun _ => rfl
    · repeat' split
      all_goals exact fun _ => rfl

/-! ## The conclusion -/

/-- The results of a conclusion. -/
def results (ctx : StdCtx) (s : State) : List StdEntry := ctx.chans.map (stdEntry s.page)

/-- The results acted on, and whether an entry was raised (R116). -/
def actedResults (ctx : StdCtx) (s : State) : Bool × State := (results ctx s).foldl State.actOnResult (false, s)

/-- The header of the record of a conclusion (Table 8-1, R156). -/
def concludeHeader (ctx : StdCtx) (time : Word) (raised : Bool) : RecHeader :=
  { earlyHeader ctx .complete time with alarmRaised := if raised then 0x10 else 0 }

theorem stdConclude_some (found : s.std.ctx = some ctx) :
    s.stdConclude = ((actedResults ctx s).2.produce
      (concludeHeader ctx (actedResults ctx s).2.link.timeCounter (actedResults ctx s).1)
      ((results ctx s).flatMap entryWords)).finishStd := by
  unfold State.stdConclude
  rw [found]
  rfl

theorem results_chans (ctx : StdCtx) (s : State) : (results ctx s).map StdEntry.chan = ctx.chans.map StdChan.chan := by
  rw [results, List.map_map]
  exact List.map_congr_left fun c _ => stdEntry_chan s.page c

theorem actedResults_actedOn (ctx : StdCtx) (s : State) : ActedOn s (actedResults ctx s).2 :=
  results_actedOn (results ctx s) (false, s)

theorem actedResults_acted (nodup : (ctx.chans.map StdChan.chan).Nodup) {x : StdChan} (mem : x ∈ ctx.chans) :
    ChannelActed x.chan (stdEntry s.page x) s (actedResults ctx s).2 :=
  (results_acted (es := results ctx s) (by rw [results_chans]; exact nodup) (false, s) _ (List.mem_map_of_mem mem)).of_chan (stdEntry_chan _ x)

theorem actedResults_channelSame {c : Fin 8} (out : ∀ x ∈ ctx.chans, x.chan ≠ c) :
    ChannelSame c s (actedResults ctx s).2 := by
  refine results_channelSame (fun e mem => ?_) (false, s)
  obtain ⟨x, inside, rfl⟩ := List.mem_map.1 mem
  rw [stdEntry_chan]
  exact out x inside

/-- What a conclusion leaves before the head moves. -/
structure Recorded (ctx : StdCtx) (s t : State) : Prop where
  ended : t.std.ctx = none
  stdz : t.noticeSet .stdz = true
  scanCount : t.std.scanCount = 0
  stdNow : t.std.stdNow = false
  lastRecord : t.ex.lastRecord = s.ex.lastRecord + 1
  generation : t.ex.generation = s.ex.generation
  pending : t.ex.applyPending = s.ex.applyPending
  untried : ∀ c : Fin 8, t.std.untried[c] = true → s.std.untried[c] = true ∧ ∀ x ∈ ctx.chans, x.chan ≠ c
  due : t.std.due = true → ∃ c : Fin 8, t.std.untried[c] = true
  store : ∀ hi, SameBytes t.mem ((actedResults ctx s).2.produce
    (concludeHeader ctx s.link.timeCounter (actedResults ctx s).1) ((results ctx s).flatMap entryWords)).mem storeBase hi
  blocks : BlocksKept (actedResults ctx s).2 t

theorem stdConclude_recorded (found : s.std.ctx = some ctx) : Recorded ctx s s.stdConclude := by
  let a := (actedResults ctx s).2
  have acted : ActedOn s a := actedResults_actedOn ctx s
  have link : a.link = s.link := by rw [acted.frame]
  let r := a.produce (concludeHeader ctx a.link.timeCounter (actedResults ctx s).1) ((results ctx s).flatMap entryWords)
  have whole : s.stdConclude = r.finishStd := stdConclude_some found
  have std : r.std = a.std := State.produce_std ..
  have ex : r.ex = { a.ex with lastRecord := r.ex.lastRecord, skipped := r.ex.skipped, nextFrame := r.ex.nextFrame,
                               notice := r.ex.notice } := produce_ex ..
  have blocks : BlocksKept a r := produce_blocks _ _ a
  rw [whole]
  exact
    { ended := rfl, stdz := noticeSet_setNotice .stdz r, scanCount := rfl, stdNow := rfl
      lastRecord := (produce_number a _ _).trans (by rw [acted.frame])
      generation := by show r.ex.generation = _; rw [ex, acted.frame]
      pending := by show r.ex.applyPending = _; rw [ex, acted.frame]
      untried := fun c left => by
        have left' : a.std.untried[c] = true := by rw [← std]; exact left
        obtain ⟨marked, out⟩ := results_untried (false, s) left'
        exact ⟨marked, fun x mem same => out _ (List.mem_map_of_mem mem) ((stdEntry_chan s.page x).trans same)⟩
      due := (finishStd_due r).1
      store := fun hi => by
        rw [← link]
        exact sameBytes_refl r.mem _ _
      blocks := blocks.trans { } }

/-- The head PARKED, and then what its goal asks: with no apply pending the other blocks stay as the record left them. -/
theorem parkAfterStd_idle (idle : s.ex.applyPending = false) :
    s.parkAfterStd.std = s.std ∧ BlocksKept s s.parkAfterStd ∧ s.parkAfterStd.arb.goal = s.claimedGoal ∧
      s.parkAfterStd.ex.generation = s.ex.generation := by
  let n := s.enterParked
  let r := (n.recompute .other).state
  let p := (n.recompute .other).posChanged
  have entered : HeadKept s n := setHead_kept .parked s
  have pending : n.ex.applyPending = false := by rw [entered.ex]; exact idle
  have whole : s.parkAfterStd = r.takeGoalStill (false || p) false := by
    unfold State.parkAfterStd
    dsimp only
    rw [applyPoint_idle n pending]
  obtain ⟨ex, std, -⟩ := recompute_ex .other n
  have moved : HeadKept r (r.takeGoalStill (false || p) false) := takeGoalStill_kept _ _ r
  rw [whole]
  refine ⟨(moved.std.trans std).trans entered.std,
    ((setHead_blocks .parked s).trans (recompute_blocks .other n)).trans (takeGoalStill_move _ _ r).blocks, ?_, ?_⟩
  · rw [moved.arb]
    exact (recompute_goal n .other).trans entered.claims
  · rw [moved.ex]
    show r.ex.generation = s.ex.generation
    rw [ex, entered.ex]

theorem claimedGoal_ne_standardize (due : s.std.due = false) (stdNow : s.std.stdNow = false) :
    s.claimedGoal ≠ .standardize := by
  unfold State.claimedGoal
  rw [due, stdNow]
  split
  · exact Goal.noConfusion
  · cases s.ex.reqMode <;> exact Goal.noConfusion

/-- The four words of a channel in a record that carries results (R118). -/
theorem resultWords {es : List StdEntry} {h : RecHeader} {k : Fin 8} (found : findFree s.mem s.ex.nextFrame = some k)
    {m : Mem} (same : ∀ hi, SameBytes m (s.produce h (es.flatMap entryWords)).mem storeBase hi) {i : Nat}
    (hi : i < es.length) :
    let word := fun i => readWord m (frameBase k.val + 4 * i)
    word (16 + 4 * i) = BitVec.ofNat 32 es[i].oldRef ∧ word (17 + 4 * i) = BitVec.ofNat 32 es[i].newRef ∧
      word (18 + 4 * i) = BitVec.ofInt 32 es[i].check ∧ word (19 + 4 * i) = es[i].result.code := by
  have word := fun {j : Nat} (hj : j < 4) {w : Word} (e : (entryWords es[i])[j]? = some w) =>
    record_bodyWord found same ((getElem?_flatMap_four (f := entryWords) (fun _ => rfl) es hi hj).trans e)
  dsimp only
  rw [show 17 + 4 * i = 16 + (4 * i + 1) by omega, show 18 + 4 * i = 16 + (4 * i + 2) by omega,
    show 19 + 4 * i = 16 + (4 * i + 3) by omega]
  exact ⟨word (j := 0) (by decide) rfl, word (j := 1) (by decide) rfl, word (j := 2) (by decide) rfl,
    word (j := 3) (by decide) rfl⟩

/-- What an event that ends with the conclusion of a standardize leaves. -/
structure StdConcluded (ctx : StdCtx) (s t : State) : Prop where
  ended : t.std.ctx = none
  head : t.trav.head ≠ .standardizing
  stdz : t.noticeSet .stdz = true
  scanCount : t.std.scanCount = 0
  stdNow : t.std.stdNow = false
  due : t.std.due = false
  lastRecord : t.ex.lastRecord = s.ex.lastRecord + 1
  goal : t.arb.goal ≠ .standardize
  generation : t.ex.generation = s.ex.generation
  acted : (ctx.chans.map StdChan.chan).Nodup → StdActed ctx s t
  store : ∀ hi, SameBytes t.mem ((actedResults ctx s).2.produce
    (concludeHeader ctx s.link.timeCounter (actedResults ctx s).1) ((results ctx s).flatMap entryWords)).mem storeBase hi

/-- The results as they stand in a state that keeps the blocks since they were acted on. -/
theorem results_stdActed (nodup : (ctx.chans.map StdChan.chan).Nodup) (kept : BlocksKept (actedResults ctx s).2 t) :
    StdActed ctx s t := by
  refine ⟨fun x mem => ?_, fun c out => ?_⟩
  · obtain ⟨tried, accepted, refused⟩ := (actedResults_acted nodup mem).after (kept.channel _)
    refine ⟨tried, fun ok => ?_, refused⟩
    have held := accepted ok
    rw [acceptedRef, stdEntry_accepted ok] at held
    exact held
  · have same := (actedResults_channelSame out).trans (kept.channel c)
    exact ⟨same.ref, same.untried, same.alarm⟩

theorem stdFinish_concluded (agrees : Agrees s) (found : s.std.ctx = some ctx) (idle : s.ex.applyPending = false)
    (tried : ∀ c : Fin 8, s.std.untried[c] = true → ∃ x ∈ ctx.chans, x.chan = c) :
    StdConcluded ctx s s.stdFinish.endEvent := by
  have sound : s.stdFinish.endEvent.Sound := endEvent_sound (stdFinish_agrees agrees (by rw [found]; rfl))
  have recorded := stdConclude_recorded found
  let c := s.stdConclude
  have due : c.std.due = false := Bool.eq_false_iff.2 fun isDue => by
    obtain ⟨k, left⟩ := recorded.due isDue
    obtain ⟨marked, out⟩ := recorded.untried k left
    obtain ⟨x, mem, same⟩ := tried k marked
    exact out x mem same
  obtain ⟨std, kept, goal, generation⟩ := parkAfterStd_idle (s := c) (recorded.pending.trans idle)
  have rest : c.parkAfterStd.arb.goal ≠ .standardize := by
    rw [goal]
    exact claimedGoal_ne_standardize due recorded.stdNow
  have still : c.parkAfterStd.stdStartDue = false := by
    rw [State.stdStartDue, decide_eq_false rest]
    rfl
  have frame : s.stdFinish.endEvent = { c.parkAfterStd with link := s.stdFinish.endEvent.link } := endEvent_frame still
  have head : s.trav.head = .standardizing := of_decide_eq_true (agrees.work.std.symm.trans (by rw [found]; rfl))
  obtain ⟨none, bin, trav, -⟩ := stdConclude_work found
  obtain ⟨scan, batch, duty, homed⟩ := agrees.work.standardizing head
  have records : RecordsSame c s.stdFinish.endEvent :=
    (parkAfterStd_records (s := c) ⟨by rw [bin]; exact scan, none, by rw [bin]; exact batch, by rw [trav]; exact homed⟩
      (by rw [trav]; exact duty)).trans (endEvent_records still)
  have ended : s.stdFinish.endEvent.std.ctx = .none := records.ctx.trans recorded.ended
  exact
    { ended := ended
      head := by
        have iff := sound.head.std
        rw [ended] at iff
        exact of_decide_eq_false iff.symm
      stdz := (parkAfterStd_evolves.trans endEvent_evolves).frame.notices (Set.notMem_empty _) _ recorded.stdz
      scanCount := records.scanCount.trans recorded.scanCount
      stdNow := records.stdNow.trans recorded.stdNow
      due := by rw [frame]; exact (congrArg StdSeq.due std).trans due
      lastRecord := records.lastRecord.trans recorded.lastRecord
      goal := by rw [frame]; exact rest
      generation := by rw [frame]; exact generation.trans recorded.generation
      acted := fun nodup => results_stdActed nodup ((recorded.blocks.trans kept).trans (endEvent_blocks _))
      store := fun hi => sameBytes_trans (records.store hi) (recorded.store hi) }

/-- The words of the record of a conclusion. -/
theorem StdConcluded.words (h : StdConcluded ctx s t) {k : Fin 8} (free : findFree s.mem s.ex.nextFrame = some k) :
    let word := fun i => readWord t.mem (frameBase k.val + 4 * i)
    word 0 = readyCode ∧ word 1 = 3 ∧ word 2 = s.ex.lastRecord + 1 ∧ word 4 = 1 ∧ word 5 = 0 ∧
      word 6 = s.ex.generation ∧ word 7 = ctx.startTime ∧ word 8 = s.link.timeCounter ∧
      word 12 = presentMask (ctx.chans.map (fun x => x.chan.val)) ∧
      ((ctx.chans.map StdChan.chan).Nodup →
        word 14 = (if ∃ x ∈ ctx.chans, (stdEntry s.page x).result ≠ .accepted ∧
          s.alarms[stdFaultAlarm x.chan].active = false then 0x10 else 0)) ∧
      word 15 = BitVec.ofNat 32 (16 + 4 * ctx.chans.length) ∧
      ∀ i, (hi : i < ctx.chans.length) →
        let e := stdEntry s.page ctx.chans[i]
        word (16 + 4 * i) = BitVec.ofNat 32 e.oldRef ∧ word (17 + 4 * i) = BitVec.ofNat 32 e.newRef ∧
        word (18 + 4 * i) = BitVec.ofInt 32 e.check ∧ word (19 + 4 * i) = e.result.code := by
  have acted := actedResults_actedOn ctx s
  have ex : (actedResults ctx s).2.ex = { s.ex with notice := (actedResults ctx s).2.ex.notice } := by
    rw [acted.frame]
  have free' : findFree (actedResults ctx s).2.mem (actedResults ctx s).2.ex.nextFrame = some k := by
    rw [findFree_congr (acted.bytes (.inr (by decide))), ex]
    exact free
  have number : (actedResults ctx s).2.ex.lastRecord = s.ex.lastRecord := by rw [ex]
  have generation : (actedResults ctx s).2.ex.generation = s.ex.generation := by rw [ex]
  obtain ⟨ready, word⟩ := record_words free' (h.store 0x40000)
  refine ⟨ready, word 0 (by decide), (word 1 (by decide)).trans (congrArg (· + 1) number), word 3 (by decide),
    word 4 (by decide), (word 5 (by decide)).trans generation, (word 6 (by decide)).trans rfl, (word 7 (by decide)).trans rfl,
    (word 11 (by decide)).trans rfl, fun nodup => (word 13 (by decide)).trans ?_, (word 14 (by decide)).trans ?_, fun i hi => ?_⟩
  · have raised := results_raised (es := results ctx s) (by rw [results_chans]; exact nodup) (false, s)
    have normal : ∀ x, s.alarms[stdFaultAlarm (stdEntry s.page x).chan].active = s.alarms[stdFaultAlarm x.chan].active :=
      fun x => congrArg (fun c => s.alarms[stdFaultAlarm c].active) (stdEntry_chan s.page x)
    show (if (actedResults ctx s).1 then (0x10 : Word) else 0) = _
    refine if_congr (raised.trans ⟨?_, ?_⟩) rfl rfl
    · rintro (no | ⟨e, mem, bad, inactive⟩)
      · cases no
      · obtain ⟨x, inside, rfl⟩ := List.mem_map.1 mem
        exact ⟨x, inside, bad, (normal x).symm.trans inactive⟩
    · rintro ⟨x, mem, bad, inactive⟩
      exact .inr ⟨_, List.mem_map_of_mem mem, bad, (normal x).trans inactive⟩
  · have length : ((results ctx s).flatMap entryWords).length = 4 * ctx.chans.length := by
      rw [length_flatMap_four (fun _ => rfl), results, List.length_map]
    rw [← length]
    rfl
  · have inside : i < (results ctx s).length := by
      rw [results, List.length_map]
      exact hi
    have same : (results ctx s)[i] = stdEntry s.page ctx.chans[i] := List.getElem_map _
    have words := resultWords free' h.store inside
    rw [same] at words
    exact words

end Sys2Proof.Proofs
end

section
/-!
PROOFS. The rows SETTLE_END and MEASURE_END, and what a standardize does with a frame (R112 to R114).
-/
namespace Sys2Proof.Proofs

open Sys2Proof.Machine Sys2Proof.Laws

-- One proof after another: threads that wait for each other count against the memory limit of the check.
set_option Elab.async false

variable {s t u v : State} {ctx : StdCtx} {slots : List SlotRx} {f : Machine.Frame}

/-! ## The rows -/

/-- A phase of the same REF leaves nothing for the end of the event. -/
theorem settled_phase {c c' : StdCtx} (h : s.Settled) (goal : t.arb.goal = s.arb.goal) (head : t.trav.head = s.trav.head)
    (up : t.link.up = s.link.up) (shutter : t.link.shutter = s.link.shutter) (ref : t.link.ref = s.link.ref)
    (before : s.std.ctx = some c) (after : t.std.ctx = some c') (refIn : c'.phase.refIn = c.phase.refIn) :
    t.Settled where
  start := by
    have start := h.start
    unfold State.stdStartDue at start ⊢
    rw [goal, head, up]
    exact start
  shutter := by
    have demand := h.shutter
    unfold State.shutterDemand at demand ⊢
    rw [head, shutter, after]
    rw [before] at demand
    exact demand
  ref := by
    have demand := h.ref
    unfold State.refDemand at demand ⊢
    rw [head, ref, after]
    rw [before] at demand
    exact demand.trans (congrArg (decide (s.trav.head = .standardizing) && ·) refIn.symm)

theorem settleEnd_some (found : s.std.ctx = some ctx) : s.settleEnd = { s with std.ctx := some { ctx with
    phase := if ctx.phase.refIn then .measureRef else .measureAir, count := 0 } } := by
  unfold State.settleEnd
  rw [found]

theorem settleDue_some (found : s.std.ctx = some ctx) : s.settleDue =
    (ctx.phase.isSettle && !s.link.echoPending && decide (max 1 s.page.stdSettle ≤ ctx.count)) := by
  unfold State.settleDue
  rw [found]

theorem measureDue_eq (found : s.std.ctx = some ctx) :
    s.measureDue = (!ctx.phase.isSettle && decide (s.page.stdFrames ≤ ctx.count)) := by
  unfold State.measureDue
  rw [found]

theorem goesToRef_some (found : s.std.ctx = some ctx) :
    s.goesToRef = (decide (ctx.phase = .measureAir) && ctx.chans.any StdChan.inCheck) := by
  unfold State.goesToRef
  rw [found]

/-- The row SETTLE_END (R113). -/
theorem settleEnd_row (sound : s.Sound) (ready : s.ex.life = .ready) (found : s.std.ctx = some ctx)
    (due : s.settleDue = true) : exec .settleEnd s = .next { s with std.ctx := some { ctx with
      phase := if ctx.phase.refIn then .measureRef else .measureAir, count := 0 } } := by
  have settled := settled_phase (t := { s with std.ctx := some { ctx with
    phase := if ctx.phase.refIn then .measureRef else .measureAir, count := 0 } })
    sound.settled rfl rfl rfl rfl rfl found rfl (by cases ctx.phase <;> rfl)
  refine congrArg Host.Outcome.next ((event_ready _ _ ready).trans ?_)
  rw [if_pos due, settleEnd_some found, endEvent_of_settled _ settled]

/-- What the start of SETTLE_REF leaves when the event ends: REF is demanded in (R114, R35). -/
structure RefBegun (ctx : StdCtx) (s t : State) : Prop where
  frame : t = { s with std.ctx := some { ctx with phase := .settleRef, count := 0 }, link := t.link }
  ref : t.link.ref = true
  shutter : t.link.shutter = true
  seq : t.link.seq = s.link.seq + 1
  echo : t.link.echoPending = true ∧ t.link.echoCount = 0

theorem beginSettleRef_begun (rest : s.stdStartDue = false) (found : s.std.ctx = some ctx)
    (head : s.trav.head = .standardizing) (out : s.link.ref = false) : RefBegun ctx s s.beginSettleRef.endEvent := by
  let b : State := { s with std.ctx := some { ctx with phase := .settleRef, count := 0 } }
  have begun : s.beginSettleRef = b := by
    unfold State.beginSettleRef
    rw [found]
  have shutter : b.shutterDemand = true := if_pos head
  have ref : b.refDemand = true := by
    rw [State.refDemand, show b.trav.head = .standardizing from head]
    rfl
  have ended : b.endEvent = b.commandCompare := by
    unfold State.endEvent
    rw [stdStart_of_not_due b rest]
  obtain ⟨seq, echo⟩ := commandCompare_changed (s := b) fun same => by
    rw [ref, show b.link.ref = false from out] at same
    exact Bool.noConfusion same.2
  obtain ⟨carriesShutter, carriesRef⟩ := commandCompare_carries b
  have demands : b.commandCompare.shutterDemand = true ∧ b.commandCompare.refDemand = true := by
    rw [commandCompare_frame b]
    exact ⟨shutter, ref⟩
  rw [begun, ended]
  exact ⟨commandCompare_frame b, carriesRef.trans demands.2, carriesShutter.trans demands.1, seq, echo⟩

/-! ## The samples of a frame -/

/-- The sample of a channel among those of a frame (R90); DRY is no channel with a slot. -/
theorem findSample_frameSamples (p : Page) (refs : Vector RefRecord 8) (slots : List SlotRx) (n : Nat) (valid : Bool)
    (c : Fin 8) : findSample (frameSamples p refs slots n valid) c.castSucc =
      if c ∈ p.enabledChannels then some (sampleOf p refs slots n valid c) else none := by
  have chan : ∀ d, (sampleOf p refs slots n valid d).chan = d.castSucc := fun d => by
    unfold sampleOf
    split <;> rfl
  have own : ∀ l : List (Fin 8), findSample (l.map (sampleOf p refs slots n valid)) c.castSucc =
      if c ∈ l then some (sampleOf p refs slots n valid c) else none := by
    intro l
    induction l with
    | nil => rfl
    | cons d l ih =>
      unfold findSample at ih ⊢
      rw [List.map_cons, List.find?_cons, chan]
      by_cases same : d = c
      · subst same
        rw [decide_eq_true rfl, if_pos List.mem_cons_self]
      · rw [decide_eq_false (fun h => same (Fin.castSucc_injective _ h))]
        refine ih.trans (if_congr ?_ rfl rfl)
        rw [List.mem_cons]
        exact ⟨.inr, fun h => h.resolve_left fun e => same e.symm⟩
  have dry : ∀ (xs : List Sample) (a b : Sample), findSample (xs ++ [drySample a b]) c.castSucc = findSample xs c.castSucc := by
    intro xs a b
    have last : (drySample a b).chan ≠ c.castSucc := by
      have eight : (drySample a b).chan = dryChannel := by
        unfold drySample
        split <;> rfl
      rw [eight]
      exact (Fin.castSucc_lt_last c).ne'
    unfold findSample
    rw [List.find?_append, List.find?_singleton, decide_eq_false last]
    exact Option.or_none
  unfold frameSamples
  dsimp only
  split
  · exact (dry _ _ _).trans (own _)
  · exact own _

/-- What a standardize reads of a sample (R101). -/
def stdReading (x : Sample) : Nat × Bool := (x.raw, x.stdValid)

/-- It depends on the page by the enabled channels and their slots alone. -/
theorem findSample_read {p q : Page} (h : ∀ off, off + 4 ≤ 0x4000 → q off = p off) (refs : Vector RefRecord 8)
    (slots : List SlotRx) (n : Nat) (valid : Bool) (c : Fin 8) :
    (findSample (frameSamples q refs slots n valid) c.castSucc).map stdReading =
      (findSample (frameSamples p refs slots n valid) c.castSucc).map stdReading := by
  have bound := c.isLt
  have slot : q.slot c.val = p.slot c.val := congrArg BitVec.toNat (h _ (by simp only [chanOff]; omega))
  have same : stdReading (sampleOf q refs slots n valid c) = stdReading (sampleOf p refs slots n valid c) := by
    unfold sampleOf
    rw [slot]
    split <;> rfl
  rw [findSample_frameSamples, findSample_frameSamples, enabledChannels_congr h]
  split
  · exact congrArg some same
  · rfl

theorem collect_congr {xs ys : List Sample} (h : ∀ c : Fin 8,
    (findSample ys c.castSucc).map stdReading = (findSample xs c.castSucc).map stdReading) (ref : Bool) :
    StdChan.collect ref ys = StdChan.collect ref xs := by
  funext c
  have read := h c.chan
  unfold StdChan.collect
  cases mine : findSample xs c.chan.castSucc with
  | none =>
    rw [mine] at read
    rw [Option.map_eq_none_iff.1 read]
  | some x =>
    rw [mine] at read
    obtain ⟨y, other, same⟩ := Option.map_eq_some_iff.1 read
    obtain ⟨raw, valid⟩ := Prod.mk.inj same
    rw [other]
    dsimp only
    rw [raw, valid]

theorem collect_chan (ref : Bool) (xs : List Sample) (c : StdChan) :
    (c.collect ref xs).chan = c.chan ∧ (c.collect ref xs).inCheck = c.inCheck := by
  unfold StdChan.collect
  split
  · exact ⟨rfl, rfl⟩
  · split
    · exact ⟨rfl, rfl⟩
    · cases ref with
      | true => rw [if_pos rfl]; split <;> exact ⟨rfl, rfl⟩
      | false => exact ⟨rfl, rfl⟩

/-! ## The state in which the frame's samples are distributed -/

theorem liveSamples_frame (xs : List Sample) (s : State) : s.liveSamples xs = { s with mem := (s.liveSamples xs).mem } := by
  have one : ∀ (v : State) x, v.liveSample x = { v with mem := (v.liveSample x).mem } := by
    intro v x
    unfold State.liveSample
    dsimp only
    split <;> rfl
  unfold State.liveSamples
  induction xs generalizing s with
  | nil => rfl
  | cons x xs ih =>
    rw [List.foldl_cons, ih (s.liveSample x), one s x]

theorem liveSamples_sameBytes (xs : List Sample) (s : State) {lo hi : Nat} (low : hi ≤ 0x08080) :
    SameBytes (s.liveSamples xs).mem s.mem lo hi := by
  have one : ∀ (v : State) x, SameBytes (v.liveSample x).mem v.mem lo hi := by
    intro v x
    have validity := live_sameBytes v (0x0C0 + 4 * x.chan.val) x.validity.code (lo := lo) (hi := hi)
      (.inl (by simp only [liveBase]; omega))
    unfold State.liveSample
    dsimp only
    split
    · exact sameBytes_trans (live_sameBytes _ _ _ (.inl (by simp only [liveBase]; omega))) validity
    · exact validity
  unfold State.liveSamples
  induction xs generalizing s with
  | nil => exact sameBytes_refl _ _ _
  | cons x xs ih => exact sameBytes_trans (ih _) (one s x)

/-- The state of a quiet frame whose counts and samples are taken, before the standardize and the other work see it. -/
structure Heard (slots : List SlotRx) (f : Machine.Frame) (s l : State) : Prop where
  frame : l = { s with link := l.link, alarms := l.alarms, mem := l.mem, ex := { s.ex with notice := l.ex.notice } }
  up : l.link.up = s.link.up
  shutter : l.link.shutter = s.link.shutter
  ref : l.link.ref = s.link.ref
  echo : l.link.echoPending = (s.judgedFrame slots f).link.echoPending
  page : ∀ off, off + 4 ≤ 0x4000 → l.page off = s.page off
  alarm : ∀ c : Fin 8, l.alarms[stdFaultAlarm c] = s.alarms[stdFaultAlarm c]

theorem raiseAlarm_whole (i : Fin 48) (x : Option Int) (s : State) : (s.raiseAlarm i x).2 =
    { s with alarms := (s.raiseAlarm i x).2.alarms, mem := (s.raiseAlarm i x).2.mem
             ex := { s.ex with notice := (s.raiseAlarm i x).2.ex.notice } } := by
  unfold State.raiseAlarm
  dsimp only
  split
  · rw [setAlarm_frame]
  · rw [setAlarm_frame]
    rfl

theorem clearAlarm_whole (i : Fin 48) (x : Option Int) (s : State) : s.clearAlarm i x =
    { s with alarms := (s.clearAlarm i x).alarms, mem := (s.clearAlarm i x).mem
             ex := { s.ex with notice := (s.clearAlarm i x).ex.notice } } := by
  unfold State.clearAlarm
  dsimp only
  split
  · rw [setAlarm_frame]
    rfl
  · rw [setAlarm_frame]

/-- The TEMP_ALARM comparison moves its last value and an alarm entry (R41). -/
structure TempMoved (last : Bool) (s t : State) : Prop where
  frame : t = { s with link := { s.link with lastTempAlarm := last }, alarms := t.alarms, mem := t.mem
                       ex := { s.ex with notice := t.ex.notice } }
  bytes : ∀ {lo hi : Nat}, hi ≤ 0x08100 → SameBytes t.mem s.mem lo hi

theorem tempAlarm_moved (status : Option SlotWord) (s : State) : ∃ last, TempMoved last s (s.tempAlarm status) := by
  unfold State.tempAlarm
  split
  · exact ⟨s.link.lastTempAlarm, rfl, fun _ => sameBytes_refl _ _ _⟩
  · rename_i w
    dsimp only
    split
    · exact ⟨s.link.lastTempAlarm, rfl, fun _ => sameBytes_refl _ _ _⟩
    · refine ⟨statusTempAlarm w, ?_⟩
      split
      · exact ⟨raiseAlarm_whole _ _ _, fun low => (raiseAlarm_actedOn _ _ _).bytes (.inl low)⟩
      · exact ⟨clearAlarm_whole _ _ _, fun low => (clearAlarm_actedOn _ _ _).bytes (.inl low)⟩

theorem tempAlarm_others (status : Option SlotWord) (s : State) {j : Fin 48} (other : headTempAlarm ≠ j) :
    (s.tempAlarm status).alarms[j] = s.alarms[j] := by
  unfold State.tempAlarm
  split
  · rfl
  · dsimp only
    split
    · rfl
    · split
      · exact raiseAlarm_others other _ _
      · exact clearAlarm_others other _ _

/-- Where a quiet frame's samples are distributed, and that they read as on the page of the state before. -/
theorem frameReceived_heard (quiet : s.QuietFrame slots f) : ∃ l xs, Heard slots f s l ∧
    s.frameReceived slots = l.distribute f xs ∧ ∀ c : Fin 8,
      (findSample xs c.castSucc).map stdReading = (findSample (s.frameResult slots f) c.castSucc).map stdReading := by
  let status := slotWord slots f.slotCount 0
  let valid := (s.judgedFrame slots f).frameValid f status
  obtain ⟨b, n, judged, -⟩ := judgedFrame_frame slots f s
  let h := (s.judgedFrame slots f).tempAlarm status
  obtain ⟨last, moved⟩ : ∃ last, TempMoved last (s.judgedFrame slots f) h := tempAlarm_moved status _
  let xs := frameSamples h.page h.std.refs slots f.slotCount valid
  have whole : s.frameReceived slots = (h.liveSamples xs).distribute f xs := by
    rw [frameReceived_eq quiet.flight, quiet_judgeLink quiet]
    rfl
  have hFrame : h = { s with link := { framedLink status.isSome s.link b n with lastTempAlarm := last }
                             alarms := h.alarms, mem := h.mem, ex := { s.ex with notice := h.ex.notice } } :=
    moved.frame.trans (by rw [judged])
  have hLink : h.link = { framedLink status.isSome s.link b n with lastTempAlarm := last } := by rw [hFrame]
  have std : h.std = s.std := by rw [hFrame]
  have mid : h = { s with link := h.link, alarms := h.alarms, mem := h.mem, ex := { s.ex with notice := h.ex.notice } } :=
    hFrame.trans (by rw [hLink])
  have same : ∀ {lo hi : Nat}, hi ≤ 0x08080 → SameBytes h.mem s.mem lo hi := fun {lo hi} low => by
    have bytes := moved.bytes (lo := lo) (le_trans low (by decide))
    rw [judged] at bytes
    exact bytes
  have page : ∀ off, off + 4 ≤ 0x4000 → h.page off = s.page off := fun off low =>
    page_of_sameBytes (same (by decide)) low
  have shown := liveSamples_frame xs h
  refine ⟨h.liveSamples xs, xs, ?_, whole, fun c => ?_⟩
  · exact
      { frame := by rw [shown, mid]
        up := by rw [shown, hLink]; rfl
        shutter := by rw [shown, hLink]; rfl
        ref := by rw [shown, hLink]; rfl
        echo := by rw [shown, hLink, judged]
        page := fun off low => page_of_sameBytes
          (sameBytes_trans (liveSamples_sameBytes xs h (by decide)) (same (by decide))) low
        alarm := fun c => by
          rw [shown]
          refine (tempAlarm_others status _ (stdFaultAlarm_other c).1.symm).trans ?_
          rw [judged] }
  · show (findSample (frameSamples h.page h.std.refs slots f.slotCount valid) c.castSucc).map stdReading = _
    rw [std]
    exact findSample_read page s.std.refs slots f.slotCount valid c

end Sys2Proof.Proofs
end

section
/-!
PROOFS. A frame-received event at the standardize sequencer (R112 to R114), and frames that are not its own.
-/
namespace Sys2Proof.Proofs

open Sys2Proof.Machine Sys2Proof.Laws

-- One proof after another: threads that wait for each other count against the memory limit of the check.
set_option Elab.async false

variable {s t u v l : State} {ctx : StdCtx} {slots : List SlotRx} {f : Machine.Frame}

theorem Heard.aside (heard : Heard slots f s l) : Aside s l := by
  have frame := heard.frame
  exact
    { head := by rw [frame], homed := by rw [frame], duty := by rw [frame], scan := by rw [frame]
      batch := by rw [frame], ctx := by rw [frame], life := by rw [frame], goal := by rw [frame]
      request := by rw [frame], park := by rw [frame], up := heard.up, stdNow := by rw [frame], due := by rw [frame]
      broken := by rw [frame] }

/-! ## A frame of the standardize -/

/-- The context with the frame counted. -/
def counted (ctx : StdCtx) (l : State) (xs : List Sample) : State :=
  { l with std.ctx := some (ctx.count1 l.link.echoPending xs) }

theorem stdFrame_some (found : l.std.ctx = some ctx) (xs : List Sample) : l.stdFrame xs =
    if (counted ctx l xs).settleDue then (counted ctx l xs).settleEnd
    else if (counted ctx l xs).measureDue then (counted ctx l xs).measureEnd else counted ctx l xs := by
  unfold State.stdFrame
  rw [found]
  rfl

theorem count1_settling (settling : ctx.phase.isSettle = true) (pending : Bool) (xs : List Sample) :
    ctx.count1 pending xs = if pending = true then ctx else { ctx with count := ctx.count + 1 } := by
  unfold StdCtx.count1
  rw [if_pos settling]

/-- The context of a measuring phase with the frame counted and collected (R114). -/
def measured (ctx : StdCtx) (xs : List Sample) : StdCtx :=
  { ctx with count := ctx.count + 1, chans := ctx.chans.map (StdChan.collect ctx.phase.refIn xs) }

theorem count1_measuring (measuring : ctx.phase.isSettle = false) (pending : Bool) (xs : List Sample) :
    ctx.count1 pending xs = measured ctx xs := by
  unfold StdCtx.count1
  rw [measuring]
  rfl

theorem measured_congr {xs ys : List Sample} (h : ∀ c : Fin 8,
    (findSample ys c.castSucc).map stdReading = (findSample xs c.castSucc).map stdReading) :
    measured ctx ys = measured ctx xs := by
  rw [measured, collect_congr h]
  rfl

theorem measured_chans (ctx : StdCtx) (xs : List Sample) :
    (measured ctx xs).chans.map StdChan.chan = ctx.chans.map StdChan.chan ∧
      (measured ctx xs).chans.any StdChan.inCheck = ctx.chans.any StdChan.inCheck := by
  refine ⟨?_, ?_⟩
  · rw [measured, List.map_map]
    exact List.map_congr_left fun c _ => (collect_chan _ _ c).1
  · rw [measured, List.any_map]
    exact congrArg (List.any ctx.chans) (funext fun c => (collect_chan _ _ c).2)

theorem Heard.settled (heard : Heard slots f s l) (sound : s.Sound) (found : s.std.ctx = some ctx) {c : StdCtx}
    (refIn : c.phase.refIn = ctx.phase.refIn) : ({ l with std.ctx := some c } : State).Settled := by
  have frame := heard.frame
  exact settled_phase sound.settled (by rw [frame]) (by rw [frame]) heard.up heard.shutter heard.ref found rfl refIn

theorem Heard.std (heard : Heard slots f s l) : l.std = s.std := by rw [heard.frame]

theorem Heard.stdFrames (heard : Heard slots f s l) : l.page.stdFrames = s.page.stdFrames :=
  congrArg BitVec.toNat (heard.page 0x090 (by decide))

theorem Heard.stdSettle (heard : Heard slots f s l) : l.page.stdSettle = s.page.stdSettle :=
  congrArg BitVec.toNat (heard.page 0x08C (by decide))

/-- The end of a settle phase is judged with a context as it is counted (R113). -/
theorem settle_judged (heard : Heard slots f s l) (sound : s.Sound) (found : s.std.ctx = some ctx) {c : StdCtx}
    (phase : c.phase = ctx.phase) (settling : ctx.phase.isSettle = true) :
    let w : State := { l with std.ctx := some c }
    (if w.settleDue then w.settleEnd else if w.measureDue then w.measureEnd else w).endEvent.std =
      if l.link.echoPending = false ∧ max 1 s.page.stdSettle ≤ c.count then { s.std with ctx := some { c with
        phase := if ctx.phase.refIn then .measureRef else .measureAir, count := 0 } }
      else { s.std with ctx := some c } := by
  intro w
  have measure : w.measureDue = false := by
    rw [measureDue_eq (s := w) (ctx := c) rfl, phase, settling]
    rfl
  have due : w.settleDue = true ↔ l.link.echoPending = false ∧ max 1 s.page.stdSettle ≤ c.count := by
    rw [settleDue_some (s := w) (ctx := c) rfl, phase, settling, Bool.true_and, Bool.and_eq_true, Bool.not_eq_true',
      decide_eq_true_eq, ← heard.stdSettle]
    exact Iff.rfl
  rw [measure, if_neg Bool.false_ne_true]
  by_cases full : l.link.echoPending = false ∧ max 1 s.page.stdSettle ≤ c.count
  · rw [if_pos full, if_pos (due.2 full), settleEnd_some (s := w) (ctx := c) rfl, phase, endEvent_of_settled]
    · exact congrArg (fun r : StdSeq => { r with ctx := some { c with
        phase := if ctx.phase.refIn then .measureRef else .measureAir, count := 0 } }) heard.std
    · exact heard.settled sound found (by cases ctx.phase <;> rfl)
  · rw [if_neg full, if_neg (mt due.1 full), endEvent_of_settled]
    · exact congrArg (fun r : StdSeq => { r with ctx := some c }) heard.std
    · exact heard.settled sound found (by rw [phase])

/-- In a settle phase (R113). -/
theorem stdFrame_settling (heard : Heard slots f s l) (sound : s.Sound) (found : s.std.ctx = some ctx)
    (settling : ctx.phase.isSettle = true) (xs : List Sample) :
    ((l.stdFrame xs).endEvent).std = if l.link.echoPending = true then s.std else
      if max 1 s.page.stdSettle ≤ ctx.count + 1 then { s.std with ctx := some { ctx with
        phase := if ctx.phase.refIn then .measureRef else .measureAir, count := 0 } }
      else { s.std with ctx := some { ctx with count := ctx.count + 1 } } := by
  have found' : l.std.ctx = some ctx := by rw [heard.std]; exact found
  rw [stdFrame_some found']
  cases pending : l.link.echoPending with
  | true =>
    have same : counted ctx l xs = { l with std.ctx := some ctx } := by
      rw [counted, count1_settling settling, if_pos pending]
    have judged := settle_judged heard sound found (c := ctx) rfl settling
    rw [if_neg (fun h => by rw [pending] at h; exact Bool.noConfusion h.1)] at judged
    rw [same, if_pos rfl]
    refine judged.trans ?_
    rw [← found]
  | false =>
    have same : counted ctx l xs = { l with std.ctx := some { ctx with count := ctx.count + 1 } } := by
      rw [counted, count1_settling settling, if_neg (by rw [pending]; exact Bool.false_ne_true)]
    have judged := settle_judged heard sound found (c := { ctx with count := ctx.count + 1 }) rfl settling
    rw [same, if_neg Bool.false_ne_true]
    refine judged.trans ?_
    simp only [pending, true_and]

/-- In a measuring phase (R114): where the counted frame takes the event. -/
theorem stdFrame_measuring (heard : Heard slots f s l) (found : s.std.ctx = some ctx)
    (measuring : ctx.phase.isSettle = false) (xs : List Sample) :
    l.stdFrame xs = if s.page.stdFrames ≤ ctx.count + 1 then
      ({ l with std.ctx := some (measured ctx xs) } : State).measureEnd
      else { l with std.ctx := some (measured ctx xs) } := by
  have found' : l.std.ctx = some ctx := by rw [heard.std]; exact found
  have same : counted ctx l xs = { l with std.ctx := some (measured ctx xs) } := by
    rw [counted, count1_measuring measuring]
  rw [stdFrame_some found', same]
  have settle : ({ l with std.ctx := some (measured ctx xs) } : State).settleDue = false := by
    rw [settleDue_some rfl, show (measured ctx xs).phase.isSettle = false from measuring]
    rfl
  have due : ({ l with std.ctx := some (measured ctx xs) } : State).measureDue =
      decide (s.page.stdFrames ≤ ctx.count + 1) := by
    rw [measureDue_eq rfl, show (measured ctx xs).phase.isSettle = false from measuring]
    exact congrArg (fun n => decide (n ≤ ctx.count + 1)) heard.stdFrames
  rw [settle, due, if_neg Bool.false_ne_true]
  simp only [decide_eq_true_eq]

theorem stdActed_congr (acted : StdActed ctx l t) (page : ∀ off, off + 4 ≤ 0x4000 → l.page off = s.page off)
    (refs : l.std.refs = s.std.refs) (untried : l.std.untried = s.std.untried)
    (alarm : ∀ c : Fin 8, l.alarms[stdFaultAlarm c] = s.alarms[stdFaultAlarm c]) : StdActed ctx s t := by
  obtain ⟨inside, outside⟩ := acted
  refine ⟨fun x mem => ?_, fun c out => ?_⟩
  · have acted := inside x mem
    rw [stdEntry_congr page, refs, alarm] at acted
    exact acted
  · have kept := outside c out
    rw [refs, untried, alarm] at kept
    exact kept

/-! ## Frames that are not the standardize's -/

/-- The head under a new goal PARK, with no apply pending (R54, R61). -/
theorem takeGoal_park_kept (idle : s.ex.applyPending = false) (goal : s.arb.goal = .park) (p : Bool) :
    HeadKept s (s.takeGoal p) := by
  have abort : HeadKept s s.abortForGoal := by
    have aborted := abortScan_kept s.arb.cause.outcome s
    have entered := thenEnter_kept (s.abortScan s.arb.cause.outcome).applyPoint (step := State.enterAborted s.arb.goal)
      fun v => (enterAborted_move s.arb.goal v).kept
    rw [applyPoint_idle (s := s.abortScan s.arb.cause.outcome) (by rw [aborted.ex]; exact idle)] at entered
    unfold State.abortForGoal
    rw [applyPoint_idle (s := s.abortScan s.arb.cause.outcome) (by rw [aborted.ex]; exact idle)]
    exact aborted.trans entered
  unfold State.takeGoal
  rw [goal]
  cases s.trav.head with
  | outbound | inbound => exact abort
  | standardizing => exact .refl s
  | unhomed | homing | parked | standing | turning | holding | movingToHold | returning | stopping | faulted =>
    exact takeGoalStill_kept _ _ _

/-- A declaration leaves the standardize sequencer (R176, R177). -/
theorem declare_std (idle : s.ex.applyPending = false) (cues : BitVec 4) (pos : Word) :
    (s.declare cues pos).std = s.std ∧ (s.declare cues pos).arb.goal = .park := by
  refine ⟨?_, (declare_declared cues pos s).goal⟩
  have start : s.breakStart.std = s.std ∧ s.breakStart.ex = s.ex := by
    unfold State.breakStart
    dsimp only
    rw [State.setBreakState_std, State.setBreakState_ex]
    exact ⟨rfl, rfl⟩
  obtain ⟨ex, std, -⟩ := recompute_ex .breakRaised s.breakStart
  have handed : (s.breakStart.handGoal .breakRaised).std = s.std := by
    rcases handGoal_cases s.breakStart .breakRaised with ⟨-, e⟩ | ⟨-, e⟩
    · rw [e, std, start.1]
    · have park : (s.breakStart.recompute .breakRaised).state.arb.goal = .park := by
        have broken : (s.breakStart.recompute .breakRaised).state.brk.state = .broken := by
          rw [(recompute_ex .breakRaised s.breakStart).2.2.2.2.2.2]
          exact (breakStart_held s).1.state
        exact goal_park_of_broken (recompute_fits _ _) broken
      rw [e, (takeGoal_park_kept (by rw [ex, start.2]; exact idle) park _).std, std, start.1]
  unfold State.declare
  dsimp only
  exact handed

/-- What a frame of the other work leaves of the sequencer and of the conditions of its start (R111). -/
structure StdBeside (s t : State) : Prop where
  std : t.std = s.std := by rfl
  goal : t.arb.goal = s.arb.goal := by rfl
  head : t.trav.head = s.trav.head := by rfl
  up : t.link.up = s.link.up := by rfl
  pending : t.ex.applyPending = s.ex.applyPending := by rfl

theorem StdBeside.refl (s : State) : StdBeside s s := { }

theorem StdBeside.trans (h1 : StdBeside s t) (h2 : StdBeside t u) : StdBeside s u where
  std := h2.std.trans h1.std
  goal := h2.goal.trans h1.goal
  head := h2.head.trans h1.head
  up := h2.up.trans h1.up
  pending := h2.pending.trans h1.pending

theorem Heard.beside (heard : Heard slots f s l) : StdBeside s l := by
  have frame := heard.frame
  exact { std := heard.std, goal := by rw [frame], head := by rw [frame], up := heard.up, pending := by rw [frame] }

theorem scanFrame_beside (f : Machine.Frame) (xs : List Sample) (s : State) : StdBeside s (s.scanFrame f xs) := by
  unfold State.scanFrame
  split
  · split
    · exact { }
    · exact .refl s
  · exact .refl s

theorem produce_beside (h : RecHeader) (body : List Word) (s : State) : StdBeside s (s.produce h body) where
  std := State.produce_std ..
  goal := by rw [State.produce_arb]
  head := by rw [State.produce_trav]
  up := by rw [State.produce_link]
  pending := by rw [produce_ex]

theorem startBatch_beside (s : State) : StdBeside s s.startBatch := { }

theorem checkBatchFull_beside (s : State) : StdBeside s s.checkBatchFull := by
  have dropped : StdBeside s { s with bin.batch := none } := { }
  unfold State.checkBatchFull
  split
  · split
    · exact (dropped.trans (produce_beside _ _ _)).trans (startBatch_beside _)
    · exact .refl s
  · exact .refl s

theorem batchFrame_beside (f : Machine.Frame) (xs : List Sample) (s : State) : StdBeside s (s.batchFrame f xs) := by
  unfold State.batchFrame
  split
  · split
    · split
      · exact StdBeside.trans { } (checkBatchFull_beside _)
      · exact .refl s
    · split
      · exact StdBeside.trans { } (checkBatchFull_beside _)
      · exact .refl s
  · exact .refl s

theorem moveCounts_beside (f : Machine.Frame) (xs : List Sample) (s : State) : StdBeside s (s.moveCounts f xs) := by
  unfold State.moveCounts
  split
  · exact { }
  · exact .refl s

theorem endEvent_std (rest : s.stdStartDue = false) : s.endEvent.std = s.std := by rw [endEvent_frame rest]

/-- The event of a frame that is not the standardize's leaves the sequencer. -/
theorem otherFrame_std (heard : Heard slots f s l) (quiet : s.QuietFrame slots f) (xs : List Sample)
    (other : f.head ≠ .standardizing) : (l.distribute f xs).endEvent.std = s.std := by
  let m := ((l.scanFrame f xs).batchFrame f xs).moveCounts f xs
  have beside : StdBeside s m := ((heard.beside.trans (scanFrame_beside f xs l)).trans (batchFrame_beside f xs _)).trans
    (moveCounts_beside f xs _)
  have whole : l.distribute f xs = m.gaugeDeclare f.position := if_neg other
  rw [whole, State.gaugeDeclare]
  split
  · refine (endEvent_std ?_).trans beside.std
    have start := quiet.sound.settled.start
    unfold State.stdStartDue at start ⊢
    rw [beside.goal, beside.head, beside.up]
    exact start
  · obtain ⟨std, goal⟩ := declare_std (s := m) (beside.pending.trans quiet.apply) m.gaugeCues f.position
    refine (endEvent_std ?_).trans (std.trans beside.std)
    rw [State.stdStartDue, goal]
    rfl

/-- A frame latched STANDARDIZING that finds no context is discarded (R112). -/
theorem discardedFrame (heard : Heard slots f s l) (quiet : s.QuietFrame slots f) (xs : List Sample)
    (latched : f.head = .standardizing) (none : s.std.ctx = none) : (l.distribute f xs).endEvent = l := by
  have frame := heard.frame
  have dropped : l.distribute f xs = l := by
    refine (if_pos latched).trans ?_
    unfold State.stdFrame
    rw [heard.std, none]
  rw [dropped]
  exact endEvent_of_settled _ (settled_congr quiet.sound.settled (by rw [frame]) (by rw [frame]) heard.up heard.shutter
    heard.ref (by rw [heard.std]))

/-! ## The statement -/

/-- The row MEASURE_END (R114, R117). -/
theorem measureEnd_run (ready : s.ex.life = .ready) (due : s.measureDue = true) {P : State → Prop}
    (h : P s.measureEnd.endEvent) : Completes .measureEnd s P := by
  refine completes_event (f := fun s => if s.measureDue then s.measureEnd else s) rfl ready ?_
  rw [if_pos due]
  exact h

theorem isSettle_iff (p : StdPhase) : p.isSettle = true ↔ p = .settleOpen ∨ p = .settleRef := by
  cases p with
  | settleOpen => exact iff_of_true rfl (.inl rfl)
  | settleRef => exact iff_of_true rfl (.inr rfl)
  | measureAir | measureRef => exact iff_of_false Bool.false_ne_true (by rintro (h | h) <;> exact StdPhase.noConfusion h)

theorem not_goesToRef (found : s.std.ctx = some ctx)
    (last : ctx.phase = .measureRef ∨ ctx.chans.any StdChan.inCheck = false) : s.goesToRef = false := by
  rw [goesToRef_some found]
  rcases last with phase | empty
  · rw [phase]
    rfl
  · rw [empty, Bool.and_false]

/-- A frame of a measuring phase that ends it, with nothing left to measure (R114, R117). -/
theorem lastFrame_concluded (heard : Heard slots f s l) (quiet : s.QuietFrame slots f) (found : s.std.ctx = some ctx)
    (measuring : ctx.phase.isSettle = false) (full : s.page.stdFrames ≤ ctx.count + 1) (xs : List Sample)
    (last : ctx.phase = .measureRef ∨ ctx.chans.any StdChan.inCheck = false)
    (tried : ∀ c : Fin 8, s.std.untried[c] = true → ∃ x ∈ ctx.chans, x.chan = c) :
    let v : State := { l with std.ctx := some (measured ctx xs) }
    StdConcluded (measured ctx xs) v (l.stdFrame xs).endEvent := by
  intro v
  obtain ⟨chans, checks⟩ := measured_chans ctx xs
  have agrees : Agrees v := ((Agrees.of_sound quiet.sound quiet.ready).aside heard.aside).aside
    { ctx := by rw [heard.std, found]; rfl }
  have finish : l.stdFrame xs = v.stdFinish := by
    rw [stdFrame_measuring heard found measuring, if_pos full, State.measureEnd,
      not_goesToRef (ctx := measured ctx xs) rfl (by rw [checks]; exact last), if_neg Bool.false_ne_true]
  rw [finish]
  refine stdFinish_concluded agrees rfl (heard.beside.pending.trans quiet.apply) fun c marked => ?_
  obtain ⟨x, mem, same⟩ := tried c (by rw [← heard.std]; exact marked)
  have inside : c ∈ (measured ctx xs).chans.map StdChan.chan := by
    rw [chans]
    exact List.mem_map.2 ⟨x, mem, same⟩
  exact List.mem_map.1 inside

/-- What a frame adds to a channel in a measuring phase (R114). -/
theorem collect_measuring (measuring : ¬ ctx.phase.isSettle = true) (xs : List Sample) (c : StdChan) :
    c.collect ctx.phase.refIn xs = match findSample xs c.chan.castSucc with
      | none => c
      | some x =>
        if x.stdValid = false then c
        else if ctx.phase = .measureAir then { c with airSum := c.airSum + x.raw, airCount := c.airCount + 1 }
        else if c.inCheck = true then { c with checkSum := c.checkSum + x.raw, checkCount := c.checkCount + 1 }
        else c := by
  unfold StdChan.collect
  cases findSample xs c.chan.castSucc with
  | none => rfl
  | some x =>
    dsimp only
    cases phase : ctx.phase with
    | settleOpen | settleRef =>
      rw [phase] at measuring
      exact absurd rfl measuring
    | measureAir | measureRef => cases x.stdValid <;> rfl

/-- The frame that ends MEASURE_AIR with a check set (R114). -/
theorem refFrame_begun (heard : Heard slots f s l) (quiet : s.QuietFrame slots f) (found : s.std.ctx = some ctx)
    (phase : ctx.phase = .measureAir) (full : s.page.stdFrames ≤ ctx.count + 1) (xs : List Sample)
    (checks : ctx.chans.any StdChan.inCheck = true) :
    RefBegun (measured ctx xs) { l with std.ctx := some (measured ctx xs) } (l.stdFrame xs).endEvent := by
  let v : State := { l with std.ctx := some (measured ctx xs) }
  have settled : v.Settled := heard.settled quiet.sound found (c := measured ctx xs) rfl
  have head : s.trav.head = .standardizing :=
    of_decide_eq_true ((Agrees.of_sound quiet.sound quiet.ready).work.std.symm.trans (by rw [found]; rfl))
  have out : v.link.ref = false := by
    rw [settled.ref, State.refDemand]
    show (_ && ctx.phase.refIn) = false
    rw [phase, Bool.and_comm]
    rfl
  have begun : l.stdFrame xs = v.beginSettleRef := by
    rw [stdFrame_measuring heard found (by rw [phase]; rfl), if_pos full, State.measureEnd,
      goesToRef_some (ctx := measured ctx xs) rfl, (measured_chans ctx xs).2, checks,
      show (measured ctx xs).phase = .measureAir from phase]
    rfl
  rw [begun]
  exact beginSettleRef_begun settled.start rfl (heard.beside.head.trans head) out

/-- Settles O40. -/
theorem standardizePhases : Obligations.StandardizePhases := by
  refine ⟨fun s ctx sound ready found => ⟨fun clear frames some => ?_, fun full => ?_⟩,
    fun slots s f ctx quiet found latched => ?_, fun slots s f quiet => ?_⟩
  · have due : ctx.phase.isSettle = true → s.settleDue = true := fun settling => by
      rw [settleDue_some found, settling, clear]
      exact decide_eq_true (max_le some frames)
    refine ⟨fun phase => ?_, fun phase => ?_⟩
    · rw [settleEnd_row sound ready found (due (by rw [phase]; rfl)), phase]
      rfl
    · rw [settleEnd_row sound ready found (due (by rw [phase]; rfl)), phase]
      rfl
  · have agrees := Agrees.of_sound sound ready
    have head : s.trav.head = .standardizing := of_decide_eq_true (agrees.work.std.symm.trans (by rw [found]; rfl))
    have due : ctx.phase.isSettle = false → s.measureDue = true := fun measuring => by
      rw [measureDue_eq found, measuring]
      exact decide_eq_true full
    refine ⟨fun phase checks => ?_, fun last idle tried => ?_⟩
    · have out : s.link.ref = false := by
        rw [sound.settled.ref, State.refDemand, found]
        show (_ && ctx.phase.refIn) = false
        rw [phase, Bool.and_comm]
        rfl
      have begun := beginSettleRef_begun sound.settled.start found head out
      have goes : s.measureEnd = s.beginSettleRef := by
        rw [State.measureEnd, goesToRef_some found, phase, checks]
        rfl
      refine measureEnd_run ready (due (by rw [phase]; rfl)) ?_
      rw [goes]
      have frame := begun.frame
      exact ⟨by rw [frame], begun.ref, begun.shutter, begun.seq, begun.echo.1, begun.echo.2, by rw [frame],
        by rw [frame], by rw [frame], by rw [frame]⟩
    · have measuring : ctx.phase.isSettle = false := by
        rcases last with ⟨phase, -⟩ | phase <;> rw [phase] <;> rfl
      have done := stdFinish_concluded agrees found idle tried
      refine measureEnd_run ready (due measuring) ?_
      rw [State.measureEnd, not_goesToRef found (last.elim (fun h => .inr h.2) .inl), if_neg Bool.false_ne_true]
      exact ⟨done.ended, done.head, done.stdz, done.scanCount, done.stdNow, done.due, done.lastRecord, done.goal,
        done.generation, done.acted, fun k free => done.words free⟩
  · obtain ⟨l, xs, heard, whole, reads⟩ := frameReceived_heard quiet
    have run : ∀ {P : State → Prop}, P (l.stdFrame xs).endEvent → Completes (.frameReceived slots) s P := fun {P} h =>
      completes_run rfl quiet.ready (whole.trans (if_pos latched)) h
    have same : measured ctx xs = measured ctx (s.frameResult slots f) := measured_congr reads
    intro results echoClear settling collect taken settle
    have settles : ctx.phase.isSettle = true ↔ settling := isSettle_iff ctx.phase
    have counts : ¬ settling → taken = measured ctx xs := fun measuring => by
      rw [same]
      exact congrArg (fun cs => ({ ctx with count := ctx.count + 1, chans := cs } : StdCtx))
        (List.map_congr_left fun c _ => (collect_measuring (mt settles.1 measuring) results c).symm)
    have idle : ¬ settling → ctx.phase.isSettle = false := fun measuring => Bool.eq_false_iff.2 (mt settles.1 measuring)
    refine ⟨fun is pending => run ?_, fun is clear => run ⟨fun short => ?_, fun full => ?_⟩, fun no short => run ?_,
      fun no full => ⟨fun phase checks => run ?_, fun last tried => run ?_⟩⟩
    · rw [stdFrame_settling heard quiet.sound found (settles.2 is)]
      exact if_pos (heard.echo.trans (Bool.not_eq_false _ ▸ pending))
    · rw [stdFrame_settling heard quiet.sound found (settles.2 is), heard.echo, clear, if_neg Bool.false_ne_true]
      exact if_neg (Nat.not_le.2 short)
    · rw [stdFrame_settling heard quiet.sound found (settles.2 is), heard.echo, clear, if_neg Bool.false_ne_true]
      refine (if_pos full).trans ?_
      rcases is with phase | phase <;> rw [phase] <;> rfl
    · rw [stdFrame_measuring heard found (idle no), if_neg (Nat.not_le.2 short), counts no,
        endEvent_of_settled _ (heard.settled quiet.sound found (c := measured ctx xs) rfl), ← heard.std]
    · have begun := refFrame_begun heard quiet found phase full xs checks
      rw [counts no]
      refine ⟨?_, begun.ref⟩
      rw [begun.frame, ← heard.std]
    · have done := lastFrame_concluded heard quiet found (idle no) full xs last tried
      rw [counts no]
      refine ⟨done.ended, done.head, done.stdz, done.lastRecord.trans (by rw [heard.frame]), fun nodup => ?_⟩
      exact stdActed_congr (done.acted (by rw [(measured_chans ctx xs).1]; exact nodup)) heard.page
        (by rw [← heard.std]) (by rw [← heard.std]) heard.alarm
  · obtain ⟨l, xs, heard, whole, -⟩ := frameReceived_heard quiet
    refine ⟨fun other _ => ?_, fun latched none => ?_⟩
    · exact completes_run rfl quiet.ready whole (otherFrame_std heard quiet xs other)
    · refine completes_run rfl quiet.ready whole ?_
      rw [discardedFrame heard quiet xs latched none]
      have frame := heard.frame
      exact ⟨heard.std, by rw [frame], by rw [frame], by rw [frame], by rw [frame]⟩

end Sys2Proof.Proofs
end

section
/-!
PROOFS. What each block's reaction to an accepted apply leaves of the other blocks (Table 1-5).
-/
namespace Sys2Proof.Proofs

open Sys2Proof.Machine Sys2Proof.Laws

-- One proof after another: threads that wait for each other count against the memory limit of the check.
set_option Elab.async false

/-! ## The parts of the state that the reactions change -/

/-- What one block's reaction changes, and the others keep. -/
inductive ApplyPart where
  | edges | drive | refs | filters | shown | scan | watch
  deriving DecidableEq

variable {s t u : State} {p : ApplyPart} {i : Fin 48}

/-- The alarm entries of a part. -/
def ApplyPart.entry : ApplyPart → Fin 48 → Prop
  | .edges, i => ∃ side, i = edgeLostAlarm side
  | .refs, i => ∃ c, i = stdFaultAlarm c
  | .scan, i => ∃ k kind, i = scanAlarm k kind
  | .drive, _ | .filters, _ | .shown, _ | .watch, _ => False

/-- A part, and the active page, are as they were. -/
structure Keeps (p : ApplyPart) (s t : State) : Prop where
  entries : ∀ i, p.entry i → t.alarms[i] = s.alarms[i] := by exact fun _ _ => rfl
  edges : p = .edges → t.bin.edgeFront = s.bin.edgeFront ∧ t.bin.edgeBack = s.bin.edgeBack ∧
    t.bin.missFront = s.bin.missFront ∧ t.bin.missBack = s.bin.missBack := by exact fun _ => ⟨rfl, rfl, rfl, rfl⟩
  drive : p = .drive → t.trav = s.trav := by exact fun _ => rfl
  refs : p = .refs → t.std.refs = s.std.refs ∧ t.std.untried = s.std.untried := by exact fun _ => ⟨rfl, rfl⟩
  filters : p = .filters → t.filters = s.filters := by exact fun _ => rfl
  shown : p = .shown → SameBytes t.mem s.mem 0x08080 0x080E4 := by exact fun _ => sameBytes_refl _ _ _
  watch : p = .watch → t.brk = s.brk := by exact fun _ => rfl
  page : SameBytes t.mem s.mem activeBase liveBase := by exact sameBytes_refl _ _ _

theorem Keeps.refl (p : ApplyPart) (s : State) : Keeps p s s := { }

theorem Keeps.trans (h1 : Keeps p s t) (h2 : Keeps p t u) : Keeps p s u where
  entries i mine := (h2.entries i mine).trans (h1.entries i mine)
  edges e := by
    obtain ⟨front, back, missFront, missBack⟩ := h1.edges e
    obtain ⟨front', back', missFront', missBack'⟩ := h2.edges e
    exact ⟨front'.trans front, back'.trans back, missFront'.trans missFront, missBack'.trans missBack⟩
  drive e := (h2.drive e).trans (h1.drive e)
  refs e := ⟨(h2.refs e).1.trans (h1.refs e).1, (h2.refs e).2.trans (h1.refs e).2⟩
  filters e := (h2.filters e).trans (h1.filters e)
  shown e := sameBytes_trans (h2.shown e) (h1.shown e)
  watch e := (h2.watch e).trans (h1.watch e)
  page := sameBytes_trans h2.page h1.page

theorem ite_keeps {q : Prop} [Decidable q] (h : Keeps p s t) : Keeps p s (if q then t else s) := by
  split
  · exact h
  · exact .refl p s

theorem foldl_keeps {α : Type} {f : State → α → State} (h : ∀ v a, Keeps p v (f v a)) (l : List α) (s : State) :
    Keeps p s (l.foldl f s) := by
  induction l generalizing s with
  | nil => exact .refl p s
  | cons a l ih => exact (h s a).trans (ih _)

/-! ## The operations of the reactions -/

theorem ApplyPart.of_edgeLost {side : Side} (mine : p.entry (edgeLostAlarm side)) : p = .edges := by
  cases p with
  | edges => rfl
  | refs =>
    obtain ⟨c, same⟩ := mine
    have values := congrArg Fin.val same
    have bound := c.isLt
    cases side <;> simp [edgeLostAlarm, stdFaultAlarm] at values <;> omega
  | scan =>
    obtain ⟨k, kind, same⟩ := mine
    have values := congrArg Fin.val same
    have bound := k.isLt
    have low := kind.isLt
    cases side <;> simp [edgeLostAlarm, scanAlarm] at values <;> omega
  | drive | filters | shown | watch => exact absurd mine id

theorem ApplyPart.of_stdFault {c : Fin 8} (mine : p.entry (stdFaultAlarm c)) : p = .refs := by
  cases p with
  | refs => rfl
  | edges =>
    obtain ⟨side, same⟩ := mine
    exact absurd (ApplyPart.of_edgeLost (p := .refs) ⟨c, same.symm⟩) ApplyPart.noConfusion
  | scan =>
    obtain ⟨k, kind, same⟩ := mine
    have values := congrArg Fin.val same
    have bound := k.isLt
    have low := kind.isLt
    simp only [stdFaultAlarm, scanAlarm] at values
    omega
  | drive | filters | shown | watch => exact absurd mine id

theorem ApplyPart.of_scan {k : Fin 9} {kind : Fin 4} (mine : p.entry (scanAlarm k kind)) : p = .scan := by
  cases p with
  | scan => rfl
  | edges =>
    obtain ⟨side, same⟩ := mine
    exact absurd (ApplyPart.of_edgeLost (p := .scan) ⟨k, kind, same.symm⟩) ApplyPart.noConfusion
  | refs =>
    obtain ⟨c, same⟩ := mine
    exact absurd (ApplyPart.of_stdFault (p := .scan) ⟨k, kind, same.symm⟩) ApplyPart.noConfusion
  | drive | filters | shown | watch => exact absurd mine id

/-- A write of live words beside the sample fields. -/
theorem liveWords_keeps (p : ApplyPart) (off : Nat) (ws : List Word) (s : State)
    (out : off + 4 * ws.length ≤ 0x080 ∨ 0x0E4 ≤ off) : Keeps p s (s.liveWords off ws) where
  shown _ := liveWords_sameBytes s off ws (by simp only [liveBase]; omega)
  page := liveWords_sameBytes s off ws (.inl (Nat.le_add_right _ _))

theorem live_keeps (p : ApplyPart) (off : Nat) (w : Word) (s : State) (out : off + 4 ≤ 0x080 ∨ 0x0E4 ≤ off := by decide) :
    Keeps p s (s.live off w) :=
  liveWords_keeps p off [w] s out

theorem setNotice_keeps (p : ApplyPart) (n : Notice) (s : State) : Keeps p s (s.setNotice n) := { }

theorem setAlarm_keeps (out : ¬ p.entry i) (e : AlarmEntry) (s : State) : Keeps p s (s.setAlarm i e) := by
  have frame := setAlarm_frame i e s
  exact
    { entries := fun j mine => (State.setAlarm_get s i j e).trans (if_neg fun (h : i = j) => out (h ▸ mine))
      edges := fun _ => by rw [frame]; exact ⟨rfl, rfl, rfl, rfl⟩
      drive := fun _ => by rw [frame]
      refs := fun _ => by rw [frame]; exact ⟨rfl, rfl⟩
      filters := fun _ => by rw [frame]
      shown := fun _ => setAlarm_sameBytes s i e (.inl (by omega))
      watch := fun _ => by rw [frame]
      page := setAlarm_sameBytes s i e (.inl (by simp only [liveBase]; omega)) }

theorem clearAlarm_keeps (out : ¬ p.entry i) (x : Option Int) (s : State) : Keeps p s (s.clearAlarm i x) := by
  unfold State.clearAlarm
  dsimp only
  split
  · exact (setAlarm_keeps out _ s).trans (setNotice_keeps p _ _)
  · exact setAlarm_keeps out _ s

theorem setTrav_keeps (other : p ≠ .drive) (tr : Traverse) (s : State) : Keeps p s { s with trav := tr } where
  drive e := absurd e other

theorem setHead_keeps (other : p ≠ .drive) (h : HeadState) (s : State) : Keeps p s (s.setHead h) := by
  unfold State.setHead
  split
  · exact .refl p s
  · exact (setTrav_keeps other _ s).trans (live_keeps p 0x038 _ _)

theorem setBrk_keeps (other : p ≠ .watch) (b : BreakMon) (s : State) : Keeps p s { s with brk := b } where
  watch e := absurd e other

theorem setBreakState_keeps (other : p ≠ .watch) (b : BreakState) (s : State) : Keeps p s (s.setBreakState b) := by
  unfold State.setBreakState
  split
  · exact .refl p s
  · exact (setBrk_keeps other _ s).trans (live_keeps p 0x04C _ _)

theorem setBin_keeps (other : p ≠ .edges) (b : Binning) (s : State) : Keeps p s { s with bin := b } where
  edges e := absurd e other

theorem setMiss_keeps (other : p ≠ .edges) (side : Side) (n : Nat) (s : State) : Keeps p s (s.setMiss side n) := by
  have out : ¬ p.entry (edgeLostAlarm side) := fun mine => other (ApplyPart.of_edgeLost mine)
  have cleared : ∀ {q : Prop} [Decidable q] (b : Binning), Keeps p s (if q then
      ({ s with bin := b } : State).clearAlarm (edgeLostAlarm side) (some 0) else { s with bin := b }) := fun b =>
    (setBin_keeps other b s).trans (ite_keeps (clearAlarm_keeps out _ _))
  unfold State.setMiss
  cases side with
  | front => exact cleared _
  | back => exact cleared _

theorem recompute_keeps (p : ApplyPart) (ev : GoalEvent) (s : State) : Keeps p s (s.recompute ev).state := by
  rw [recompute_frame s ev]
  exact { shown := fun _ => recompute_sameBytes s ev (.inr (by decide)), page := recompute_sameBytes s ev (.inl (by decide)) }

/-! ## The reactions, each beside the parts of the others -/

variable {h : ApplyHandoff}

theorem applyLink_keeps (p : ApplyPart) (h : ApplyHandoff) (s : State) : Keeps p s (s.applyLink h) := ite_keeps { }

theorem applyBinning_keeps (other : p ≠ .edges) (h : ApplyHandoff) (s : State) : Keeps p s (s.applyBinning h) := by
  have discarded : Keeps p s (if s.trav.head = .holding then s.discardBatch else s) := ite_keeps { }
  unfold State.applyBinning
  dsimp only
  split
  · refine discarded.trans (Keeps.trans ?_ ((setMiss_keeps other .front 0 _).trans (setMiss_keeps other .back 0 _)))
    exact (setBin_keeps other _ _).trans (liveWords_keeps p 0x060 _ _ (.inl (by simp)))
  · exact discarded

theorem enterFaulted_keeps (other : p ≠ .drive) (cause : FaultCause) (s : State) : Keeps p s (s.enterFaulted cause) :=
  (((setTrav_keeps other _ s).trans (setHead_keeps other _ _)).trans (live_keeps p 0x048 _ _)).trans (setNotice_keeps p _ _)

theorem applyTraverse_keeps (other : p ≠ .drive) (h : ApplyHandoff) (s : State) : Keeps p s (s.applyTraverse h) :=
  have unhomed : Keeps p s (if h.changes.has 0x058 && s.trav.homed then s.enterUnhomed else s) :=
    ite_keeps ((setTrav_keeps other _ s).trans (setHead_keeps other _ _))
  unhomed.trans (ite_keeps (enterFaulted_keeps other _ _))

theorem applyRef_keeps (other : p ≠ .refs) (h : ApplyHandoff) (s : State) (c : Fin 8) : Keeps p s (s.applyRef h c) := by
  have out : ¬ p.entry (stdFaultAlarm c) := fun mine => other (ApplyPart.of_stdFault mine)
  have set : ∀ (v : State) (r : StdSeq), Keeps p v { v with std := r } := fun v r => { refs := fun e => absurd e other }
  refine ite_keeps (Keeps.trans (Keeps.trans ?_ (clearAlarm_keeps out none _)) (set _ _))
  exact (set s _).trans (liveWords_keeps p _ _ _ (.inr (by omega)))

theorem applyStd_keeps (other : p ≠ .refs) (h : ApplyHandoff) (s : State) : Keeps p s (s.applyStd h) :=
  (foldl_keeps (applyRef_keeps other h) channels8 s).trans { }

theorem unseed_keeps (other : p ≠ .filters) (c : Fin 9) (s : State) : Keeps p s (s.unseed c) where
  filters e := absurd e other

theorem applyProfile_keeps (other : p ≠ .filters) (h : ApplyHandoff) (s : State) : Keeps p s (s.applyProfile h) := by
  have channels := foldl_keeps (f := fun s (c : Fin 8) => if h.unseeds c then s.unseed c.castSucc else s)
    (fun v c => ite_keeps (unseed_keeps other c.castSucc v)) channels8 s
  unfold State.applyProfile
  dsimp only
  split
  · exact { filters := fun e => absurd e other }
  · exact channels.trans (ite_keeps (unseed_keeps other _ _))

theorem liveDisable_keeps (other : p ≠ .shown) (c : Fin 9) (s : State) : Keeps p s (s.liveDisable c) where
  shown e := absurd e other
  page := sameBytes_trans (live_sameBytes _ _ _ (.inl (Nat.le_add_right _ _)))
    (live_sameBytes _ _ _ (.inl (Nat.le_add_right _ _)))

theorem applyConvert_keeps (other : p ≠ .shown) (h : ApplyHandoff) (s : State) : Keeps p s (s.applyConvert h) :=
  (foldl_keeps (f := fun s (c : Fin 8) => if h.disabled c then s.liveDisable c.castSucc else s)
    (fun v c => ite_keeps (liveDisable_keeps other c.castSucc v)) channels8 s).trans
    (ite_keeps (liveDisable_keeps other _ _))

theorem resetEntry_keeps (out : ¬ p.entry i) (clear : Bool) (s : State) : Keeps p s (s.resetEntry i clear) := by
  unfold State.resetEntry
  split
  · exact clearAlarm_keeps out _ s
  · exact setAlarm_keeps out _ s

theorem applyLimits_keeps (other : p ≠ .scan) (h : ApplyHandoff) (s : State) : Keeps p s (s.applyLimits h) := by
  have reset : ∀ (k : Fin 9) (clear : Fin 4 → Bool) (v : State),
      Keeps p v (scanKinds.foldl (fun s kind => s.resetEntry (scanAlarm k kind) (clear kind)) v) := fun k clear v =>
    foldl_keeps (f := fun s kind => s.resetEntry (scanAlarm k kind) (clear kind))
      (fun v kind => resetEntry_keeps (fun mine => other (ApplyPart.of_scan mine)) (clear kind) v) scanKinds v
  have limit : ∀ (v : State) (k : Fin 9), Keeps p v (v.applyLimit h k) := fun v k => ite_keeps (reset k _ v)
  have dropped : ∀ (k : Fin 9) (v : State), Keeps p v (v.dropChannel k) := fun k v => reset k _ v
  exact ((foldl_keeps limit channels9 s).trans
    (foldl_keeps (f := fun s (c : Fin 8) => if h.disabled c then s.dropChannel c.castSucc else s)
      (fun v c => ite_keeps (dropped c.castSucc v)) channels8 _)).trans (ite_keeps (dropped _ _))

theorem takeWatch_keeps (other : p ≠ .watch) (s : State) : Keeps p s s.takeWatch.2 := by
  have moved : ∀ b, Keeps p s (s.clearCounts.setBreakState b) := fun b =>
    (setBrk_keeps other _ s).trans (setBreakState_keeps other b _)
  unfold State.takeWatch
  cases s.brk.state with
  | broken => exact .refl p s
  | disarmed => dsimp only; split; exacts [moved _, .refl p s]
  | watch => dsimp only; split; exacts [.refl p s, moved _]

theorem declareAtApply_keeps (other : p ≠ .watch) (s : State) : Keeps p s s.declareAtApply.state := by
  have start : Keeps p s s.breakStart :=
    ((((setBrk_keeps other _ s).trans (live_keeps p 0x050 _ _)).trans (setBrk_keeps other _ _))).trans
      (setBreakState_keeps other _ _)
  have written : ∀ (v : State) (a : HeadState) (b : BitVec 4) (c d : Word) (e : OpenWork) (r : Word),
      Keeps p v (v.writeHistory a b c d e r) := by
    intro v a b c d e r
    have range := historyAddr_range (v.brk.newest + 1)
    simp only [historyBase] at range
    refine Keeps.trans ?_ (live_keeps p 0x054 _ _)
    exact
      { watch := fun e => absurd e other
        shown := fun _ => sameBytes_writeWords _ _ _ (.inl (by omega))
        page := sameBytes_writeWords _ _ _ (.inl (by simp only [liveBase]; omega)) }
  exact ((start.trans (recompute_keeps p .breakRaised _)).trans (written _ _ _ _ _ _ _)).trans (setNotice_keeps p _ _)

/-- Outside BROKEN the break monitor's reaction changes nothing of the others (R182). -/
theorem applyBreak_keeps (other : p ≠ .watch) (h : ApplyHandoff) (calm : s.brk.state ≠ .broken) :
    Keeps p s (s.applyBreak h).state := by
  have counts : Keeps p s (s.applyCounts h) := setBrk_keeps other _ s
  have due : (s.applyCounts h).resumeDue = false := by
    rw [State.resumeDue, show (s.applyCounts h).brk.state = s.brk.state from rfl, decide_eq_false calm]
    rfl
  have watched := counts.trans (takeWatch_keeps other (s.applyCounts h))
  unfold State.applyBreak
  dsimp only
  rw [due, if_neg Bool.false_ne_true]
  split
  · exact watched.trans (declareAtApply_keeps other _)
  · exact watched

/-! ## The end of the event -/

theorem BlocksKept.keeps (other : p ≠ .drive) (kept : BlocksKept s t) (filters : t.filters = s.filters)
    (brk : t.brk = s.brk) : Keeps p s t where
  entries i _ := by rw [kept.alarms]
  edges _ := ⟨kept.edgeFront, kept.edgeBack, kept.missFront, kept.missBack⟩
  drive e := absurd e other
  refs _ := ⟨kept.refs, kept.untried⟩
  filters _ := filters
  shown _ := fun a lo hi => kept.words a (by omega) (by omega)
  watch _ := brk
  page := kept.page

theorem settle_keeps (other : p ≠ .drive) (r : Recomputed) : Keeps p r.state r.settle := by
  have still := takeGoalStill_kept r.posChanged false r.state
  exact ite_keeps ((takeGoalStill_move r.posChanged false r.state).blocks.keeps other still.filters still.brk)

theorem endEvent_keeps (other : p ≠ .drive) (s : State) : Keeps p s s.endEvent :=
  (endEvent_blocks s).keeps other (endEvent_kept s).filters (endEvent_kept s).brk

end Sys2Proof.Proofs
end

section
/-!
PROOFS. What each block's reaction to an accepted apply does to its own part (Table 1-5: R66, R70, R103, R107, R138, R142,
R168, R182).
-/
namespace Sys2Proof.Proofs

open Sys2Proof.Machine Sys2Proof.Laws

-- One proof after another: threads that wait for each other count against the memory limit of the check.
set_option Elab.async false

variable {s t u v : State} {h : ApplyHandoff}

/-! ## Reactions channel by channel -/

/-- Steps for other channels leave what is seen of one. -/
theorem foldl_view_same {α β : Type} {f : State → α → State} {view : State → β} {l : List α}
    (others : ∀ v, ∀ b ∈ l, view (f v b) = view v) (s : State) : view (l.foldl f s) = view s := by
  induction l generalizing s with
  | nil => rfl
  | cons b l ih =>
    exact (ih (fun v c mem => others v c (List.mem_cons_of_mem _ mem)) _).trans (others s b List.mem_cons_self)

/-- What is seen of one channel is related as its own step relates it. -/
theorem foldl_view {α β : Type} {f : State → α → State} {view : State → β} {E : β → β → Prop} {a : α}
    (others : ∀ v b, b ≠ a → view (f v b) = view v) (own : ∀ v, E (view v) (view (f v a))) {l : List α}
    (nodup : l.Nodup) (mem : a ∈ l) (s : State) : E (view s) (view (l.foldl f s)) := by
  induction l generalizing s with
  | nil => exact absurd mem List.not_mem_nil
  | cons b l ih =>
    rw [List.nodup_cons] at nodup
    rw [List.foldl_cons]
    rcases List.mem_cons.1 mem with rfl | mem
    · rw [foldl_view_same fun v c inside => others v c fun same => nodup.1 (same ▸ inside)]
      exact own s
    · have apart : b ≠ a := fun same => nodup.1 (same ▸ mem)
      have rest := ih nodup.2 mem (f s b)
      rw [others s b apart] at rest
      exact rest

theorem channels8_nodup : channels8.Nodup := by decide

/-! ## The binning unit (R138) -/

/-- A miss count set to 0 leaves its entry NORMAL (R130). -/
theorem setMiss_zero (side : Side) (s : State) :
    (s.setMiss side 0).bin = (missSet side 0 s).bin ∧ (s.setMiss side 0).alarms[edgeLostAlarm side].active = false ∧
      ∀ i, i ≠ edgeLostAlarm side → (s.setMiss side 0).alarms[i] = s.alarms[i] := by
  have alarms : ∀ i : Fin 48, (missSet side 0 s).alarms[i] = s.alarms[i] := fun _ => by cases side <;> rfl
  rw [setMiss_eq]
  by_cases active : s.alarms[edgeLostAlarm side].active = true
  · rw [if_pos ⟨rfl, active⟩, State.clearAlarm_bin]
    exact ⟨rfl, (clearAlarm_cleared _ _ _).1, fun i other => (clearAlarm_others other.symm _ _).trans (alarms i)⟩
  · rw [if_neg fun both => active both.2]
    exact ⟨rfl, (congrArg AlarmEntry.active (alarms _)).trans (Bool.eq_false_iff.2 active), fun i _ => alarms i⟩

/-- The edges of the plan, their miss counts and entries. -/
structure EdgesReset (q : Page) (t : State) : Prop where
  front : t.bin.edgeFront = q.eFront
  back : t.bin.edgeBack = q.eBack
  missFront : t.bin.missFront = 0
  missBack : t.bin.missBack = 0
  normal : ∀ side, t.alarms[edgeLostAlarm side].active = false

theorem applyBinning_plan (plan : h.changes.plan = true) : EdgesReset h.after (s.applyBinning h) := by
  let e := (if s.trav.head = .holding then s.discardBatch else s).setEdges h.after.eFront h.after.eBack
  have whole : s.applyBinning h = (e.setMiss .front 0).setMiss .back 0 := if_pos plan
  obtain ⟨frontBin, frontEntry, -⟩ := setMiss_zero .front e
  obtain ⟨backBin, backEntry, others⟩ := setMiss_zero .back (e.setMiss .front 0)
  have bin : ((e.setMiss .front 0).setMiss .back 0).bin =
      { e.bin with missFront := 0, missBack := 0 } := by
    rw [backBin]
    show { (e.setMiss .front 0).bin with missBack := 0 } = _
    rw [frontBin]
    rfl
  rw [whole]
  refine ⟨by rw [bin]; rfl, by rw [bin]; rfl, by rw [bin], by rw [bin], fun side => ?_⟩
  cases side with
  | front => rw [others _ (by decide)]; exact frontEntry
  | back => exact backEntry

theorem applyBinning_same (plan : h.changes.plan = false) : (s.applyBinning h).bin.edgeFront = s.bin.edgeFront ∧
    (s.applyBinning h).bin.edgeBack = s.bin.edgeBack ∧ (s.applyBinning h).bin.missFront = s.bin.missFront ∧
    (s.applyBinning h).bin.missBack = s.bin.missBack := by
  have whole : s.applyBinning h = if s.trav.head = .holding then s.discardBatch else s :=
    if_neg (by rw [plan]; exact Bool.false_ne_true)
  rw [whole]
  split <;> exact ⟨rfl, rfl, rfl, rfl⟩

/-! ## The traverse controller (R66, R70) -/

/-- A change of ENCODER_SENSE leaves a homed head UNHOMED, and without a fault (log entry 31). -/
theorem applyTraverse_unhomed (sense : h.changes.has 0x058 = true) (homed : s.trav.homed = true) :
    (s.applyTraverse h).trav.head = .unhomed ∧ (s.applyTraverse h).trav.duty = 0 := by
  have lost : s.enterUnhomed.trav.homed = false := State.setHead_homed ..
  have whole : s.applyTraverse h = s.enterUnhomed := by
    unfold State.applyTraverse
    rw [sense, homed]
    refine if_neg ?_
    show ¬ (h.changes.plan && s.enterUnhomed.overtravelled) = true
    rw [State.overtravelled, lost, Bool.false_and, Bool.false_and, Bool.and_false]
    exact Bool.false_ne_true
  rw [whole]
  exact ⟨setHead_head _ _, State.setHead_duty ..⟩

/-- A homed head outside the new bounds faults (R66). -/
theorem applyTraverse_overtravel (sense : h.changes.has 0x058 = false) (plan : h.changes.plan = true)
    (outside : s.overtravelled = true) : s.applyTraverse h = s.enterFaulted .overtravel := by
  unfold State.applyTraverse
  rw [sense, Bool.false_and, if_neg Bool.false_ne_true, plan]
  exact if_pos outside

theorem enterFaulted_cause (cause : FaultCause) (s : State) : (s.enterFaulted cause).trav.faultCause = cause := by
  unfold State.enterFaulted
  dsimp only
  rw [State.setNotice_trav, State.live_trav, State.setHead_faultCause]

/-! ## The standardize sequencer (R107) -/

/-- What the sequencer leaves of a channel whose reference falls. -/
structure Unreferenced (c : Fin 8) (enabled : Bool) (t : State) : Prop where
  ref : t.std.refs[c] = { value := 0, check := 0, accepted := false }
  untried : t.std.untried[c] = enabled
  normal : t.alarms[stdFaultAlarm c].active = false

/-- What is seen of a channel at the sequencer. -/
def stdView (c : Fin 8) (s : State) : RefRecord × Bool × AlarmEntry :=
  (s.std.refs[c], s.std.untried[c], s.alarms[stdFaultAlarm c])

theorem stdView_of_same {c : Fin 8} (same : ChannelSame c s t) : stdView c t = stdView c s := by
  rw [stdView, same.ref, same.untried, same.alarm]
  rfl

theorem applyRef_other {c d : Fin 8} (other : d ≠ c) (h : ApplyHandoff) (s : State) :
    stdView c (s.applyRef h d) = stdView c s := by
  have apart : stdFaultAlarm d ≠ stdFaultAlarm c := fun same => other (stdFaultAlarm_injective same)
  unfold State.applyRef
  split
  · exact stdView_of_same (((setRef_channelSame other _ s).trans (clearAlarm_channelSame apart _ _)).trans
      (setUntried_channelSame other _ _))
  · rfl

theorem applyRef_unreferenced {c : Fin 8} (changed : h.changes.rereferenced c = true) (s : State) :
    Unreferenced c (h.after.enabled c) (s.applyRef h c) := by
  have whole : s.applyRef h c =
      ((s.setRef c { }).clearAlarm (stdFaultAlarm c) none).setUntried c (h.after.enabled c) := if_pos changed
  rw [whole]
  refine ⟨?_, (vector_set_get _ _ _ _).trans (if_pos rfl), (clearAlarm_cleared _ _ _).1⟩
  show ((s.setRef c { }).clearAlarm (stdFaultAlarm c) none).std.refs[c] = _
  rw [State.clearAlarm_std]
  exact (vector_set_get _ _ _ _).trans (if_pos rfl)

theorem applyStd_unreferenced {c : Fin 8} (changed : h.changes.rereferenced c = true) (s : State) :
    Unreferenced c (h.after.enabled c) (s.applyStd h) := by
  have seen := foldl_view (view := stdView c) (E := fun _ new => new.1 = { value := 0, check := 0, accepted := false } ∧
      new.2.1 = h.after.enabled c ∧ new.2.2.active = false) (fun v d other => applyRef_other other h v)
    (fun v => by
      obtain ⟨ref, untried, normal⟩ := applyRef_unreferenced changed v
      exact ⟨ref, untried, normal⟩) channels8_nodup (mem_channels8 c) s
  exact ⟨seen.1, seen.2.1, seen.2.2⟩

theorem applyStd_same {c : Fin 8} (same : h.changes.rereferenced c = false) (s : State) :
    stdView c (s.applyStd h) = stdView c s := by
  refine foldl_view_same (f := State.applyRef h) (view := stdView c) (fun v d _ => ?_) s
  by_cases mine : d = c
  · subst mine
    exact congrArg (stdView d) (if_neg (by rw [same]; exact Bool.false_ne_true))
  · exact applyRef_other mine h v

/-! ## The profile unit (R142) -/

theorem unseed_get (c k : Fin 9) (s : State) : (s.unseed c).filters[k] = if c = k then { } else s.filters[k] :=
  vector_set_get s.filters c k { }

theorem unseedAll_get (k : Fin 9) (s : State) : s.unseedAll.filters[k] = { } :=
  Vector.getElem_replicate k.isLt

/-- The two causes that unseed every channel. -/
def reseeds (h : ApplyHandoff) : Bool := h.changes.has 0x038 || h.changes.has 0x044

theorem applyProfile_reseeded (all : reseeds h = true) (k : Fin 9) (s : State) :
    (s.applyProfile h).filters[k] = { } := by
  have whole : s.applyProfile h = s.unseedAll := if_pos all
  rw [whole]
  exact unseedAll_get k s

theorem applyProfile_channel (none : reseeds h = false) (c : Fin 8) (s : State) :
    (s.applyProfile h).filters[c.castSucc] = if h.unseeds c = true then { } else s.filters[c.castSucc] := by
  let f : State → Fin 8 → State := fun s c => if h.unseeds c then s.unseed c.castSucc else s
  have whole : s.applyProfile h =
      if h.unseedsDry then (channels8.foldl f s).unseed dryChannel else channels8.foldl f s :=
    if_neg (by rw [show (h.changes.has 0x038 || h.changes.has 0x044) = false from none]; exact Bool.false_ne_true)
  have dry : (s.applyProfile h).filters[c.castSucc] = (channels8.foldl f s).filters[c.castSucc] := by
    rw [whole]
    split
    · exact (unseed_get _ _ _).trans (if_neg (Fin.castSucc_lt_last c).ne')
    · rfl
  rw [dry]
  refine foldl_view (f := f) (view := fun v => v.filters[c.castSucc])
    (E := fun old new => new = if h.unseeds c = true then { } else old) (fun v d other => ?_) (fun v => ?_)
    channels8_nodup (mem_channels8 c) s
  · show (if h.unseeds d = true then v.unseed d.castSucc else v).filters[c.castSucc] = _
    split
    · exact (unseed_get _ _ _).trans (if_neg fun same => other (Fin.castSucc_injective _ same))
    · rfl
  · show (if h.unseeds c = true then v.unseed c.castSucc else v).filters[c.castSucc] = _
    split
    · exact (unseed_get _ _ _).trans (if_pos rfl)
    · rfl

theorem applyProfile_dry (none : reseeds h = false) (s : State) :
    (s.applyProfile h).filters[dryChannel] = if h.unseedsDry = true then { } else s.filters[dryChannel] := by
  let f : State → Fin 8 → State := fun s c => if h.unseeds c then s.unseed c.castSucc else s
  have whole : s.applyProfile h =
      if h.unseedsDry then (channels8.foldl f s).unseed dryChannel else channels8.foldl f s :=
    if_neg (by rw [show (h.changes.has 0x038 || h.changes.has 0x044) = false from none]; exact Bool.false_ne_true)
  have channels : (channels8.foldl f s).filters[dryChannel] = s.filters[dryChannel] := by
    refine foldl_view_same (f := f) (view := fun v => v.filters[dryChannel]) (fun v d _ => ?_) s
    show (if h.unseeds d = true then v.unseed d.castSucc else v).filters[dryChannel] = _
    split
    · exact (unseed_get _ _ _).trans (if_neg (Fin.castSucc_lt_last d).ne)
    · rfl
  rw [whole]
  split
  · exact (unseed_get _ _ _).trans (if_pos rfl)
  · exact channels

/-! ## The conversion unit (R103) -/

/-- The live value and the live validity of a channel. -/
def shownView (k : Fin 9) (s : State) : Word × Word :=
  (s.liveWord (0x080 + 4 * k.val), s.liveWord (0x0C0 + 4 * k.val))

theorem liveDisable_other {k c : Fin 9} (other : c ≠ k) (s : State) : shownView k (s.liveDisable c) = shownView k s := by
  have apart : c.val ≠ k.val := fun same => other (Fin.ext same)
  have bound := k.isLt
  have low := c.isLt
  have same : ∀ off, off % 4 = 0 → off ≠ 0x080 + 4 * c.val → off ≠ 0x0C0 + 4 * c.val →
      (s.liveDisable c).liveWord off = s.liveWord off := fun off aligned value validity =>
    (readWord_writeWord_other _ _ _ _ (by simp only [liveBase]; omega)).trans
      (readWord_writeWord_other _ _ _ _ (by simp only [liveBase]; omega))
  rw [shownView, same _ (by omega) (by omega) (by omega), same _ (by omega) (by omega) (by omega)]
  rfl

theorem liveDisable_same (k : Fin 9) (s : State) : shownView k (s.liveDisable k) = (0, 0) := by
  have bound := k.isLt
  have value : (s.liveDisable k).liveWord (0x080 + 4 * k.val) = 0 :=
    (readWord_writeWord_other _ _ _ _ (by simp only [liveBase]; omega)).trans (readWord_writeWord_same _ _ _)
  have validity : (s.liveDisable k).liveWord (0x0C0 + 4 * k.val) = 0 := readWord_writeWord_same _ _ _
  rw [shownView, value, validity]

/-- Channel k leaves the channel set (R103). -/
def leaves (h : ApplyHandoff) (k : Fin 9) : Prop := (∃ c : Fin 8, c.castSucc = k ∧ h.disabled c = true) ∨
  (k = dryChannel ∧ h.dryDropped = true)

/-- What the apply takes from channels that leave: a step for each, seen at one of them. -/
theorem leaving_view {β : Type} {f : Fin 9 → State → State} {view : State → β} {E : β → β → Prop} {k : Fin 9}
    (others : ∀ v c, c ≠ k → view (f c v) = view v) (own : ∀ v, E (view v) (view (f k v))) (h : ApplyHandoff) (s : State) :
    let channels := channels8.foldl (fun s (c : Fin 8) => if h.disabled c then f c.castSucc s else s) s
    let t := if h.dryDropped then f dryChannel channels else channels
    (leaves h k → E (view s) (view t)) ∧ (¬ leaves h k → view t = view s) := by
  intro channels t
  let step : State → Fin 8 → State := fun s c => if h.disabled c then f c.castSucc s else s
  have idle : ∀ v (c : Fin 8), ¬ (c.castSucc = k ∧ h.disabled c = true) → view (step v c) = view v := by
    intro v c no
    show view (if h.disabled c = true then f c.castSucc v else v) = _
    split
    · rename_i disabled
      exact others v _ fun same => no ⟨same, disabled⟩
    · rfl
  refine ⟨?_, fun stays => ?_⟩
  · rintro (⟨c, rfl, disabled⟩ | ⟨rfl, dropped⟩)
    · have last : view t = view channels := by
        show view (if h.dryDropped = true then f dryChannel channels else channels) = _
        split
        · exact others _ _ (Fin.castSucc_lt_last c).ne'
        · rfl
      rw [last]
      refine foldl_view (f := step) (fun v d other => idle v d fun both => other (Fin.castSucc_injective _ both.1))
        (fun v => ?_) channels8_nodup (mem_channels8 c) s
      have taken : step v c = f c.castSucc v := if_pos disabled
      rw [taken]
      exact own v
    · have before : view channels = view s :=
        foldl_view_same (f := step) (fun v d _ => idle v d fun both => (Fin.castSucc_lt_last d).ne both.1) s
      have taken : t = f dryChannel channels := if_pos dropped
      rw [taken, ← before]
      exact own channels
  · have before : view channels = view s :=
      foldl_view_same (f := step) (fun v d _ => idle v d fun both => stays (.inl ⟨d, both⟩)) s
    show view (if h.dryDropped = true then f dryChannel channels else channels) = _
    split
    · rename_i dropped
      exact (others _ _ fun same => stays (.inr ⟨same.symm, dropped⟩)).trans before
    · exact before

theorem applyConvert_shown (h : ApplyHandoff) (k : Fin 9) (s : State) :
    (leaves h k → shownView k (s.applyConvert h) = (0, 0)) ∧
      (¬ leaves h k → shownView k (s.applyConvert h) = shownView k s) :=
  leaving_view (f := fun c v => v.liveDisable c) (view := shownView k) (E := fun _ new => new = (0, 0))
    (fun v _ other => liveDisable_other other v) (fun v => liveDisable_same k v) h s

/-! ## The limit monitor (R168) -/

/-- A scan entry that is reset, and cleared where that is asked. -/
structure EntryReset (clear : Bool) (old new : AlarmEntry) : Prop where
  violation : new.violationStreak = 0
  clearing : new.clearStreak = 0
  times : new.timesRaised = old.timesRaised
  value : new.lastValue = old.lastValue
  active : new.active = if clear = true then false else old.active

theorem resetEntry_reset (i : Fin 48) (clear : Bool) (s : State) :
    EntryReset clear s.alarms[i] (s.resetEntry i clear).alarms[i] := by
  by_cases both : (clear && s.alarms[i].active) = true
  · obtain ⟨asked, active⟩ := Bool.and_eq_true_iff.1 both
    let e : AlarmEntry := { s.alarms[i] with
      active := false, lastChange := s.link.timeCounter, violationStreak := 0, clearStreak := 0 }
    have cleared : s.clearAlarm i none = (s.setAlarm i e).setNotice .alarm := if_pos active
    have entry : (s.resetEntry i clear).alarms[i] = e := by
      rw [State.resetEntry, if_pos both, cleared]
      exact setAlarm_same i e s
    rw [entry]
    exact ⟨rfl, rfl, rfl, rfl, (if_pos asked).symm⟩
  · let e : AlarmEntry := { s.alarms[i] with violationStreak := 0, clearStreak := 0 }
    have entry : (s.resetEntry i clear).alarms[i] = e := by
      rw [State.resetEntry, if_neg both]
      exact setAlarm_same i e s
    rw [entry]
    refine ⟨rfl, rfl, rfl, rfl, ?_⟩
    split
    · rename_i asked
      exact Bool.eq_false_iff.2 fun active => both (Bool.and_eq_true_iff.2 ⟨asked, active⟩)
    · rfl

theorem resetEntry_other {i j : Fin 48} (other : i ≠ j) (clear : Bool) (s : State) :
    (s.resetEntry i clear).alarms[j] = s.alarms[j] := by
  unfold State.resetEntry
  split
  · exact clearAlarm_others other _ _
  · exact (State.setAlarm_get _ _ _ _).trans (if_neg other)

theorem scanAlarm_injective {k c : Fin 9} {kind kind' : Fin 4} (same : scanAlarm c kind' = scanAlarm k kind) :
    c = k ∧ kind' = kind := by
  have values := congrArg Fin.val same
  simp only [scanAlarm] at values
  have low := kind.isLt
  have low' := kind'.isLt
  exact ⟨Fin.ext (by omega), Fin.ext (by omega)⟩

theorem scanKinds_nodup : scanKinds.Nodup := by decide

theorem mem_scanKinds (kind : Fin 4) : kind ∈ scanKinds := by revert kind; decide

theorem channels9_nodup : channels9.Nodup := by decide

theorem mem_channels9 (k : Fin 9) : k ∈ channels9 := by revert k; decide

/-- The four entries of one channel reset, seen at one entry. -/
theorem resetKinds_reset (k : Fin 9) (kind : Fin 4) (clear : Fin 4 → Bool) (s : State) :
    EntryReset (clear kind) s.alarms[scanAlarm k kind]
      (scanKinds.foldl (fun s kind => s.resetEntry (scanAlarm k kind) (clear kind)) s).alarms[scanAlarm k kind] :=
  foldl_view (f := fun s kind => s.resetEntry (scanAlarm k kind) (clear kind))
    (view := fun v => v.alarms[scanAlarm k kind]) (E := EntryReset (clear kind))
    (fun v other apart => resetEntry_other (fun same => apart (scanAlarm_injective same).2) _ v)
    (fun v => resetEntry_reset _ _ v) scanKinds_nodup (mem_scanKinds kind) s

theorem resetKinds_other {c k : Fin 9} (other : c ≠ k) (kind : Fin 4) (clear : Fin 4 → Bool) (s : State) :
    (scanKinds.foldl (fun s kind => s.resetEntry (scanAlarm c kind) (clear kind)) s).alarms[scanAlarm k kind] =
      s.alarms[scanAlarm k kind] :=
  foldl_view_same (f := fun s kind => s.resetEntry (scanAlarm c kind) (clear kind))
    (view := fun v => v.alarms[scanAlarm k kind])
    (fun v _ _ => resetEntry_other (fun same => other (scanAlarm_injective same).1) _ v) s

/-- The limit records' part (R168). -/
theorem applyLimit_fold (h : ApplyHandoff) (k : Fin 9) (kind : Fin 4) (s : State) :
    (h.changes.limit k = true → EntryReset (!h.after.kindEnabled k kind) s.alarms[scanAlarm k kind]
      (channels9.foldl (State.applyLimit h) s).alarms[scanAlarm k kind]) ∧
    (h.changes.limit k = false →
      (channels9.foldl (State.applyLimit h) s).alarms[scanAlarm k kind] = s.alarms[scanAlarm k kind]) := by
  have others : ∀ (v : State) (c : Fin 9), c ≠ k →
      (v.applyLimit h c).alarms[scanAlarm k kind] = v.alarms[scanAlarm k kind] := by
    intro v c other
    unfold State.applyLimit
    split
    · exact resetKinds_other other kind _ v
    · rfl
  refine ⟨fun changed => ?_, fun same => ?_⟩
  · refine foldl_view (f := State.applyLimit h) (view := fun v => v.alarms[scanAlarm k kind]) others (fun v => ?_)
      channels9_nodup (mem_channels9 k) s
    rw [State.applyLimit, if_pos changed]
    exact resetKinds_reset k kind (fun kind => !h.after.kindEnabled k kind) v
  · refine foldl_view_same (f := State.applyLimit h) (view := fun v => v.alarms[scanAlarm k kind]) (fun v c _ => ?_) s
    by_cases mine : c = k
    · subst mine
      rw [State.applyLimit, if_neg (by rw [same]; exact Bool.false_ne_true)]
    · exact others v c mine

/-- A scan entry after the reaction (R168). -/
theorem applyLimits_entry (h : ApplyHandoff) (k : Fin 9) (kind : Fin 4) (s : State) :
    let old := s.alarms[scanAlarm k kind]
    let new := (s.applyLimits h).alarms[scanAlarm k kind]
    (h.changes.limit k = true → ¬ leaves h k → EntryReset (!h.after.kindEnabled k kind) old new) ∧
      (leaves h k → EntryReset true old new) ∧ (h.changes.limit k = false → ¬ leaves h k → new = old) := by
  intro old new
  obtain ⟨changed, same⟩ := applyLimit_fold h k kind s
  have left := leaving_view (f := State.dropChannel) (view := fun v => v.alarms[scanAlarm k kind])
    (E := EntryReset true) (fun v _ other => resetKinds_other other kind (fun _ => true) v)
    (fun v => resetKinds_reset k kind (fun _ => true) v) h (channels9.foldl (State.applyLimit h) s)
  obtain ⟨gone, stays⟩ := left
  refine ⟨fun limit no => ?_, fun goes => ?_, fun limit no => (stays no).trans (same limit)⟩
  · have kept : new = (channels9.foldl (State.applyLimit h) s).alarms[scanAlarm k kind] := stays no
    rw [kept]
    exact changed limit
  · have dropped : EntryReset true (channels9.foldl (State.applyLimit h) s).alarms[scanAlarm k kind] new := gone goes
    cases limit : h.changes.limit k with
    | true =>
      have first := changed limit
      exact ⟨dropped.violation, dropped.clearing, dropped.times.trans first.times, dropped.value.trans first.value,
        dropped.active⟩
    | false =>
      rw [same limit] at dropped
      exact dropped

/-! ## The break monitor (R182) -/

/-- The state that the armed flag and the cue enables give (R175). -/
def watchState (s : State) : BreakState := if s.watches then .watch else .disarmed

/-- The watch outside BROKEN: its state, and the counts where that state is new (R171, R175). -/
structure Watched (s t : State) : Prop where
  state : t.brk.state = watchState s
  number : t.brk.number = s.brk.number
  newest : t.brk.newest = s.brk.newest
  line : t.brk.line = s.brk.line
  armed : t.brk.armed = s.brk.armed
  counts : (s.brk.state = watchState s ∧ t.brk.lowCount = s.brk.lowCount ∧ t.brk.openCount = s.brk.openCount) ∨
    (s.brk.state ≠ watchState s ∧ t.brk.lowCount = 0 ∧ t.brk.openCount = 0)

theorem takeWatch_watched (calm : s.brk.state ≠ .broken) : Watched s s.takeWatch.2 ∧
    s.takeWatch.1 = (decide (s.brk.state = .disarmed) && s.watches && s.page.cueLine && s.brk.line) := by
  have stays : s.brk.state = watchState s → Watched s s := fun state => ⟨state, rfl, rfl, rfl, rfl, .inl ⟨state, rfl, rfl⟩⟩
  have moves : s.brk.state ≠ watchState s → Watched s (s.clearCounts.setBreakState (watchState s)) := fun other => by
    have brk : (s.clearCounts.setBreakState (watchState s)).brk =
        { s.brk with state := watchState s, lowCount := 0, openCount := 0 } := setBreakState_brk _ _
    exact ⟨by rw [brk], by rw [brk], by rw [brk], by rw [brk], by rw [brk], .inr ⟨other, by rw [brk], by rw [brk]⟩⟩
  unfold State.takeWatch
  cases state : s.brk.state with
  | broken => exact absurd state calm
  | disarmed =>
    cases watches : s.watches with
    | true =>
      have target : watchState s = .watch := if_pos watches
      rw [target, state] at moves
      exact ⟨moves BreakState.noConfusion, rfl⟩
    | false =>
      have target : watchState s = .disarmed := if_neg (by rw [watches]; exact Bool.false_ne_true)
      exact ⟨stays (state.trans target.symm), rfl⟩
  | watch =>
    cases watches : s.watches with
    | true =>
      have target : watchState s = .watch := if_pos watches
      exact ⟨stays (state.trans target.symm), rfl⟩
    | false =>
      have target : watchState s = .disarmed := if_neg (by rw [watches]; exact Bool.false_ne_true)
      rw [target, state] at moves
      exact ⟨moves BreakState.noConfusion, rfl⟩

/-- LINE declares at an apply (R173, R182). -/
theorem declareAtApply_declared (s : State) : Declared cueBitLine s s.declareAtApply.state := by
  obtain ⟨held, number, newest, armed⟩ := breakStart_held s
  let g := (s.breakStart.recompute .breakRaised).state
  have brk : g.brk = s.breakStart.brk := (recompute_ex .breakRaised s.breakStart).2.2.2.2.2.2
  let w := g.writeHistory s.trav.head cueBitLine s.trav.position s.trav.position .none 0
  have whole : s.declareAtApply.state = w.setNotice .brk := rfl
  have written : w.brk = { g.brk with newest := g.brk.newest + 1 } := rfl
  rw [whole]
  refine ⟨?_, ?_, ?_, ?_, recompute_claimedGoal_broken .breakRaised held.state, noticeSet_setNotice _ _, ?_⟩
  · rw [State.setNotice_brk, written, brk]
    exact held.state
  · rw [State.setNotice_brk, written, brk]
    exact number
  · rw [State.setNotice_brk, written, brk]
    exact congrArg (· + 1) newest
  · rw [State.setNotice_brk, written, brk]
    exact armed
  · have range := historyAddr_range (s.brk.newest + 1)
    simp only [historyBase] at range
    have index : g.brk.newest = s.brk.newest := (congrArg BreakMon.newest brk).trans newest
    rw [State.setNotice_mem]
    show readWord (State.writeHistory _ _ _ _ _ _ g).mem _ = _
    unfold State.writeHistory
    rw [index]
    exact (readWord_writeWord_other _ _ _ _ (.inr (by simp only [liveBase]; omega))).trans
      (readWord_writeWords_get _ _ (historyAddr (s.brk.newest + 1)) 5 (by simp))

theorem declareAtApply_counts (s : State) :
    s.declareAtApply.state.brk.lowCount = 0 ∧ s.declareAtApply.state.brk.openCount = 0 := by
  have start : s.breakStart.brk.lowCount = 0 ∧ s.breakStart.brk.openCount = 0 := by
    unfold State.breakStart
    dsimp only
    rw [setBreakState_brk]
    exact ⟨rfl, rfl⟩
  have brk : (s.breakStart.recompute .breakRaised).state.brk = s.breakStart.brk :=
    (recompute_ex .breakRaised s.breakStart).2.2.2.2.2.2
  exact ⟨(congrArg BreakMon.lowCount brk).trans start.1, (congrArg BreakMon.openCount brk).trans start.2⟩

/-- A cue's count falls with the BREAK group or the cue's channel (R182). -/
def countFalls (h : ApplyHandoff) (role : Word) : Bool := h.changes.breakGroup || h.cueChannelChanged role

/-- LINE fires at the apply (R173, R182). -/
def LineFires (h : ApplyHandoff) (s : State) : Prop := s.watches = true ∧ h.after.cueLine = true ∧ s.brk.line = true ∧
  (s.brk.state = .disarmed ∨ h.before.cueLine = false)

/-- The break monitor's reaction outside BROKEN. -/
structure MonitorTook (h : ApplyHandoff) (s t : State) : Prop where
  low : countFalls h roleBw = true → t.brk.lowCount = 0
  opened : countFalls h roleLight = true → t.brk.openCount = 0
  watches : ¬ LineFires h s → t.brk.number = s.brk.number ∧ t.brk.state = watchState s ∧
    (s.brk.state = t.brk.state → (countFalls h roleBw = false → t.brk.lowCount = s.brk.lowCount) ∧
      (countFalls h roleLight = false → t.brk.openCount = s.brk.openCount))
  fires : LineFires h s → Declared cueBitLine s t

theorem applyBreak_calm (calm : s.brk.state ≠ .broken) (cue : s.page.cueLine = h.after.cueLine) :
    MonitorTook h s (s.applyBreak h).state := by
  let c := s.applyCounts h
  obtain ⟨watched, first⟩ : Watched c c.takeWatch.2 ∧ _ := takeWatch_watched calm
  have due : c.resumeDue = false := by
    rw [State.resumeDue, show c.brk.state = s.brk.state from rfl, decide_eq_false calm]
    rfl
  let fires := c.takeWatch.1 || (decide (c.brk.state = .watch) && decide (c.takeWatch.2.brk.state = .watch) &&
    !h.before.cueLine && h.after.cueLine && c.takeWatch.2.brk.line)
  have whole : (s.applyBreak h).state = if fires then c.takeWatch.2.declareAtApply.state else c.takeWatch.2 := by
    have split : s.applyBreak h = if fires then c.takeWatch.2.declareAtApply
        else { state := c.takeWatch.2, changed := false, posChanged := false } :=
      if_neg (by rw [due]; exact Bool.false_ne_true)
    rw [split, apply_ite Recomputed.state]
  have watches : c.takeWatch.2.brk.state = .watch ↔ s.watches = true := by
    rw [watched.state, show watchState c = watchState s from rfl, watchState]
    cases s.watches with
    | true => exact iff_of_true rfl rfl
    | false => exact iff_of_false BreakState.noConfusion Bool.false_ne_true
  have iff : fires = true ↔ LineFires h s := by
    show (c.takeWatch.1 || (decide (s.brk.state = .watch) && decide (c.takeWatch.2.brk.state = .watch) &&
      !h.before.cueLine && h.after.cueLine && c.takeWatch.2.brk.line)) = true ↔ _
    rw [first, watched.line, show c.brk.state = s.brk.state from rfl, show c.watches = s.watches from rfl,
      show c.page.cueLine = h.after.cueLine from cue, show c.brk.line = s.brk.line from rfl]
    simp only [Bool.or_eq_true, Bool.and_eq_true, decide_eq_true_eq, Bool.not_eq_true', watches, LineFires]
    cases state : s.brk.state with
    | broken => exact absurd state calm
    | disarmed =>
      constructor
      · rintro (⟨⟨⟨-, w⟩, a⟩, l⟩ | ⟨⟨⟨⟨no, -⟩, -⟩, -⟩, -⟩)
        · exact ⟨w, a, l, .inl rfl⟩
        · exact BreakState.noConfusion no
      · exact fun ⟨w, a, l, _⟩ => .inl ⟨⟨⟨rfl, w⟩, a⟩, l⟩
    | watch =>
      constructor
      · rintro (⟨⟨⟨no, -⟩, -⟩, -⟩ | ⟨⟨⟨⟨-, w⟩, b⟩, a⟩, l⟩)
        · exact BreakState.noConfusion no
        · exact ⟨w, a, l, .inr b⟩
      · rintro ⟨w, a, l, no | b⟩
        · exact BreakState.noConfusion no
        · exact .inr ⟨⟨⟨⟨rfl, w⟩, b⟩, a⟩, l⟩
  by_cases line : LineFires h s
  · have taken : (s.applyBreak h).state = c.takeWatch.2.declareAtApply.state := whole.trans (if_pos (iff.2 line))
    have declared := declareAtApply_declared c.takeWatch.2
    obtain ⟨low, opened⟩ := declareAtApply_counts c.takeWatch.2
    rw [taken]
    refine ⟨fun _ => low, fun _ => opened, fun no => absurd line no, fun _ => ?_⟩
    have newest : c.takeWatch.2.brk.newest = s.brk.newest := watched.newest
    have entry := declared.entry
    rw [newest] at entry
    exact ⟨declared.state, declared.number.trans (congrArg (· + 1) watched.number),
      declared.newest.trans (congrArg (· + 1) newest), declared.armed.trans watched.armed, declared.goal, declared.notice, entry⟩
  · have taken : (s.applyBreak h).state = c.takeWatch.2 := whole.trans (if_neg (mt iff.1 line))
    rw [taken]
    have low : c.brk.lowCount = if countFalls h roleBw = true then 0 else s.brk.lowCount := rfl
    have opened : c.brk.openCount = if countFalls h roleLight = true then 0 else s.brk.openCount := rfl
    refine ⟨fun fall => ?_, fun fall => ?_, fun _ => ⟨watched.number, watched.state, fun same => ?_⟩,
      fun yes => absurd yes line⟩
    · rcases watched.counts with ⟨-, kept, -⟩ | ⟨-, zero, -⟩
      · rw [kept, low, if_pos fall]
      · exact zero
    · rcases watched.counts with ⟨-, -, kept⟩ | ⟨-, -, zero⟩
      · rw [kept, opened, if_pos fall]
      · exact zero
    · rcases watched.counts with ⟨-, keptLow, keptOpen⟩ | ⟨other, -⟩
      · refine ⟨fun no => ?_, fun no => ?_⟩
        · rw [keptLow, low, if_neg (by rw [no]; exact Bool.false_ne_true)]
        · rw [keptOpen, opened, if_neg (by rw [no]; exact Bool.false_ne_true)]
      · exact absurd (same.trans watched.state) other

/-- In BROKEN with the latch set and the LINE condition clear the monitor resumes (R180, R182). -/
theorem applyBreak_resumes (broken : s.brk.state = .broken) (latch : s.brk.latch = true) (clear : s.lineClear = true) :
    (s.applyBreak h).state.brk.state = watchState s ∧ (s.applyBreak h).state.noticeSet .resumed = true := by
  let c := s.applyCounts h
  have due : c.resumeDue = true := by
    rw [State.resumeDue, show c.brk.state = .broken from broken, show c.brk.latch = true from latch,
      show c.lineClear = true from clear]
    rfl
  have whole : (s.applyBreak h).state = (c.resumeCore.recompute .other).state := by
    unfold State.applyBreak
    dsimp only
    rw [if_pos due]
  have noticed : c.resumeCore.noticeSet .resumed = true := noticeSet_setNotice .resumed _
  rw [whole]
  refine ⟨?_, ?_⟩
  · rw [(recompute_ex .other _).2.2.2.2.2.2, resumeCore_brk]
    rfl
  · unfold State.noticeSet
    rw [(recompute_ex .other _).1]
    exact noticed

/-- Otherwise the break stands (R182). -/
theorem applyBreak_stands (broken : s.brk.state = .broken) (waits : s.brk.latch = false ∨ s.lineClear = false) :
    (s.applyBreak h).state.brk.state = .broken ∧ (s.applyBreak h).state.brk.number = s.brk.number ∧
      (s.applyBreak h).state.brk.latch = s.brk.latch := by
  let c := s.applyCounts h
  have state : c.brk.state = .broken := broken
  have due : c.resumeDue = false := by
    rw [State.resumeDue, state]
    rcases waits with latch | line
    · rw [show c.brk.latch = false from latch, Bool.and_false, Bool.false_and]
    · rw [show c.lineClear = false from line, Bool.and_false]
  have watch : c.takeWatch = (false, c) := by
    unfold State.takeWatch
    rw [state]
  have whole : (s.applyBreak h).state = c := by
    unfold State.applyBreak
    dsimp only
    rw [due, if_neg Bool.false_ne_true, watch, if_neg]
    rw [state]
    exact Bool.false_ne_true
  rw [whole]
  exact ⟨broken, rfl, rfl⟩

end Sys2Proof.Proofs
end

section
/-!
PROOFS. What the blocks do with an accepted apply, at the end of its event (Table 1-5).
-/
namespace Sys2Proof.Proofs

open Sys2Proof.Machine Sys2Proof.Laws

-- One proof after another: threads that wait for each other count against the memory limit of the check.
set_option Elab.async false

variable {s t u v a : State} {h : ApplyHandoff} {p : ApplyPart}

/-! ## The stages of the reactions -/

def binned (h : ApplyHandoff) (a : State) : State := (a.applyLink h).applyBinning h
def driven (h : ApplyHandoff) (a : State) : State := (binned h a).applyTraverse h
def referenced (h : ApplyHandoff) (a : State) : State := (driven h a).applyStd h
def profiled (h : ApplyHandoff) (a : State) : State := (referenced h a).applyProfile h
def converted (h : ApplyHandoff) (a : State) : State := (profiled h a).applyConvert h
def limited (h : ApplyHandoff) (a : State) : State := (converted h a).applyLimits h
def regoaled (h : ApplyHandoff) (a : State) : State := ((limited h a).recompute .other).state
def monitored (h : ApplyHandoff) (a : State) : State := ((regoaled h a).applyBreak h).state

theorem to_driven (edges : p ≠ .edges) (drive : p ≠ .drive) : Keeps p a (driven h a) :=
  ((applyLink_keeps p h a).trans (applyBinning_keeps edges h _)).trans (applyTraverse_keeps drive h _)

theorem to_referenced (edges : p ≠ .edges) (drive : p ≠ .drive) (refs : p ≠ .refs) : Keeps p a (referenced h a) :=
  (to_driven edges drive).trans (applyStd_keeps refs h _)

theorem to_profiled (edges : p ≠ .edges) (drive : p ≠ .drive) (refs : p ≠ .refs) (filters : p ≠ .filters) :
    Keeps p a (profiled h a) :=
  (to_referenced edges drive refs).trans (applyProfile_keeps filters h _)

theorem to_converted (edges : p ≠ .edges) (drive : p ≠ .drive) (refs : p ≠ .refs) (filters : p ≠ .filters)
    (shown : p ≠ .shown) : Keeps p a (converted h a) :=
  (to_profiled edges drive refs filters).trans (applyConvert_keeps shown h _)

theorem to_regoaled (h : ApplyHandoff) (a : State) : Keeps .watch a (regoaled h a) :=
  ((to_converted (by decide) (by decide) (by decide) (by decide) (by decide)).trans
    (applyLimits_keeps (by decide) h _)).trans (recompute_keeps .watch .other _)

theorem regoaled_brk (h : ApplyHandoff) (a : State) : (regoaled h a).brk = a.brk := (to_regoaled h a).watch rfl

section After

variable (calm : a.brk.state ≠ .broken)
include calm

theorem after_limited (watch : p ≠ .watch) : Keeps p (limited h a) (monitored h a) :=
  (recompute_keeps p .other _).trans (applyBreak_keeps watch h (by
    show (regoaled h a).brk.state ≠ _
    rw [regoaled_brk]
    exact calm))

theorem after_converted (watch : p ≠ .watch) (scan : p ≠ .scan) : Keeps p (converted h a) (monitored h a) :=
  (applyLimits_keeps scan h _).trans (after_limited calm watch)

theorem after_profiled (watch : p ≠ .watch) (scan : p ≠ .scan) (shown : p ≠ .shown) :
    Keeps p (profiled h a) (monitored h a) :=
  (applyConvert_keeps shown h _).trans (after_converted calm watch scan)

theorem after_referenced (watch : p ≠ .watch) (scan : p ≠ .scan) (shown : p ≠ .shown) (filters : p ≠ .filters) :
    Keeps p (referenced h a) (monitored h a) :=
  (applyProfile_keeps filters h _).trans (after_profiled calm watch scan shown)

theorem after_driven (watch : p ≠ .watch) (scan : p ≠ .scan) (shown : p ≠ .shown) (filters : p ≠ .filters)
    (refs : p ≠ .refs) : Keeps p (driven h a) (monitored h a) :=
  (applyStd_keeps refs h _).trans (after_referenced calm watch scan shown filters)

theorem after_binned (watch : p ≠ .watch) (scan : p ≠ .scan) (shown : p ≠ .shown) (filters : p ≠ .filters)
    (refs : p ≠ .refs) (drive : p ≠ .drive) : Keeps p (binned h a) (monitored h a) :=
  (applyTraverse_keeps drive h _).trans (after_driven calm watch scan shown filters refs)

end After

/-! ## The event -/

/-- What an accepted apply hands to the blocks. -/
def handoff (s : State) : ApplyHandoff := { changes := changedOffsets s, before := s.page, after := s.acceptApply.page }

/-- The state that the blocks leave before the head takes what follows. -/
def reacted (s : State) : State := monitored (handoff s) s.acceptApply

theorem applyNow_reacted (check : validatePage s.staged = none) : ∃ changed posChanged,
    s.applyNow = Recomputed.settle ⟨reacted s, changed, posChanged⟩ := by
  unfold State.applyNow
  rw [applyTake_accepted s check]
  exact ⟨_, _, rfl⟩

theorem acceptApply_frame (s : State) : s.acceptApply = { s with mem := s.acceptApply.mem, ex := s.acceptApply.ex } := by
  unfold State.acceptApply State.gateIdle
  dsimp only
  split <;> rfl

theorem tail_keeps (check : validatePage s.staged = none) (drive : p ≠ .drive) :
    Keeps p (reacted s) s.applyNow.endEvent := by
  obtain ⟨changed, posChanged, e⟩ := applyNow_reacted check
  rw [e]
  exact (settle_keeps drive ⟨reacted s, changed, posChanged⟩).trans (endEvent_keeps drive _)

theorem acceptApply_link (s : State) : s.acceptApply.link = s.link ∧ s.acceptApply.brk = s.brk ∧
    s.acceptApply.bin = s.bin ∧ s.acceptApply.std = s.std ∧ s.acceptApply.filters = s.filters ∧
    s.acceptApply.alarms = s.alarms := by
  rw [acceptApply_frame]
  exact ⟨rfl, rfl, rfl, rfl, rfl, rfl⟩

/-- The head at the end of the event takes what follows under the goal that the blocks left. -/
theorem tail_goal (check : validatePage s.staged = none) : s.applyNow.endEvent.arb = (reacted s).arb ∧
    s.applyNow.endEvent.brk = (reacted s).brk := by
  obtain ⟨changed, posChanged, e⟩ := applyNow_reacted check
  have kept : HeadKept (reacted s) s.applyNow := by
    rw [e]
    unfold Recomputed.settle
    split
    · exact takeGoalStill_kept _ _ _
    · exact .refl _
  exact ⟨(endEvent_kept _).arb.trans kept.arb, (endEvent_kept _).brk.trans kept.brk⟩

theorem tail_evolves (check : validatePage s.staged = none) : Evolves ∅ (reacted s) s.applyNow.endEvent := by
  obtain ⟨changed, posChanged, e⟩ := applyNow_reacted check
  rw [e]
  exact (Evolves.settle (r := ⟨reacted s, changed, posChanged⟩) (.refl _ _)).trans endEvent_evolves

theorem binned_linkKept (h : ApplyHandoff) (a : State) : LinkKept (a.applyLink h) (monitored h a) :=
  applyReactions_linkKept h a

theorem applyLink_link (h : ApplyHandoff) (a : State) : (a.applyLink h).ex = a.ex ∧ (a.applyLink h).link.up = a.link.up ∧
    (h.changes.link = true → (a.applyLink h).link.lossCount = 0 ∧ (a.applyLink h).link.goodRun = 0) ∧
    (h.changes.link = false → (a.applyLink h).link.lossCount = a.link.lossCount ∧
      (a.applyLink h).link.goodRun = a.link.goodRun) := by
  unfold State.applyLink
  cases h.changes.link with
  | true => exact ⟨rfl, rfl, fun _ => ⟨rfl, rfl⟩, nofun⟩
  | false => exact ⟨rfl, rfl, nofun, fun _ => ⟨rfl, rfl⟩⟩

theorem reacted_pending (s : State) : (reacted s).ex.applyPending = false := by
  obtain ⟨ex, -⟩ := applyLink_link (handoff s) s.acceptApply
  cases pending : (reacted s).ex.applyPending with
  | false => rfl
  | true =>
    have before := (binned_linkKept (handoff s) s.acceptApply).pending pending
    rw [ex, acceptApply_applyPending] at before
    cases before

/-- The head link controller (R44). -/
theorem applied_link (check : validatePage s.staged = none) :
    s.applyNow.endEvent.link.up = s.link.up ∧
    ((handoff s).changes.link = true →
      s.applyNow.endEvent.link.lossCount = 0 ∧ s.applyNow.endEvent.link.goodRun = 0) ∧
    ((handoff s).changes.link = false → s.applyNow.endEvent.link.lossCount = s.link.lossCount ∧
      s.applyNow.endEvent.link.goodRun = s.link.goodRun) := by
  obtain ⟨changed, posChanged, e⟩ := applyNow_reacted check
  obtain ⟨ex, up, zero, same⟩ := applyLink_link (handoff s) s.acceptApply
  have kept : LinkKept (s.acceptApply.applyLink (handoff s)) s.applyNow.endEvent := by
    rw [e]
    exact ((binned_linkKept _ _).trans (settle_linkKept ⟨reacted s, changed, posChanged⟩)).trans (endEvent_linkKept _)
  obtain ⟨loss, run⟩ := kept.countsSame (by rw [ex]; exact acceptApply_applyPending s)
  have link := (acceptApply_link s).1
  rw [loss, run, kept.up, up]
  refine ⟨by rw [link], zero, fun no => ?_⟩
  obtain ⟨loss, run⟩ := same no
  exact ⟨loss.trans (by rw [link]), run.trans (by rw [link])⟩

/-! ## The drive (R66, R70) -/

theorem binned_trav (s : State) : (binned (handoff s) s.acceptApply).trav = s.trav :=
  (((applyLink_keeps .drive _ _).trans (applyBinning_keeps (by decide) _ _)).drive rfl).trans (acceptApply_head s)

theorem reacted_trav (calm : s.brk.state ≠ .broken) :
    (reacted s).trav = (driven (handoff s) s.acceptApply).trav :=
  (after_driven (by rw [(acceptApply_link s).2.1]; exact calm) (by decide) (by decide) (by decide) (by decide)
    (by decide)).drive rfl

theorem endEvent_trav (other : s.trav.head ≠ .parked) : s.endEvent.trav = s.trav := by
  have rest : s.stdStartDue = false := by
    rw [State.stdStartDue, decide_eq_false other, Bool.and_false, Bool.false_and]
  rw [endEvent_frame rest]

theorem enterHoming_duty (s : State) : s.enterHoming.trav.duty = s.trav.duty := by
  unfold State.enterHoming
  dsimp only
  split
  · exact State.setHead_duty ..
  · exact State.setHead_duty ..

/-- A change of ENCODER_SENSE under a homed head (R70). -/
theorem applied_unhomed (check : validatePage s.staged = none) (calm : s.brk.state ≠ .broken)
    (homed : s.trav.homed = true) (sense : (handoff s).changes.has 0x058 = true) :
    s.applyNow.endEvent.trav.head = (if s.applyNow.endEvent.arb.goal = .stop then .unhomed else .homing) ∧
      s.applyNow.endEvent.trav.duty = 0 := by
  obtain ⟨changed, posChanged, e⟩ := applyNow_reacted check
  obtain ⟨head, duty⟩ := applyTraverse_unhomed (s := binned (handoff s) s.acceptApply) sense
    (by rw [binned_trav]; exact homed)
  have trav := reacted_trav calm
  have unhomed : (reacted s).trav.head = .unhomed := by rw [trav]; exact head
  have still : (reacted s).trav.duty = 0 := by rw [trav]; exact duty
  have taken : s.applyNow = if (reacted s).arb.goal = .stop then reacted s else (reacted s).enterHoming := by
    rw [e, Recomputed.settle, if_pos (.inr unhomed)]
    exact takeGoalStill_unhomed unhomed
  rw [(tail_goal check).1]
  by_cases stop : (reacted s).arb.goal = .stop
  · rw [if_pos stop] at taken ⊢
    rw [taken, endEvent_trav (by rw [unhomed]; exact HeadState.noConfusion)]
    exact ⟨unhomed, still⟩
  · rw [if_neg stop] at taken ⊢
    have homing := enterHoming_head (reacted s)
    rw [taken, endEvent_trav (by rw [homing]; exact HeadState.noConfusion)]
    exact ⟨homing, (enterHoming_duty _).trans still⟩

/-- A homed head outside the bounds of the new plan (R66). -/
theorem applied_overtravel (check : validatePage s.staged = none) (calm : s.brk.state ≠ .broken)
    (sense : (handoff s).changes.has 0x058 = false) (plan : (handoff s).changes.plan = true)
    (outside : (binned (handoff s) s.acceptApply).overtravelled = true) :
    s.applyNow.endEvent.trav.head = .faulted ∧ s.applyNow.endEvent.trav.faultCause = .overtravel ∧
      s.applyNow.endEvent.trav.duty = 0 ∧ s.applyNow.endEvent.trav.homed = false := by
  obtain ⟨changed, posChanged, e⟩ := applyNow_reacted check
  have fault : driven (handoff s) s.acceptApply = (binned (handoff s) s.acceptApply).enterFaulted .overtravel :=
    applyTraverse_overtravel sense plan outside
  obtain ⟨head, homed, duty⟩ := enterFaulted_drive .overtravel (binned (handoff s) s.acceptApply)
  have cause := enterFaulted_cause .overtravel (binned (handoff s) s.acceptApply)
  have trav := reacted_trav calm
  rw [fault] at trav
  have faulted : (reacted s).trav.head = .faulted := by rw [trav]; exact head
  have taken : s.applyNow = reacted s := by
    rw [e, Recomputed.settle]
    split
    · show (reacted s).takeGoalStill _ _ = _
      rw [State.takeGoalStill, faulted]
    · rfl
  rw [taken, endEvent_trav (by rw [faulted]; exact HeadState.noConfusion), trav]
  exact ⟨head, cause, duty, homed⟩

/-! ## The other blocks -/

theorem accepted_calm (calm : s.brk.state ≠ .broken) : s.acceptApply.brk.state ≠ .broken := by
  rw [(acceptApply_link s).2.1]
  exact calm

section Blocks

variable (check : validatePage s.staged = none) (calm : s.brk.state ≠ .broken)
include check calm

/-- The conversion unit (R103). -/
theorem applied_shown (k : Fin 9) :
    (leaves (handoff s) k → shownView k s.applyNow.endEvent = (0, 0)) ∧
      (¬ leaves (handoff s) k → shownView k s.applyNow.endEvent = shownView k s) := by
  have bound := k.isLt
  have view : ∀ {u v : State}, SameBytes v.mem u.mem 0x08080 0x080E4 → shownView k v = shownView k u := fun {u v} same =>
    Prod.ext (readWord_of_sameBytes same (by simp only [liveBase]; omega) (by simp only [liveBase]; omega))
      (readWord_of_sameBytes same (by simp only [liveBase]; omega) (by simp only [liveBase]; omega))
  have accepted : SameBytes s.acceptApply.mem s.mem 0x08080 0x080E4 :=
    sameBytes_trans (acceptApply_sameBytes s (.inr (by decide))) (copied_sameBytes s (.inr (by decide)))
  have before : shownView k (profiled (handoff s) s.acceptApply) = shownView k s :=
    (view ((to_profiled (by decide) (by decide) (by decide) (by decide)).shown rfl)).trans (view accepted)
  have after : shownView k s.applyNow.endEvent = shownView k (converted (handoff s) s.acceptApply) :=
    view (((after_converted (accepted_calm calm) (by decide) (by decide)).trans
      (tail_keeps check (by decide))).shown rfl)
  obtain ⟨gone, stays⟩ := applyConvert_shown (handoff s) k (profiled (handoff s) s.acceptApply)
  rw [after, ← before]
  exact ⟨gone, stays⟩

/-- The standardize sequencer (R107). -/
theorem applied_refs (c : Fin 8) :
    ((handoff s).changes.rereferenced c = true →
      Unreferenced c ((handoff s).after.enabled c) s.applyNow.endEvent) ∧
      ((handoff s).changes.rereferenced c = false → stdView c s.applyNow.endEvent = stdView c s) := by
  have view : ∀ {u v : State}, Keeps .refs u v → stdView c v = stdView c u := fun kept => by
    rw [stdView, (kept.refs rfl).1, (kept.refs rfl).2, kept.entries _ ⟨c, rfl⟩]
    rfl
  have accepted : stdView c s.acceptApply = stdView c s := by
    obtain ⟨-, -, -, std, -, alarms⟩ := acceptApply_link s
    rw [stdView, std, alarms]
    rfl
  have before : stdView c (driven (handoff s) s.acceptApply) = stdView c s :=
    (view (to_driven (by decide) (by decide))).trans accepted
  have after : stdView c s.applyNow.endEvent = stdView c (referenced (handoff s) s.acceptApply) :=
    view ((after_referenced (accepted_calm calm) (by decide) (by decide) (by decide) (by decide)).trans
      (tail_keeps check (by decide)))
  refine ⟨fun changed => ?_, fun same => after.trans ((applyStd_same same _).trans before)⟩
  obtain ⟨ref, untried, normal⟩ := applyStd_unreferenced changed (driven (handoff s) s.acceptApply)
  exact ⟨(congrArg Prod.fst after).trans ref, (congrArg (fun v => v.2.1) after).trans untried,
    (congrArg (fun v => v.2.2.active) after).trans normal⟩

/-- The binning unit (R138). -/
theorem applied_edges :
    ((handoff s).changes.plan = true → EdgesReset (handoff s).after s.applyNow.endEvent) ∧
      ((handoff s).changes.plan = false → s.applyNow.endEvent.bin.edgeFront = s.bin.edgeFront ∧
        s.applyNow.endEvent.bin.edgeBack = s.bin.edgeBack ∧ s.applyNow.endEvent.bin.missFront = s.bin.missFront ∧
        s.applyNow.endEvent.bin.missBack = s.bin.missBack) := by
  have after : Keeps .edges (binned (handoff s) s.acceptApply) s.applyNow.endEvent :=
    (after_binned (accepted_calm calm) (by decide) (by decide) (by decide) (by decide) (by decide)
      (by decide)).trans (tail_keeps check (by decide))
  have linked := applyLink_keeps .edges (handoff s) s.acceptApply
  obtain ⟨front, back, missFront, missBack⟩ := after.edges rfl
  refine ⟨fun plan => ?_, fun plan => ?_⟩
  · have reset := applyBinning_plan (s := s.acceptApply.applyLink (handoff s)) plan
    exact ⟨front.trans reset.front, back.trans reset.back, missFront.trans reset.missFront,
      missBack.trans reset.missBack,
      fun side => (congrArg AlarmEntry.active (after.entries _ ⟨side, rfl⟩)).trans (reset.normal side)⟩
  · obtain ⟨front', back', missFront', missBack'⟩ := applyBinning_same (s := s.acceptApply.applyLink (handoff s)) plan
    obtain ⟨front0, back0, missFront0, missBack0⟩ := linked.edges rfl
    have bin := (acceptApply_link s).2.2.1
    rw [bin] at front0 back0 missFront0 missBack0
    exact ⟨front.trans (front'.trans front0), back.trans (back'.trans back0),
      missFront.trans (missFront'.trans missFront0), missBack.trans (missBack'.trans missBack0)⟩

/-- The profile unit (R142). -/
theorem applied_filters :
    (reseeds (handoff s) = true → ∀ k : Fin 9, s.applyNow.endEvent.filters[k] = { }) ∧
    (reseeds (handoff s) = false →
      (∀ c : Fin 8, s.applyNow.endEvent.filters[c.castSucc] =
        if (handoff s).unseeds c = true then { } else s.filters[c.castSucc]) ∧
      s.applyNow.endEvent.filters[dryChannel] =
        if (handoff s).unseedsDry = true then { } else s.filters[dryChannel]) := by
  have before : (referenced (handoff s) s.acceptApply).filters = s.filters :=
    ((to_referenced (by decide) (by decide) (by decide)).filters rfl).trans (acceptApply_link s).2.2.2.2.1
  have after : s.applyNow.endEvent.filters = (profiled (handoff s) s.acceptApply).filters :=
    ((after_profiled (accepted_calm calm) (by decide) (by decide) (by decide)).trans
      (tail_keeps check (by decide))).filters rfl
  rw [after, ← before]
  exact ⟨fun all k => applyProfile_reseeded all k _,
    fun none => ⟨fun c => applyProfile_channel none c _, applyProfile_dry none _⟩⟩

/-- The limit monitor (R168). -/
theorem applied_limits (k : Fin 9) (kind : Fin 4) :
    let old := s.alarms[scanAlarm k kind]
    let new := s.applyNow.endEvent.alarms[scanAlarm k kind]
    ((handoff s).changes.limit k = true → ¬ leaves (handoff s) k →
      EntryReset (!(handoff s).after.kindEnabled k kind) old new) ∧
      (leaves (handoff s) k → EntryReset true old new) ∧
      ((handoff s).changes.limit k = false → ¬ leaves (handoff s) k → new = old) := by
  intro old new
  have before : (converted (handoff s) s.acceptApply).alarms[scanAlarm k kind] = old :=
    ((to_converted (p := .scan) (by decide) (by decide) (by decide) (by decide) (by decide)).entries _ ⟨k, kind, rfl⟩).trans
      (by rw [(acceptApply_link s).2.2.2.2.2])
  have after : new = (limited (handoff s) s.acceptApply).alarms[scanAlarm k kind] :=
    ((after_limited (p := .scan) (accepted_calm calm) (by decide)).trans (tail_keeps check (by decide))).entries _
      ⟨k, kind, rfl⟩
  rw [after, ← before]
  exact applyLimits_entry (handoff s) k kind (converted (handoff s) s.acceptApply)

end Blocks

end Sys2Proof.Proofs
end

section
/-!
PROOFS. An accepted apply in the words of the active page at the end of its event; O26.
-/
namespace Sys2Proof.Proofs

open Sys2Proof.Machine Sys2Proof.Laws

-- One proof after another: threads that wait for each other count against the memory limit of the check.
set_option Elab.async false

variable {s t : State} {h : ApplyHandoff}

/-! ## Pages that agree at every word of the page -/

def PagesAgree (p q : Page) : Prop := ∀ off, off + 4 ≤ 0x4000 → q off = p off

theorem mem_channelSet {p : Page} (k : Fin 9) : k ∈ p.channelSet ↔
    (∃ c : Fin 8, c.castSucc = k ∧ p.enabled c = true) ∨ (k = dryChannel ∧ p.dryConfigured = true) := by
  have on : ∀ c : Fin 8, c ∈ p.enabledChannels ↔ p.enabled c = true := fun c => by
    rw [Page.enabledChannels, List.mem_filter, and_iff_right (mem_channels8 c)]
  have dry : k ∈ (if p.dryConfigured then [dryChannel] else []) ↔ k = dryChannel ∧ p.dryConfigured = true := by
    cases p.dryConfigured <;> simp
  rw [Page.channelSet, List.mem_append, List.mem_map, dry]
  simp only [on, and_comm]

/-- A channel leaves the set when the new page does not have it (R103). -/
theorem leaves_iff (h : ApplyHandoff) (k : Fin 9) : leaves h k ↔ k ∈ h.before.channelSet ∧ k ∉ h.after.channelSet := by
  rw [leaves, mem_channelSet, mem_channelSet]
  simp only [ApplyHandoff.disabled, ApplyHandoff.dryDropped, Bool.and_eq_true, Bool.not_eq_true']
  by_cases dry : k = dryChannel
  · subst dry
    have none : ∀ c : Fin 8, c.castSucc ≠ dryChannel := fun c => (Fin.castSucc_lt_last c).ne
    simp [none]
  · constructor
    · rintro (⟨c, rfl, was, gone⟩ | ⟨same, -⟩)
      · refine ⟨.inl ⟨c, rfl, was⟩, ?_⟩
        rintro (⟨d, same, now⟩ | ⟨same, -⟩)
        · rw [Fin.castSucc_injective _ same, gone] at now
          exact Bool.false_ne_true now
        · exact dry same
      · exact absurd same dry
    · rintro ⟨⟨c, rfl, was⟩ | ⟨same, -⟩, gone⟩
      · exact .inl ⟨c, rfl, was, Bool.eq_false_iff.2 fun now => gone (.inl ⟨c, rfl, now⟩)⟩
      · exact absurd same dry

section Agree

variable {p q : Page} (agree : PagesAgree p q)
include agree

theorem agree_channelWord (c : Fin 8) {r : Nat} (low : r + 4 ≤ 64) : q (chanOff c r) = p (chanOff c r) :=
  agree _ (by have bound := c.isLt; unfold chanOff; omega)

theorem agree_enabled (c : Fin 8) : q.enabled c = p.enabled c := by
  rw [Page.enabled, Page.enabled, agree_channelWord agree c (by decide)]

theorem agree_table (c : Fin 8) : q.table c = p.table c := by
  rw [Page.table, Page.table, agree_channelWord agree c (by decide)]

theorem agree_roleChannel (role : Word) : q.roleChannel role = p.roleChannel role := by
  have same : (fun c : Fin 8 => q.role c == role) = fun c : Fin 8 => p.role c == role :=
    funext fun c => by rw [Page.role, Page.role, agree_channelWord agree c (by decide)]
  rw [Page.roleChannel, Page.roleChannel, enabledChannels_congr agree, same]

theorem agree_dryConfigured : q.dryConfigured = p.dryConfigured := by
  rw [Page.dryConfigured, Page.dryConfigured, agree_roleChannel agree, agree_roleChannel agree]

theorem agree_channelSet : q.channelSet = p.channelSet := by
  rw [Page.channelSet, Page.channelSet, enabledChannels_congr agree, agree_dryConfigured agree]

theorem agree_kindEnabled (k : Fin 9) (kind : Nat) : q.kindEnabled k kind = p.kindEnabled k kind := by
  have bound := k.isLt
  rw [Page.kindEnabled, Page.kindEnabled, agree _ (by unfold limitOff; omega)]

theorem agree_cues : q.cueEnables = p.cueEnables ∧ q.cueLine = p.cueLine := by
  rw [Page.cueEnables, Page.cueEnables, Page.cueLine, Page.cueLine, agree _ (by decide)]
  exact ⟨rfl, rfl⟩

theorem agree_bounds : q.homeMargin = p.homeMargin ∧ q.pEnd = p.pEnd := by
  rw [Page.homeMargin, Page.homeMargin, Page.pEnd, Page.pEnd, agree _ (by decide), agree _ (by decide)]
  exact ⟨rfl, rfl⟩

theorem agree_edges : q.eFront = p.eFront ∧ q.eBack = p.eBack := by
  rw [Page.eFront, Page.eFront, Page.eBack, Page.eBack, agree _ (by decide), agree _ (by decide)]
  exact ⟨rfl, rfl⟩

end Agree

/-! ## The break monitor at the end of the event -/

/-- What follows the reactions leaves the break declared. -/
theorem declared_tail {r : State} (check : validatePage s.staged = none) (declared : Declared cueBitLine r (reacted s)) :
    Declared cueBitLine r s.applyNow.endEvent := by
  obtain ⟨arb, brk⟩ := tail_goal check
  have history := ((tail_evolves check).gateStill (reacted_pending s)).history (Set.notMem_empty _)
  obtain ⟨low, high⟩ := historyAddr_range (r.brk.newest + 1)
  exact
    { state := (congrArg BreakMon.state brk).trans declared.state
      number := (congrArg BreakMon.number brk).trans declared.number
      newest := (congrArg BreakMon.newest brk).trans declared.newest
      armed := (congrArg BreakMon.armed brk).trans declared.armed
      goal := (congrArg Arbiter.goal arb).trans declared.goal
      notice := (tail_evolves check).frame.notices (Set.notMem_empty _) _ declared.notice
      entry := (readWord_of_sameBytes history (by omega) (by omega)).trans declared.entry }

/-- The state that the break monitor finds at the apply. -/
def atMonitor (s : State) : State := regoaled (handoff s) s.acceptApply

theorem atMonitor_brk (s : State) : (atMonitor s).brk = s.brk := (regoaled_brk _ _).trans (acceptApply_link s).2.1

theorem atMonitor_page (s : State) : PagesAgree (handoff s).after (atMonitor s).page := fun _ low =>
  page_of_sameBytes (to_regoaled (handoff s) s.acceptApply).page low

theorem applied_monitor (check : validatePage s.staged = none) (calm : s.brk.state ≠ .broken) :
    MonitorTook (handoff s) (atMonitor s) s.applyNow.endEvent := by
  have took : MonitorTook (handoff s) (atMonitor s) (reacted s) :=
    applyBreak_calm (by rw [atMonitor_brk]; exact calm) (agree_cues (atMonitor_page s)).2
  have brk := (tail_goal check).2
  refine ⟨fun falls => ?_, fun falls => ?_, fun line => ?_, fun line => declared_tail check (took.fires line)⟩
  · rw [brk]
    exact took.low falls
  · rw [brk]
    exact took.opened falls
  · rw [brk]
    exact took.watches line

/-- In BROKEN the monitor resumes, or the break stands (R180, R182). -/
theorem applied_broken (check : validatePage s.staged = none) (broken : s.brk.state = .broken) :
    (s.brk.latch = true → (atMonitor s).lineClear = true →
      s.applyNow.endEvent.brk.state = watchState (atMonitor s) ∧ s.applyNow.endEvent.noticeSet .resumed = true) ∧
    (s.brk.latch = false ∨ (atMonitor s).lineClear = false →
      s.applyNow.endEvent.brk.state = .broken ∧ s.applyNow.endEvent.brk.number = s.brk.number ∧
        s.applyNow.endEvent.brk.latch = s.brk.latch) := by
  rw [(tail_goal check).2, ← atMonitor_brk s]
  have state : (atMonitor s).brk.state = .broken := by rw [atMonitor_brk]; exact broken
  refine ⟨fun latch clear => ?_, fun waits => applyBreak_stands (h := handoff s) state waits⟩
  obtain ⟨state, notice⟩ := applyBreak_resumes (h := handoff s) state latch clear
  exact ⟨state, (tail_evolves check).frame.notices (Set.notMem_empty _) _ notice⟩

end Sys2Proof.Proofs
end

section
/-!
PROOFS. The changes of an accepted apply in the words of the two pages; O26.
-/
namespace Sys2Proof.Proofs

open Sys2Proof.Machine Sys2Proof.Laws

-- One proof after another: threads that wait for each other count against the memory limit of the check.
set_option Elab.async false

variable {s : State}

/-! ## The changes, read from the pages before and after -/

/-- Some word of a range of the active page changed. -/
def Differs (s t : State) (lo hi : Nat) : Prop := ∃ off, lo ≤ off ∧ off < hi ∧ off % 4 = 0 ∧ t.page off ≠ s.page off

theorem differs_word {s t : State} {off : Nat} (aligned : off % 4 = 0) :
    Differs s t off (off + 4) ↔ t.page off ≠ s.page off := by
  refine ⟨fun ⟨o, low, high, al, differs⟩ => ?_, fun differs => ⟨off, Nat.le_refl _, by omega, aligned, differs⟩⟩
  have same : o = off := by omega
  exact same ▸ differs

/-- A channel's record changed, or the bank that its TABLE names (R142). -/
def Recalibrated (s t : State) (k : Fin 8) : Prop := Differs s t (chanOff k.val 0) (chanOff k.val 64) ∨
  (t.page.table k.val < 16 ∧ Differs s t (tableOff (t.page.table k.val) 0) (tableOff (t.page.table k.val) 33))

/-- What unseeds DRY (R142). -/
def DryUnseeded (s t : State) : Prop := s.page.dryConfigured ≠ t.page.dryConfigured ∨
  ∃ k, Recalibrated s t k ∧ ∃ role ∈ [roleBw, roleMoist],
    s.page.roleChannel role = some k ∨ t.page.roleChannel role = some k

/-- A cue's channel is another, or its record changed (R182). -/
def CueMoved (s t : State) (role : Word) : Prop := s.page.roleChannel role ≠ t.page.roleChannel role ∨
  ∃ k, t.page.roleChannel role = some k ∧ Differs s t (chanOff k.val 0) (chanOff k.val 64)

section Changed

variable (check : validatePage s.staged = none)
include check

theorem end_page : PagesAgree (handoff s).after s.applyNow.endEvent.page := fun _ low =>
  (applyNow_page check low).trans (page_of_sameBytes (s := { s with mem := copied s })
    (acceptApply_sameBytes s (.inl (by decide))) low).symm

theorem changed_within {lo hi : Nat} (high : hi ≤ 0x4000) :
    (handoff s).changes.within lo hi = true ↔ Differs s s.applyNow.endEvent lo hi := by
  refine (within_changedOffsets lo hi).trans (exists_congr fun off => and_congr_right fun _ =>
    and_congr_right fun below => and_congr_right fun aligned => ?_)
  rw [applyNow_page check (by omega)]

theorem changed_has {off : Nat} (aligned : off % 4 = 0) (low : off + 4 ≤ 0x4000) :
    (handoff s).changes.has off = true ↔ s.applyNow.endEvent.page off ≠ s.page off := by
  rw [applyNow_page check low, ← mem_changedOffsets aligned]
  exact List.any_eq_true.trans ⟨fun ⟨o, mem, same⟩ => eq_of_beq same ▸ mem, fun mem => ⟨off, mem, beq_self_eq_true off⟩⟩

theorem changed_channel (k : Fin 8) : (handoff s).changes.channel k = true ↔
    Differs s s.applyNow.endEvent (chanOff k.val 0) (chanOff k.val 64) :=
  changed_within check (by have bound := k.isLt; unfold chanOff; omega)

theorem unseeds_iff (k : Fin 8) : (handoff s).unseeds k = true ↔ Recalibrated s s.applyNow.endEvent k := by
  rw [ApplyHandoff.unseeds, Bool.or_eq_true, Bool.and_eq_true, decide_eq_true_eq, changed_channel check,
    ← agree_table (end_page check) k]
  refine or_congr Iff.rfl (and_congr_right fun small => changed_within check ?_)
  unfold tableOff
  omega

theorem unseedsRole_iff (role : Word) : (handoff s).unseedsRole role = true ↔ ∃ k, Recalibrated s s.applyNow.endEvent k ∧
    (s.page.roleChannel role = some k ∨ s.applyNow.endEvent.page.roleChannel role = some k) := by
  have names : ∀ o : Option (Fin 8), o.any (handoff s).unseeds = true ↔
      ∃ k, Recalibrated s s.applyNow.endEvent k ∧ o = some k := fun o => by
    rw [Option.any_eq_true]
    exact exists_congr fun k => and_comm.trans (and_congr_left fun _ => unseeds_iff check k)
  rw [ApplyHandoff.unseedsRole, Bool.or_eq_true, ← agree_roleChannel (end_page check), names, names, ← exists_or]
  exact exists_congr fun k => and_or_left.symm

theorem unseedsDry_iff : (handoff s).unseedsDry = true ↔ DryUnseeded s s.applyNow.endEvent := by
  have roles : ∀ f : Word → Prop, (f roleBw ∨ f roleMoist) ↔ ∃ role ∈ [roleBw, roleMoist], f role := fun f => by simp
  have dry : ((handoff s).before.dryConfigured != (handoff s).after.dryConfigured) = true ↔
      s.page.dryConfigured ≠ s.applyNow.endEvent.page.dryConfigured := by
    rw [bne_iff_ne, agree_dryConfigured (end_page check)]
    rfl
  rw [ApplyHandoff.unseedsDry, Bool.or_eq_true, Bool.or_eq_true, unseedsRole_iff check, unseedsRole_iff check, dry,
    DryUnseeded, or_comm, ← exists_or]
  refine or_congr Iff.rfl (exists_congr fun k => ?_)
  rw [← roles, ← and_or_left]

theorem rereferenced_iff (k : Fin 8) : (handoff s).changes.rereferenced k = true ↔
    ∃ r ∈ [0x00, 0x04, 0x08, 0x0C], s.applyNow.endEvent.page (chanOff k.val r) ≠ s.page (chanOff k.val r) := by
  have bound := k.isLt
  have word : ∀ r, r % 4 = 0 → r < 64 → ((handoff s).changes.has (chanOff k.val r) = true ↔
      s.applyNow.endEvent.page (chanOff k.val r) ≠ s.page (chanOff k.val r)) := fun r aligned low =>
    changed_has check (by unfold chanOff; omega) (by unfold chanOff; omega)
  rw [Changes.rereferenced, Bool.or_eq_true, Bool.or_eq_true, Bool.or_eq_true, word _ rfl (by decide),
    word _ rfl (by decide), word _ rfl (by decide), word _ rfl (by decide)]
  simp only [List.mem_cons, List.not_mem_nil, or_false, exists_eq_or_imp, exists_eq_left, or_assoc]

theorem reseeds_iff : reseeds (handoff s) = true ↔
    Differs s s.applyNow.endEvent 0x038 0x03C ∨ Differs s s.applyNow.endEvent 0x044 0x048 := by
  rw [reseeds, Bool.or_eq_true, changed_has check rfl (by decide), changed_has check rfl (by decide),
    ← differs_word rfl, ← differs_word rfl]

theorem countFalls_iff (role : Word) : countFalls (handoff s) role = true ↔
    Differs s s.applyNow.endEvent 0x540 0x558 ∨ CueMoved s s.applyNow.endEvent role := by
  rw [countFalls, ApplyHandoff.cueChannelChanged, Bool.or_eq_true, Bool.or_eq_true, decide_eq_true_eq,
    ← agree_roleChannel (end_page check), CueMoved]
  refine or_congr (changed_within check (by decide)) (or_congr Iff.rfl ?_)
  cases s.applyNow.endEvent.page.roleChannel role with
  | none => exact iff_of_false Bool.false_ne_true nofun
  | some k =>
    refine (changed_channel check k).trans ⟨fun changed => ⟨k, rfl, changed⟩, ?_⟩
    rintro ⟨d, same, changed⟩
    exact Option.some.inj same ▸ changed

theorem left_iff (k : Fin 9) : leaves (handoff s) k ↔
    k ∈ s.page.channelSet ∧ k ∉ s.applyNow.endEvent.page.channelSet := by
  rw [leaves_iff, agree_channelSet (end_page check)]
  rfl

end Changed

end Sys2Proof.Proofs
end

section
/-!
PROOFS. What each block does with an accepted apply (O26).
-/
namespace Sys2Proof.Proofs

open Sys2Proof.Machine Sys2Proof.Laws

-- One proof after another: threads that wait for each other count against the memory limit of the check.
set_option Elab.async false

variable {s : State}

/-! ## Conditions at the reactions, in the words of the end of the event -/

/-- The LINE cue fires at the apply (R173, R182). -/
def FiresAtApply (s t : State) : Prop := (s.brk.armed = true ∧ t.page.cueEnables ≠ 0) ∧ t.page.cueLine = true ∧
  s.brk.line = true ∧ (s.brk.state = .disarmed ∨ s.page.cueLine = false)

section Conditions

variable (check : validatePage s.staged = none)
include check

theorem atMonitor_cues : (atMonitor s).page.cueEnables = s.applyNow.endEvent.page.cueEnables ∧
    (atMonitor s).page.cueLine = s.applyNow.endEvent.page.cueLine := by
  obtain ⟨enables, line⟩ := agree_cues (atMonitor_page s)
  obtain ⟨enables', line'⟩ := agree_cues (end_page check)
  exact ⟨enables.trans enables'.symm, line.trans line'.symm⟩

theorem atMonitor_watches : (atMonitor s).watches = true ↔
    s.brk.armed = true ∧ s.applyNow.endEvent.page.cueEnables ≠ 0 := by
  rw [State.watches, Bool.and_eq_true, decide_eq_true_eq, atMonitor_brk, (atMonitor_cues check).1]

theorem atMonitor_state : watchState (atMonitor s) =
    if s.brk.armed = true ∧ s.applyNow.endEvent.page.cueEnables ≠ 0 then .watch else .disarmed :=
  if_congr (atMonitor_watches check) rfl rfl

theorem lineFires_iff : LineFires (handoff s) (atMonitor s) ↔ FiresAtApply s s.applyNow.endEvent := by
  rw [LineFires, FiresAtApply, atMonitor_watches check, atMonitor_brk, (agree_cues (end_page check)).2]
  rfl

theorem atMonitor_lineClear : (atMonitor s).lineClear = true ↔
    s.applyNow.endEvent.page.cueLine = false ∨ s.brk.line = false := by
  rw [State.lineClear, atMonitor_brk, (atMonitor_cues check).2, Bool.or_eq_true, Bool.not_eq_true', Bool.not_eq_true']

/-- The bounds that the traverse controller compares with are those of the new page (R66). -/
theorem binned_overtravelled (homed : s.trav.homed = true) (std : s.trav.head ≠ .standardizing)
    (outside : s.pos < -(s.applyNow.endEvent.page.homeMargin : Int) - 1000 ∨ s.applyNow.endEvent.page.pEnd < s.pos) :
    (binned (handoff s) s.acceptApply).overtravelled = true := by
  have agree : PagesAgree (handoff s).after (binned (handoff s) s.acceptApply).page := fun _ low =>
    page_of_sameBytes ((applyLink_keeps .drive _ _).trans (applyBinning_keeps (by decide) _ _)).page low
  obtain ⟨margin, stop⟩ := agree_bounds agree
  obtain ⟨margin', stop'⟩ := agree_bounds (end_page check)
  rw [State.overtravelled, State.pos, binned_trav, margin, stop, ← margin', ← stop', homed, decide_eq_true std]
  simp only [Bool.true_and, Bool.or_eq_true, decide_eq_true_eq]
  exact outside

end Conditions

/-! ## O26 -/

section Clauses

variable (check : validatePage s.staged = none)
include check

/-- The head link controller (R44). -/
theorem end_link :
    s.applyNow.endEvent.link.up = s.link.up ∧
    (Differs s s.applyNow.endEvent 0x080 0x088 →
      s.applyNow.endEvent.link.lossCount = 0 ∧ s.applyNow.endEvent.link.goodRun = 0) ∧
    (¬ Differs s s.applyNow.endEvent 0x080 0x088 → s.applyNow.endEvent.link.lossCount = s.link.lossCount ∧
      s.applyNow.endEvent.link.goodRun = s.link.goodRun) := by
  obtain ⟨up, zero, same⟩ := applied_link check
  have group : (handoff s).changes.link = true ↔ _ := changed_within check (by decide)
  exact ⟨up, fun changed => zero (group.2 changed), fun no => same (Bool.eq_false_iff.2 (mt group.1 no))⟩

variable (calm : s.brk.state ≠ .broken)
include calm

/-- A channel's live value and validity (R103). -/
theorem end_shown (k : Fin 9) :
    let t := s.applyNow.endEvent
    let left := k ∈ s.page.channelSet ∧ k ∉ t.page.channelSet
    (left → t.liveWord (0x080 + 4 * k.val) = 0 ∧ t.liveWord (0x0C0 + 4 * k.val) = 0) ∧
      (¬ left → t.liveWord (0x080 + 4 * k.val) = s.liveWord (0x080 + 4 * k.val) ∧
        t.liveWord (0x0C0 + 4 * k.val) = s.liveWord (0x0C0 + 4 * k.val)) := by
  obtain ⟨gone, stays⟩ := applied_shown check calm k
  rw [left_iff check] at gone stays
  exact ⟨fun left => Prod.ext_iff.1 (gone left), fun no => Prod.ext_iff.1 (stays no)⟩

/-- A channel's reference, untried mark and STD_FAULT entry (R107). -/
theorem end_refs (k : Fin 8) :
    let t := s.applyNow.endEvent
    let rereferenced := ∃ r ∈ [0x00, 0x04, 0x08, 0x0C], t.page (chanOff k.val r) ≠ s.page (chanOff k.val r)
    (rereferenced → t.std.refs[k] = { value := 0, check := 0, accepted := false } ∧
        t.std.untried[k] = t.page.enabled k.val ∧ t.alarms[stdFaultAlarm k].active = false) ∧
      (¬ rereferenced → t.std.refs[k] = s.std.refs[k] ∧ t.std.untried[k] = s.std.untried[k] ∧
        t.alarms[stdFaultAlarm k] = s.alarms[stdFaultAlarm k]) := by
  intro t rereferenced
  obtain ⟨falls, stays⟩ := applied_refs check calm k
  refine ⟨fun changed => ?_, fun no => ?_⟩
  · have fallen := falls ((rereferenced_iff check k).2 changed)
    exact ⟨fallen.ref, fallen.untried.trans (agree_enabled (end_page check) k).symm, fallen.normal⟩
  · have same := stays (Bool.eq_false_iff.2 (mt (rereferenced_iff check k).1 no))
    exact ⟨congrArg Prod.fst same, congrArg (fun v => v.2.1) same, congrArg (fun v => v.2.2) same⟩

/-- The edges of the plan (R138). -/
theorem end_edges :
    let t := s.applyNow.endEvent
    (Differs s t 0x020 0x080 → t.bin.edgeFront = t.page.eFront ∧ t.bin.edgeBack = t.page.eBack ∧
        t.bin.missFront = 0 ∧ t.bin.missBack = 0 ∧ ∀ side, t.alarms[edgeLostAlarm side].active = false) ∧
      (¬ Differs s t 0x020 0x080 → t.bin.edgeFront = s.bin.edgeFront ∧ t.bin.edgeBack = s.bin.edgeBack ∧
        t.bin.missFront = s.bin.missFront ∧ t.bin.missBack = s.bin.missBack) := by
  intro t
  have group : (handoff s).changes.plan = true ↔ Differs s t 0x020 0x080 := changed_within check (by decide)
  obtain ⟨reset, same⟩ := applied_edges check calm
  obtain ⟨front, back⟩ := agree_edges (end_page check)
  refine ⟨fun changed => ?_, fun no => same (Bool.eq_false_iff.2 (mt group.1 no))⟩
  have edges := reset (group.2 changed)
  exact ⟨edges.front.trans front.symm, edges.back.trans back.symm, edges.missFront, edges.missBack, edges.normal⟩

/-- The filters (R142). -/
theorem end_filters :
    let t := s.applyNow.endEvent
    let reseeded := Differs s t 0x038 0x03C ∨ Differs s t 0x044 0x048
    (∀ k : Fin 8,
      (reseeded ∨ Recalibrated s t k → t.filters[k.castSucc] = { }) ∧
        (¬ reseeded → ¬ Recalibrated s t k → t.filters[k.castSucc] = s.filters[k.castSucc])) ∧
      (reseeded ∨ DryUnseeded s t → t.filters[dryChannel] = { }) ∧
      (¬ reseeded → ¬ DryUnseeded s t → t.filters[dryChannel] = s.filters[dryChannel]) := by
  intro t reseeded
  obtain ⟨all, others⟩ := applied_filters check calm
  have seeds : reseeds (handoff s) = true ↔ reseeded := reseeds_iff check
  have one : ∀ k : Fin 9, ∀ (b : Bool) (P : Prop), (b = true ↔ P) →
      (reseeds (handoff s) = false → t.filters[k] = if b = true then { } else s.filters[k]) →
      (reseeded ∨ P → t.filters[k] = { }) ∧ (¬ reseeded → ¬ P → t.filters[k] = s.filters[k]) := by
    intro k b P iff own
    refine ⟨fun cause => ?_, fun no other => (own (Bool.eq_false_iff.2 (mt seeds.1 no))).trans (if_neg (mt iff.1 other))⟩
    cases seeded : reseeds (handoff s) with
    | true => exact all seeded k
    | false =>
      have holds : P := cause.resolve_left fun yes => Bool.false_ne_true (seeded.symm.trans (seeds.2 yes))
      exact (own seeded).trans (if_pos (iff.2 holds))
  exact ⟨fun k => one k.castSucc _ _ (unseeds_iff check k) fun none => (others none).1 k,
    one dryChannel _ _ (unseedsDry_iff check) fun none => (others none).2⟩

/-- The scan entries (R168). -/
theorem end_entries (k : Fin 9) (kind : Fin 4) :
    let t := s.applyNow.endEvent
    let left := k ∈ s.page.channelSet ∧ k ∉ t.page.channelSet
    let e := s.alarms[scanAlarm k kind]
    let e' := t.alarms[scanAlarm k kind]
    let changed := Differs s t (limitOff k.val 0) (limitOff k.val 64)
    (changed ∨ left → e'.violationStreak = 0 ∧ e'.clearStreak = 0 ∧ e'.timesRaised = e.timesRaised ∧
      e'.lastValue = e.lastValue ∧
      (left ∨ t.page.kindEnabled k.val kind.val = false → e'.active = false) ∧
      (¬ left → t.page.kindEnabled k.val kind.val = true → e'.active = e.active)) ∧
    (¬ changed → ¬ left → e' = e) := by
  intro t left e e' changed
  obtain ⟨record, gone, stays⟩ := applied_limits check calm k kind
  have limit : (handoff s).changes.limit k = true ↔ changed :=
    changed_within check (by have bound := k.isLt; unfold limitOff; omega)
  have leaving : leaves (handoff s) k ↔ left := left_iff check k
  rw [leaving] at record gone stays
  rw [← agree_kindEnabled (end_page check)] at record
  refine ⟨fun cause => ?_, fun no => stays (Bool.eq_false_iff.2 (mt limit.1 no))⟩
  by_cases leftSet : left
  · have reset := gone leftSet
    exact ⟨reset.violation, reset.clearing, reset.times, reset.value, fun _ => reset.active, fun no => absurd leftSet no⟩
  · have reset := record (limit.2 (cause.resolve_right leftSet)) leftSet
    refine ⟨reset.violation, reset.clearing, reset.times, reset.value, fun off => ?_, fun _ on => ?_⟩
    · rw [show e'.active = _ from reset.active, off.resolve_left leftSet]
      rfl
    · rw [show e'.active = _ from reset.active, on]
      rfl

/-- The break monitor outside BROKEN (R173, R182). -/
theorem end_monitor :
    let t := s.applyNow.endEvent
    let watches := s.brk.armed = true ∧ t.page.cueEnables ≠ 0
    (Differs s t 0x540 0x558 ∨ CueMoved s t roleBw → t.brk.lowCount = 0) ∧
    (Differs s t 0x540 0x558 ∨ CueMoved s t roleLight → t.brk.openCount = 0) ∧
    (¬ FiresAtApply s t → t.brk.number = s.brk.number ∧ (watches → t.brk.state = .watch) ∧
      (¬ watches → t.brk.state = .disarmed) ∧
      (s.brk.state = t.brk.state → ¬ Differs s t 0x540 0x558 →
        (¬ CueMoved s t roleBw → t.brk.lowCount = s.brk.lowCount) ∧
        (¬ CueMoved s t roleLight → t.brk.openCount = s.brk.openCount))) ∧
    (FiresAtApply s t → t.brk.state = .broken ∧ t.brk.number = s.brk.number + 1 ∧ t.brk.newest = s.brk.newest + 1 ∧
      t.noticeSet .brk = true ∧ t.arb.goal = .park ∧
      readWord t.mem (historyBase + 64 * (s.brk.newest + 1).val + 20) = 4) := by
  intro t watches
  have took : MonitorTook (handoff s) (atMonitor s) t := applied_monitor check calm
  have same := atMonitor_brk s
  have unmoved : ∀ role, ¬ Differs s t 0x540 0x558 → ¬ CueMoved s t role → countFalls (handoff s) role = false :=
    fun role group cue => Bool.eq_false_iff.2 (mt (countFalls_iff check role).1 (not_or.2 ⟨group, cue⟩))
  refine ⟨fun cause => took.low ((countFalls_iff check _).2 cause),
    fun cause => took.opened ((countFalls_iff check _).2 cause), fun no => ?_, fun yes => ?_⟩
  · obtain ⟨number, state, counts⟩ := took.watches (mt (lineFires_iff check).1 no)
    rw [atMonitor_state check] at state
    rw [same] at number counts
    refine ⟨number, fun on => state.trans (if_pos on), fun off => state.trans (if_neg off), fun stays group => ?_⟩
    obtain ⟨low, opened⟩ := counts stays
    exact ⟨fun cue => low (unmoved _ group cue), fun cue => opened (unmoved _ group cue)⟩
  · have declared := took.fires ((lineFires_iff check).2 yes)
    have number := declared.number
    have newest := declared.newest
    have entry := declared.entry
    rw [same] at number newest entry
    exact ⟨declared.state, number, newest, declared.notice, declared.goal, entry⟩

end Clauses

/-- Settles O26. -/
theorem applyReactions : Obligations.ApplyReactions := by
  intro c s sound ready scan std taken check
  refine ⟨fun calm => ?_, fun broken => ?_⟩
  · refine completes_applyNow ready scan std taken ?_
    obtain ⟨edges, noEdges⟩ := end_edges check calm
    obtain ⟨filters, dry, noDry⟩ := end_filters check calm
    have sense := changed_has check (off := 0x058) rfl (by decide)
    refine ⟨end_link check, fun homed moved => applied_unhomed check calm homed (sense.2 moved),
      fun homed stays plan outside => ?_, end_shown check calm, end_refs check calm, edges, noEdges, filters, dry, noDry,
      end_entries check calm, end_monitor check calm⟩
    exact applied_overtravel check calm (Bool.eq_false_iff.2 fun moved => sense.1 moved stays)
      ((changed_within check (by decide)).2 plan) (binned_overtravelled check homed std outside)
  · refine completes_applyNow ready scan std taken ?_
    obtain ⟨resumes, stands⟩ := applied_broken check broken
    rw [atMonitor_lineClear check, atMonitor_state check] at resumes
    refine ⟨resumes, fun waits => stands (waits.imp_right fun ⟨on, line⟩ => ?_)⟩
    rw [Bool.eq_false_iff, ne_eq, atMonitor_lineClear check]
    rintro (off | clear)
    · exact Bool.false_ne_true (off.symm.trans on)
    · exact Bool.false_ne_true (clear.symm.trans line)

end Sys2Proof.Proofs
end

section
/-!
PROOFS. The drive interval by itself, the field inputs and the dwell timer (R47, R49 to R53, R56, R58, R60, R123).
-/
namespace Sys2Proof.Proofs

open Sys2Proof.Machine Sys2Proof.Laws

-- One proof after another: threads that wait for each other count against the memory limit of the check.
set_option Elab.async false

variable {s t u : State}

/-! ## Target and arrival by the motion of the head state (R50, R51, R53) -/

/-- A nonzero target is at least MIN_DUTY (R51). -/
def raisedDuty (p : Page) (t : Nat) : Nat := if t = 0 then 0 else max t p.minDuty

theorem raiseTarget_eq (p : Page) (t : Nat) : raiseTarget p.minDuty t = raisedDuty p t := by
  unfold raiseTarget raisedDuty
  split <;> split <;> omega

/-- The way left to a stop point in a direction (R51). -/
def wayLeft (s : State) (want : Dir) (stop : Int) : Int := if want = .out then stop - s.pos else s.pos - stop

theorem distanceToGo_eq (want : Dir) (stop : Int) (s : State) : distanceToGo want stop s.pos = wayLeft s want stop := by
  cases want <;> rfl

/-- When an arrival is due (R53). -/
theorem arrivalDue_iff (b : Bool) (s : State) :
    s.arrivalDue b = true ↔
      s.arrivalState = true ∧ (b = true ∨ s.trav.head = .stopping) ∧ s.trav.duty = 0 ∧ 5 ≤ s.trav.stillness := by
  have limit : s.arrivalDue b = true ↔ s.arrivalState = true ∧ (b = true ∨ s.trav.head = .stopping) ∧ s.trav.duty = 0 ∧
      Config.stillnessLimit ≤ s.trav.stillness := by
    simp [State.arrivalDue, and_assoc]
  exact limit

/-- A head that moves toward a stop point: its direction, its target duty, and when its arrival is due. -/
structure MovesToward (s : State) (want : Dir) (stop : Int) (cruise : Nat) : Prop where
  dir : s.motion.dir = want
  target : s.targetDuty.1 = (if s.trav.dir ≠ want then 0 else if wayLeft s want stop ≤ 0 then 0
    else if wayLeft s want stop ≤ s.page.slowZone then raisedDuty s.page s.page.creepDuty else raisedDuty s.page cruise)
  arrival : s.arrivalDue s.targetDuty.2 = true ↔
    s.trav.dir = want ∧ wayLeft s want stop ≤ 0 ∧ s.trav.duty = 0 ∧ 5 ≤ s.trav.stillness

theorem movesToward {want : Dir} {stop : Int} {cruise : Nat}
    (motion : s.motion = { dir := want, stop := some stop, cruise := some cruise }) (ends : s.arrivalState = true)
    (other : s.trav.head ≠ .stopping) : MovesToward s want stop cruise := by
  have target : s.targetDuty = (if s.trav.dir ≠ want then (0, false) else if wayLeft s want stop ≤ 0 then (0, true)
      else if wayLeft s want stop ≤ s.page.slowZone then (raisedDuty s.page s.page.creepDuty, false)
      else (raisedDuty s.page cruise, false)) := by
    simp only [State.targetDuty, motion, raiseTarget_eq, distanceToGo_eq, ne_comm]
  refine ⟨by rw [motion], ?_, (arrivalDue_iff _ s).trans ?_⟩ <;> rw [target]
  · split_ifs <;> rfl
  · split_ifs with along reached near <;> simp_all

/-- A head that no motion moves has target 0 (R50, R51). -/
theorem targetDuty_still (motion : s.motion.cruise = none) : s.targetDuty = (0, false) := by
  simp only [State.targetDuty, motion]

theorem motion_atRest (rest : s.trav.head.atRest = true ∨ s.trav.head = .stopping) :
    s.motion = { dir := s.trav.dir, stop := none, cruise := none } := by
  unfold State.motion
  cases head : s.trav.head with
  | homing | outbound | inbound | movingToHold | returning => simp [head, HeadState.atRest] at rest
  | unhomed | parked | standing | standardizing | turning | holding | stopping | faulted => rfl

theorem arrivalState_atRest (rest : s.trav.head.atRest = true) : s.arrivalState = false := by
  unfold State.arrivalState
  cases head : s.trav.head with
  | homing | outbound | inbound | movingToHold | returning | stopping => simp [head, HeadState.atRest] at rest
  | unhomed | parked | standing | standardizing | turning | holding | faulted => rfl

/-- Motion, target and arrival in every head state. -/
theorem motion_byHeadState (s : State) :
    (s.trav.head = .homing → s.trav.homed = false → s.motion.dir = .inn ∧
      s.targetDuty.1 = (if s.trav.dir = .inn then raisedDuty s.page s.page.homeDuty else 0) ∧
      s.arrivalDue s.targetDuty.2 = false) ∧
    (s.trav.head = .homing → s.trav.homed = true → MovesToward s .out 0 s.page.homeDuty) ∧
    (s.trav.head = .outbound → MovesToward s .out s.page.bTurn s.page.cruiseDuty) ∧
    (s.trav.head = .inbound → MovesToward s .inn s.page.fTurn s.page.cruiseDuty) ∧
    (s.trav.head = .movingToHold → MovesToward s s.trav.motionDir s.ex.holdPos s.page.cruiseDuty) ∧
    (s.trav.head = .returning → MovesToward s s.trav.motionDir 0 s.page.returnDuty) ∧
    (s.trav.head = .stopping → s.motion.dir = s.trav.dir ∧ s.targetDuty.1 = 0 ∧
      (s.arrivalDue s.targetDuty.2 = true ↔ s.trav.duty = 0 ∧ 5 ≤ s.trav.stillness)) ∧
    (s.trav.head.atRest = true → s.motion.dir = s.trav.dir ∧ s.targetDuty.1 = 0 ∧
      s.arrivalDue s.targetDuty.2 = false) := by
  refine ⟨fun head homed => ?_, fun head homed => ?_, fun head => ?_, fun head => ?_, fun head => ?_, fun head => ?_,
    fun head => ?_, fun rest => ?_⟩
  · have motion : s.motion = { dir := .inn, stop := none, cruise := some s.page.homeDuty } := by
      simp [State.motion, head, homed]
    refine ⟨by rw [motion], ?_, by simp [State.arrivalDue, State.arrivalState, head, homed]⟩
    simp only [State.targetDuty, motion, raiseTarget_eq]
    cases s.trav.dir <;> rfl
  · exact movesToward (by simp [State.motion, head, homed]) (by simp [State.arrivalState, head, homed]) (by simp [head])
  iterate 4 exact movesToward (by simp [State.motion, head]) (by simp [State.arrivalState, head]) (by simp [head])
  · have motion := motion_atRest (.inr head)
    refine ⟨by rw [motion], by rw [targetDuty_still (by rw [motion])], ?_⟩
    rw [arrivalDue_iff]
    simp [State.arrivalState, head]
  · have motion := motion_atRest (.inl rest)
    exact ⟨by rw [motion], by rw [targetDuty_still (by rw [motion])],
      by rw [State.arrivalDue, arrivalState_atRest rest]; rfl⟩

/-- The direction is fixed at the entry, toward the stop point (R50). -/
theorem setHead_motionDir (h : HeadState) (s : State) : (s.setHead h).trav.motionDir = s.trav.motionDir := by
  unfold State.setHead
  split <;> rfl

/-! ## One expiry (R49, R52) -/

/-- A state in which the pins and the drive alone moved, the head state not, waits for nothing at the end of its event. -/
theorem setDrive_settled (settled : s.Settled) (pins : Pins) {tr : Traverse} (head : tr.head = s.trav.head) :
    ({ s with pins := pins, trav := tr } : State).Settled :=
  settled_congr settled rfl head rfl rfl rfl rfl

/-- An expiry after which neither a stall nor an arrival is due is the drive's step alone. -/
theorem driveExpiry_step (stall : s.driveStep.stallDue = false) (arrival : s.driveStep.arrivalDue s.targetDuty.2 = false) :
    s.driveExpiry = s.driveStep := by
  simp [State.driveExpiry, stall, arrival]

theorem rampDuty_eq (ramp target d : Nat) :
    (d < target → rampDuty ramp target d = min (d + ramp) target) ∧
      (target ≤ d → rampDuty ramp target d = max (d - ramp) target) := by
  unfold rampDuty
  exact ⟨fun up => if_pos up, fun down => if_neg (Nat.not_lt.2 down)⟩

/-- Settles O47: the target and the arrival by the head state's motion; an expiry is the drive's step. -/
theorem driveInterval : Obligations.DriveInterval := by
  refine ⟨fun s => ?_, fun s sound ready stall arrival => ?_⟩
  · obtain ⟨unhomed, homed, outbound, inbound, toHold, returning, stopping, rest⟩ := motion_byHeadState s
    have parts : ∀ {want stop cruise}, MovesToward s want stop cruise → _ ∧ _ ∧ _ := fun m => ⟨m.dir, m.target, m.arrival⟩
    refine ⟨unhomed, fun head known => parts (homed head known), fun head => parts (outbound head),
      fun head => parts (inbound head), fun head => parts (toHold head), fun head => parts (returning head), stopping, rest,
      setHead_motionDir _ _, setHead_head _ _, setHead_motionDir _ _, setHead_head _ _⟩
  · obtain ⟨up, down⟩ := rampDuty_eq s.page.ramp s.targetDuty.1 s.trav.duty
    refine completes_rest rfl ready (driveExpiry_step stall arrival) (setDrive_settled sound.settled s.pins rfl)
      ⟨up, down, rfl, rfl, ?_, ?_, rfl, rfl⟩
    · exact if_congr decide_eq_true_iff rfl rfl
    · refine if_congr ?_ rfl rfl
      simp [and_assoc]

/-! ## The field inputs (R47, R56, R65) -/

theorem fieldActive_held (i : FieldInput) (f : State → State) (active : s.pins.field i = true) :
    s.fieldActive i f = s := if_pos active

theorem fieldActive_inactive (i : FieldInput) (f : State → State) (inactive : s.pins.field i = false) :
    s.fieldActive i f = ({ s with pins := s.pins.setField i true } : State).event f :=
  if_neg (by rw [inactive]; exact Bool.false_ne_true)

/-- While STARTING an edge moves the pin's own level (R47, R71). -/
theorem fieldActive_starting (i : FieldInput) (f : State → State) (starting : s.ex.life = .starting)
    (inactive : s.pins.field i = false) : s.fieldActive i f = { s with pins := s.pins.setField i true } := by
  rw [fieldActive_inactive i f inactive]
  exact event_starting _ f starting

/-- An edge that moves the drive's registers alone, and not the head state. -/
theorem fieldActive_drive {i : FieldInput} {f : State → State} {tr : Traverse} (sound : s.Sound)
    (ready : s.ex.life = .ready) (inactive : s.pins.field i = false) (head : tr.head = s.trav.head)
    (moved : f { s with pins := s.pins.setField i true } = { s with pins := s.pins.setField i true, trav := tr }) :
    s.fieldActive i f = { s with pins := s.pins.setField i true, trav := tr } := by
  rw [fieldActive_inactive i f inactive]
  refine (event_ready { s with pins := s.pins.setField i true } f ready).trans ?_
  rw [moved]
  exact endEvent_of_settled _ (setDrive_settled sound.settled _ head)

/-- The front switch in HOMING sets the position (R56). -/
theorem frontLimEvent_homing (homing : s.trav.head = .homing) (unknown : s.trav.homed = false) :
    s.frontLimEvent = { s with trav := { s.trav with
      frontLim := true, homed := true, position := Word.ofSigned (-(s.page.homeMargin : Int)) } } := by
  simp only [State.frontLimEvent, homing, unknown, HeadState.frontLimChecked]
  rfl

/-- The front switch where it is neither checked nor sets the position. -/
theorem frontLimEvent_level (unchecked : s.trav.head.frontLimChecked = false)
    (known : s.trav.head = .homing → s.trav.homed = true) :
    s.frontLimEvent = { s with trav := { s.trav with frontLim := true } } := by
  have no : ¬ (s.trav.head = .homing ∧ s.trav.homed = false) := fun ⟨head, homed⟩ => by
    rw [known head] at homed
    cases homed
  simp [State.frontLimEvent, unchecked, no]

theorem backLimEvent_level (unchecked : s.trav.head.backLimChecked = false) :
    s.backLimEvent = { s with trav := { s.trav with backLim := true } } := by
  simp [State.backLimEvent, unchecked]

theorem drvFaultEvent_level (unchecked : s.trav.head.driveChecked = false) :
    s.drvFaultEvent = { s with trav := { s.trav with drvFault := true } } := by
  simp [State.drvFaultEvent, unchecked]

/-- Settles O50: an edge that takes no fault moves the pin and the kept level, and in HOMING sets the position. -/
theorem fieldInputs : Obligations.FieldInputs := by
  intro s sound
  refine ⟨fun ready pin homing unknown => ?_, fun ready pin head => ?_, fun ready pin head => ?_,
    fun ready pin head => ?_, fun starting pin => ?_, fun starting pin => ?_, fun starting pin => ?_, fun pin => ?_,
    fun pin => ?_, fun pin => ?_, fun i => ?_⟩
  · exact congrArg Host.Outcome.next (fieldActive_drive (i := .frontLim) sound ready pin rfl
      (frontLimEvent_homing homing unknown))
  · refine congrArg Host.Outcome.next (fieldActive_drive (i := .frontLim) sound ready pin rfl (frontLimEvent_level ?_ ?_))
    · rcases head with head | head | head | ⟨head, -⟩ <;> exact congrArg HeadState.frontLimChecked head
    · intro homing
      rcases head with head | head | head | ⟨-, known⟩
      iterate 3 cases homing.symm.trans head
      exact known
  · refine congrArg Host.Outcome.next (fieldActive_drive (i := .backLim) sound ready pin rfl (backLimEvent_level ?_))
    rcases head with head | head | head <;> exact congrArg HeadState.backLimChecked head
  · refine congrArg Host.Outcome.next (fieldActive_drive (i := .drvFault) sound ready pin rfl (drvFaultEvent_level ?_))
    rcases head with head | head <;> exact congrArg HeadState.driveChecked head
  · exact congrArg Host.Outcome.next (fieldActive_starting .frontLim _ starting pin)
  · exact congrArg Host.Outcome.next (fieldActive_starting .backLim _ starting pin)
  · exact congrArg Host.Outcome.next (fieldActive_starting .drvFault _ starting pin)
  · exact congrArg Host.Outcome.next (fieldActive_held .frontLim _ pin)
  · exact congrArg Host.Outcome.next (fieldActive_held .backLim _ pin)
  · exact congrArg Host.Outcome.next (fieldActive_held .drvFault _ pin)
  · refine ⟨_, rfl, ?_⟩
    split_ifs <;> cases i <;> exact ⟨rfl, rfl, rfl⟩

/-! ## A departure and its scan (R58, R123) -/

/-- What an event leaves that starts no standardize: the command word takes the demand, and nothing else moves (R35). -/
structure CommandTaken (w t : State) : Prop where
  frame : t = { w with link := t.link }
  shutter : t.link.shutter = w.shutterDemand
  ref : t.link.ref = w.refDemand

theorem endEvent_commandTaken (rest : s.stdStartDue = false) : CommandTaken s s.endEvent := by
  obtain ⟨shutter, ref⟩ := endEvent_carries s
  have frame := endEvent_frame rest
  have demands : s.endEvent.shutterDemand = s.shutterDemand ∧ s.endEvent.refDemand = s.refDemand := by
    rw [frame]
    exact ⟨rfl, rfl⟩
  exact ⟨frame, shutter.trans demands.1, ref.trans demands.2⟩

theorem CommandTaken.liveWord (taken : CommandTaken s t) (off : Nat) : t.liveWord off = s.liveWord off := by
  unfold State.liveWord
  rw [taken.frame]

/-- Only a PARKED head starts a standardize (R111). -/
theorem stdStartDue_of_head (other : s.trav.head ≠ .parked) : s.stdStartDue = false := by
  simp [State.stdStartDue, other]

theorem setHead_pagesAgree (h : HeadState) (s : State) : PagesAgree s.page (s.setHead h).page := fun _ =>
  (setHead_liveAlone h s).page

/-- The scan that a departure opens (R123). -/
def openedScan (d : ScanDir) (s : State) : ScanCtx :=
  { dir := d, startTime := s.link.timeCounter, startPos := s.trav.position, front := s.bin.edgeFront
    back := s.bin.edgeBack, nBins := s.page.nBins
    chans := s.page.channelSet.map fun c => { chan := c, bins := List.replicate s.page.nBins { } }
    firstAfterBreak := s.bin.firstAfterBreak }

theorem openedScan_chans (d : ScanDir) (s : State) : (openedScan d s).chans.map ChanAcc.chan = s.page.channelSet :=
   (List.map_map ..).trans (List.map_id _)

theorem depart_bin (d : ScanDir) (s : State) :
    (s.depart d).bin = { s.bin with scan := some (openedScan d s), firstAfterBreak := false } := by
  have agree := setHead_pagesAgree d.headState s
  have bins : (s.setHead d.headState).page.nBins = s.page.nBins := congrArg BitVec.toNat (agree _ (by decide))
  show { (s.setHead d.headState).bin with
    scan := some (openedScan d (s.setHead d.headState)), firstAfterBreak := false } = _
  rw [openedScan, bins, agree_channelSet agree]
  simp [openedScan]

theorem depart_rest (d : ScanDir) (s : State) :
    (s.depart d).trav = (s.setHead d.headState).trav ∧ (s.depart d).ex = s.ex ∧ (s.depart d).arb = s.arb ∧
      (s.depart d).std = s.std ∧ (s.depart d).alarms = s.alarms ∧ (s.depart d).brk = s.brk :=
  ⟨rfl, State.setHead_ex .., State.setHead_arb .., State.setHead_std .., State.setHead_alarms .., State.setHead_brk ..⟩

theorem live_liveWord_other (off : Nat) (w : Word) (s : State) {o : Nat} (out : o + 4 ≤ off ∨ off + 4 ≤ o) :
    (s.live off w).liveWord o = s.liveWord o := readWord_writeWord_other _ _ _ _ (by omega)

/-- The live words of a departure: the head state, the scan mark and the start time (Table 11-7). -/
theorem depart_words {d : ScanDir} (other : s.trav.head ≠ d.headState) :
    (s.depart d).liveWord 0x038 = d.headState.code ∧ (s.depart d).liveWord 0x058 = 1 ∧
      (s.depart d).liveWord 0x05C = s.link.timeCounter := by
  refine ⟨?_, (depart_departed d s).shown, ?_⟩
  · have below : (s.depart d).liveWord 0x038 = (s.setHead d.headState).liveWord 0x038 :=
      (live_liveWord_other 0x05C _ _ (by decide)).trans (live_liveWord_other 0x058 _ _ (by decide))
    rw [below, setHead_of_ne other]
    exact live_liveWord 0x038 _ _
  · exact (live_liveWord 0x05C _ _).trans (congrArg HeadLink.timeCounter (State.setHead_link ..))

theorem headState_ne {h : HeadState} (still : h.traversing = false) (d : ScanDir) : h ≠ d.headState := by
  rintro rfl
  cases d <;> cases still

theorem headState_traversing (d : ScanDir) : d.headState.traversing = true := by cases d <;> rfl

/-- A head on a traverse demands the shutter (R69). -/
theorem shutterDemand_traversing (head : s.trav.head.traversing = true) : s.shutterDemand = true := by
  rcases traversing_iff.1 head with e | e <;> rw [State.shutterDemand, e] <;> rfl

theorem traverseFrom_eq (side : Side) : traverseFrom side = if side = .back then .inbound else .outbound := by
  cases side <;> rfl

/-- Settles O51: the dwell's end is a departure from the turn. -/
theorem dwellExpiry : Obligations.DwellExpiry := by
  refine fun s sound => ⟨fun ready turning running => ?_, fun rest => ?_⟩
  · let d := traverseFrom s.trav.turn
    have other : s.trav.head ≠ d.headState := headState_ne (by rw [turning]; rfl) d
    have due : s.dwellExpiry = s.depart d := if_pos ⟨turning, Option.isSome_iff_ne_none.2 running⟩
    obtain ⟨trav, ex, arb, -, alarms, brk⟩ := depart_rest d s
    have drive : (s.depart d).trav = entered d.headState s.trav := by rw [trav, setHead_of_ne other]; rfl
    have bin := depart_bin d s
    obtain ⟨word, shown, time⟩ := depart_words other
    have taken : CommandTaken (s.depart d) (s.depart d).endEvent :=
      endEvent_commandTaken (stdStartDue_of_head (by rw [drive]; exact (headState_ne rfl d).symm))
    have dir : d = if s.trav.turn = .back then .inbound else .outbound := traverseFrom_eq _
    have head : d.headState = if s.trav.turn = .back then .inbound else .outbound := by
      rw [dir]; split <;> rfl
    refine completes_run rfl ready due ?_
    refine ⟨?_, ?_, ?_, ?_, (taken.liveWord _).trans shown, (taken.liveWord _).trans time, ?_,
      ⟨openedScan d s, ?_, dir, rfl, rfl, rfl, rfl, rfl, openedScan_chans d s, rfl, rfl, rfl, rfl, ?_⟩, ?_, ?_, ?_, ?_, ?_⟩
    · rw [taken.frame]; exact (congrArg Traverse.head drive).trans head
    · rw [taken.frame]; exact congrArg Traverse.dwellTimer drive
    · rw [taken.shutter]
      exact shutterDemand_traversing (by rw [drive]; exact headState_traversing d)
    · rw [taken.frame]; exact congrArg Binning.firstAfterBreak bin
    · rw [taken.liveWord, word, taken.frame]; exact (congrArg (HeadState.code ∘ Traverse.head) drive).symm
    · rw [taken.frame]; exact congrArg Binning.scan bin
    · intro a mem
      obtain ⟨c, -, rfl⟩ := List.mem_map.1 mem
      exact ⟨rfl, rfl, rfl, rfl⟩
    · rw [taken.frame]; exact (congrArg Traverse.position drive :)
    · rw [taken.frame]; exact arb
    · rw [taken.frame]; exact ex
    · rw [taken.frame]; exact alarms
    · rw [taken.frame]; exact brk
  · have idle : s.dwellExpiry = s := if_neg fun ⟨turning, running⟩ =>
      rest.elim (· turning) (Option.isSome_iff_ne_none.1 running)
    exact congrArg Host.Outcome.next (event_of_same sound.settled idle)

end Sys2Proof.Proofs
end

section
/-!
PROOFS. What the operations of an event leave of the drive, of the head's live words and of a standing break, and that the
departure permission stays the panel inhibit's (R52, R67, R73, R182). One relation, with the aspect that it watches as a
parameter, so that each operation is gone through once.
-/
namespace Sys2Proof.Proofs

open Sys2Proof.Machine Sys2Proof.Laws

-- One proof after another: threads that wait for each other count against the memory limit of the check.
set_option Elab.async false

/-! ## The relation -/

/-- What is watched besides the drive and the departure permission: the traverse controller with its live words, a break
that stands with its live words, or nothing more. -/
inductive Aspect where
  | head | watch | drive
  deriving DecidableEq

variable {s t u : State} {p : Aspect}

/-- The departure permission is withheld exactly while the panel inhibit stands (R73). -/
def Permits (a : Arbiter) : Prop := a.granted = !a.panelInhibit

/-- A break stands, not acknowledged, and no gauge cue counts. -/
structure BreakStands (b : BreakMon) : Prop where
  broken : b.state = .broken
  latch : b.latch = false
  low : b.lowCount = 0
  opened : b.openCount = 0

/-- The direction stays, a drive at rest stays at rest, the permission stays the inhibit's, and the watched aspect is
as it was. -/
structure Leaves (p : Aspect) (s t : State) : Prop where
  dir : t.trav.dir = s.trav.dir := by rfl
  rest : s.trav.duty = 0 → t.trav.duty = 0 := by exact id
  permits : Permits s.arb → Permits t.arb := by exact id
  trav : p = .head → t.trav = s.trav := by exact fun _ => rfl
  headWord : p = .head → SameBytes t.mem s.mem 0x08038 0x0803C := by exact fun _ => sameBytes_refl _ _ _
  causeWord : p = .head → SameBytes t.mem s.mem 0x08048 0x0804C := by exact fun _ => sameBytes_refl _ _ _
  watch : p = .watch → BreakStands s.brk → t.brk = s.brk := by exact fun _ _ => rfl
  breakWords : p = .watch → BreakStands s.brk → SameBytes t.mem s.mem 0x0804C 0x08058 := by
    exact fun _ _ => sameBytes_refl _ _ _

theorem Leaves.refl (p : Aspect) (s : State) : Leaves p s s := { }

theorem Leaves.trans (h1 : Leaves p s t) (h2 : Leaves p t u) : Leaves p s u where
  dir := h2.dir.trans h1.dir
  rest := h2.rest ∘ h1.rest
  permits := h2.permits ∘ h1.permits
  trav e := (h2.trav e).trans (h1.trav e)
  headWord e := sameBytes_trans (h2.headWord e) (h1.headWord e)
  causeWord e := sameBytes_trans (h2.causeWord e) (h1.causeWord e)
  watch e b := (h2.watch e (h1.watch e b ▸ b)).trans (h1.watch e b)
  breakWords e b := sameBytes_trans (h2.breakWords e (h1.watch e b ▸ b)) (h1.breakWords e b)

theorem ite_leaves {q : Prop} [Decidable q] (h : Leaves p s t) : Leaves p s (if q then t else s) := by
  split
  · exact h
  · exact .refl p s

theorem foldl_leaves {α : Type} {f : State → α → State} (h : ∀ v a, Leaves p v (f v a)) (l : List α) (s : State) :
    Leaves p s (l.foldl f s) := by
  induction l generalizing s with
  | nil => exact .refl p s
  | cons a l ih => exact (h s a).trans (ih _)

theorem foldl_snd_leaves {α β : Type} {f : β × State → α → β × State} (h : ∀ acc a, Leaves p acc.2 (f acc a).2)
    (l : List α) (acc : β × State) : Leaves p acc.2 (l.foldl f acc).2 := by
  induction l generalizing acc with
  | nil => exact .refl p _
  | cons a l ih => exact (h acc a).trans (ih _)

/-! ## Memory, notices, alarms, records -/

/-- A change of the memory beside the live words from 0x038 to 0x057, but for the effective goal. -/
theorem Leaves.of_mem {m : Mem} (out : ∀ {lo hi}, 0x08038 ≤ lo → hi ≤ 0x0803C ∨ 0x08048 ≤ lo → hi ≤ 0x08058 →
    SameBytes m s.mem lo hi) : Leaves p s { s with mem := m } where
  headWord _ := out (by decide) (.inl (by decide)) (by decide)
  causeWord _ := out (by decide) (.inr (by decide)) (by decide)
  breakWords _ _ := out (by decide) (.inr (by decide)) (by decide)

theorem liveWords_leaves (off : Nat) (ws : List Word) (s : State)
    (out : off + 4 * ws.length ≤ 0x038 ∨ 0x058 ≤ off) : Leaves p s (s.liveWords off ws) :=
  .of_mem fun low _ high => liveWords_sameBytes s off ws (by simp only [liveBase]; omega)

theorem live_leaves (off : Nat) (w : Word) (s : State) (out : off + 4 ≤ 0x038 ∨ 0x058 ≤ off := by decide) :
    Leaves p s (s.live off w) :=
  liveWords_leaves off [w] s out

theorem liveTwo_leaves (off : Nat) (a b : Word) (s : State) (low : off + 8 ≤ 0x038 := by decide) :
    Leaves p s (s.liveWords off [a, b]) := liveWords_leaves off _ s (.inl low)

theorem liveThree_leaves (off : Nat) (a b c : Word) (s : State) (low : off + 12 ≤ 0x038 := by decide) :
    Leaves p s (s.liveWords off [a, b, c]) := liveWords_leaves off _ s (.inl low)

/-- The head's own live words: the head state and the fault cause. -/
theorem liveHead_leaves (other : p ≠ .head) (off : Nat) (w : Word) (s : State) (out : off + 4 ≤ 0x04C := by decide) :
    Leaves p s (s.live off w) where
  headWord e := absurd e other
  causeWord e := absurd e other
  breakWords _ _ := live_sameBytes s off w (by simp only [liveBase]; omega)

/-- The break monitor's own live words. -/
theorem liveBreak_leaves (other : p ≠ .watch) (off : Nat) (w : Word) (s : State) (out : 0x04C ≤ off := by decide) :
    Leaves p s (s.live off w) where
  headWord _ := live_sameBytes s off w (by simp only [liveBase]; omega)
  causeWord _ := live_sameBytes s off w (by simp only [liveBase]; omega)
  breakWords e := absurd e other

theorem setNotice_leaves (n : Notice) (s : State) : Leaves p s (s.setNotice n) := { }

theorem setAlarm_leaves (i : Fin 48) (e : AlarmEntry) (s : State) : Leaves p s (s.setAlarm i e) := by
  have same : ∀ {lo hi}, hi ≤ 0x08058 → SameBytes (s.setAlarm i e).mem s.mem lo hi := fun high =>
    setAlarm_sameBytes s i e (.inl (by omega))
  have frame := setAlarm_frame i e s
  exact
    { dir := by rw [frame], rest := by rw [frame]; exact id, permits := by rw [frame]; exact id
      trav := fun _ => by rw [frame]
      watch := fun _ _ => by rw [frame]
      headWord := fun _ => same (by decide), causeWord := fun _ => same (by decide)
      breakWords := fun _ _ => same (by decide) }

theorem clearAlarm_leaves (i : Fin 48) (x : Option Int) (s : State) : Leaves p s (s.clearAlarm i x) := by
  unfold State.clearAlarm
  dsimp only
  split
  · exact (setAlarm_leaves i _ s).trans (setNotice_leaves _ _)
  · exact setAlarm_leaves i _ s

theorem raiseAlarm_leaves (i : Fin 48) (x : Option Int) (s : State) : Leaves p s (s.raiseAlarm i x).2 := by
  unfold State.raiseAlarm
  dsimp only
  split
  · exact setAlarm_leaves i _ s
  · exact (setAlarm_leaves i _ s).trans (setNotice_leaves _ _)

theorem resetEntry_leaves (i : Fin 48) (clear : Bool) (s : State) : Leaves p s (s.resetEntry i clear) := by
  unfold State.resetEntry
  split
  · exact clearAlarm_leaves i _ s
  · exact setAlarm_leaves i _ s

theorem produce_leaves (hd : RecHeader) (body : List Word) (s : State) : Leaves p s (s.produce hd body) := by
  unfold State.produce
  dsimp only
  split
  · refine Leaves.trans (Leaves.trans ?_ (live_leaves 0x028 0 _)) (setNotice_leaves _ _)
    have range : ∀ k, 0x08058 ≤ frameBase k := fun k => by simp only [frameBase, storeBase]; omega
    have stored : ∀ (m : Mem) (k : Nat) (ws : List Word) {lo hi : Nat}, hi ≤ 0x08058 →
        SameBytes (writeWord (writeWords m (frameBase k + 4) ws) (frameBase k) readyCode) m lo hi := fun m k ws lo hi high =>
      sameBytes_trans (sameBytes_writeWord _ _ _ (.inl (high.trans (range k))))
        (sameBytes_writeWords _ _ _ (.inl (high.trans ((range k).trans (Nat.le_add_right _ _)))))
    exact { headWord := fun _ => stored _ _ _ (by decide), causeWord := fun _ => stored _ _ _ (by decide)
            breakWords := fun _ _ => stored _ _ _ (by decide) }
  · refine Leaves.trans (Leaves.trans ?_ (live_leaves 0x028 _ _)) (setNotice_leaves _ _)
    exact { }

theorem recompute_leaves (ev : GoalEvent) (s : State) : Leaves p s (s.recompute ev).state := by
  have inhibit : (s.recompute ev).state.arb.panelInhibit = s.arb.panelInhibit := by
    unfold State.recompute
    dsimp only
    split
    · rfl
    · split <;> rfl
  have frame := recompute_frame s ev
  exact
    { dir := by rw [frame], rest := by rw [frame]; exact id
      permits := fun _ => (recompute_granted s ev).trans (congrArg Bool.not inhibit.symm)
      trav := fun _ => by rw [frame]
      watch := fun _ _ => by rw [frame]
      headWord := fun _ => recompute_sameBytes s ev (.inl (by decide))
      causeWord := fun _ => recompute_sameBytes s ev (.inr (by decide))
      breakWords := fun _ _ => recompute_sameBytes s ev (.inr (by decide)) }

/-! ## The head -/

/-- A change of the traverse controller that keeps the direction and starts no drive. -/
theorem setTrav_leaves (other : p ≠ .head) (tr : Traverse) (s : State) (dir : tr.dir = s.trav.dir := by rfl)
    (rest : s.trav.duty = 0 → tr.duty = 0 := by exact id) : Leaves p s { s with trav := tr } :=
  { dir := dir, rest := rest, trav := fun e => absurd e other }

theorem setHead_leaves (other : p ≠ .head) (h : HeadState) (s : State) : Leaves p s (s.setHead h) := by
  unfold State.setHead
  split
  · exact .refl p s
  · exact (setTrav_leaves other _ s).trans (liveHead_leaves other 0x038 _ _)

theorem enterHoming_leaves (other : p ≠ .head) (s : State) : Leaves p s s.enterHoming := by
  have entered : Leaves p s (({ s with trav.homed := false } : State).setHead .homing) :=
    (setTrav_leaves other _ s).trans (setHead_leaves other _ _)
  unfold State.enterHoming
  dsimp only
  split
  · exact entered.trans (setTrav_leaves other _ _)
  · exact entered

theorem enterUnhomed_leaves (other : p ≠ .head) (s : State) : Leaves p s s.enterUnhomed :=
  (setTrav_leaves other { s.trav with duty := 0, homed := false } s rfl fun _ => rfl).trans (setHead_leaves other _ _)

theorem enterFaulted_leaves (other : p ≠ .head) (cause : FaultCause) (s : State) : Leaves p s (s.enterFaulted cause) :=
  (((setTrav_leaves other { s.trav with duty := 0, homed := false, faultCause := cause } s rfl fun _ => rfl).trans
    (setHead_leaves other _ _)).trans (liveHead_leaves other 0x048 _ _)).trans (setNotice_leaves _ _)

theorem openScan_leaves (d : ScanDir) (s : State) : Leaves p s (s.openScan d) := by
  unfold State.openScan State.liveBool
  dsimp only
  exact (Leaves.trans (t := _) { } (live_leaves 0x058 _ _)).trans (live_leaves 0x05C _ _)

theorem endBatch_leaves (outcome : RecOutcome) (s : State) : Leaves p s (s.endBatch outcome) := by
  have ended : Leaves p s { s with bin.batch := none } := { }
  unfold State.endBatch
  split
  · exact .refl p s
  · cases outcome with
    | complete | thin | aborted => exact ended
    | brk | link | fault => exact ended.trans (produce_leaves _ _ _)

theorem HeadMove.leaves (other : p ≠ .head) (h : HeadMove s t) : Leaves p s t := by
  induction h with
  | stay => exact .refl p _
  | homing => exact enterHoming_leaves other _
  | unhomed => exact enterUnhomed_leaves other _
  | returning => exact (setTrav_leaves other _ _).trans (setHead_leaves other _ _)
  | movingToHold => exact (setTrav_leaves other _ _).trans (setHead_leaves other _ _)
  | standing => exact setHead_leaves other _ _
  | stopping => exact setHead_leaves other _ _
  | depart => exact (setHead_leaves other _ _).trans (openScan_leaves _ _)
  | batchEnded _ _ ih => exact (endBatch_leaves _ _).trans ih
  | stood _ ih => exact (setHead_leaves other _ _).trans ih

theorem takeGoalStill_leaves (other : p ≠ .head) (a b : Bool) (s : State) : Leaves p s (s.takeGoalStill a b) :=
  (takeGoalStill_move a b s).leaves other

/-! ## The break monitor -/

/-- A change of the break monitor's registers. -/
theorem setBrk_leaves (other : p ≠ .watch) (b : BreakMon) (s : State) : Leaves p s { s with brk := b } where
  watch e := absurd e other

theorem setBreakState_leaves (other : p ≠ .watch) (b : BreakState) (s : State) : Leaves p s (s.setBreakState b) := by
  unfold State.setBreakState
  split
  · exact .refl p s
  · exact (setBrk_leaves other _ s).trans (liveBreak_leaves other 0x04C _ _)

theorem highWords_leaves {a : Nat} (range : 0x08058 ≤ a) (ws : List Word) (s : State) :
    Leaves p s { s with mem := writeWords s.mem a ws } :=
  .of_mem fun _ _ high => sameBytes_writeWords _ _ _ (.inl (high.trans range))

theorem highWord_leaves {a : Nat} (range : 0x08058 ≤ a) (w : Word) (s : State) :
    Leaves p s { s with mem := writeWord s.mem a w } :=
  .of_mem fun _ _ high => sameBytes_writeWord _ _ _ (.inl (high.trans range))

theorem historyAddr_above (i : Fin 32) : 0x08058 ≤ historyAddr i := by
  simp only [historyAddr, historyBase]
  omega

theorem writeHistory_leaves (other : p ≠ .watch) (head : HeadState) (cues : BitVec 4) (pos cuePos : Word) (work : OpenWork)
    (record : Word) (s : State) : Leaves p s (s.writeHistory head cues pos cuePos work record) := by
  unfold State.writeHistory
  dsimp only
  refine Leaves.trans ?_ (liveBreak_leaves other 0x054 _ _)
  exact (setBrk_leaves other { s.brk with newest := s.brk.newest + 1 } s).trans
    (highWords_leaves (historyAddr_above (s.brk.newest + 1)) _ _)

theorem breakStart_leaves (other : p ≠ .watch) (s : State) : Leaves p s s.breakStart :=
  (((setBrk_leaves other _ s).trans (liveBreak_leaves other 0x050 _ _)).trans (setBrk_leaves other _ _)).trans
    (setBreakState_leaves other _ _)

theorem takeWatch_leaves (other : p ≠ .watch) (s : State) : Leaves p s s.takeWatch.2 := by
  have changed : ∀ b, Leaves p s (s.clearCounts.setBreakState b) := fun b =>
    (setBrk_leaves other _ s).trans (setBreakState_leaves other b _)
  unfold State.takeWatch
  split
  · exact .refl p s
  · split
    · exact changed _
    · exact .refl p s
  · split
    · exact .refl p s
    · exact changed _

theorem declareAtApply_leaves (other : p ≠ .watch) (s : State) : Leaves p s s.declareAtApply.state :=
  ((breakStart_leaves other s).trans (recompute_leaves _ _)).trans
    ((writeHistory_leaves other ..).trans (setNotice_leaves _ _))

theorem setMiss_leaves (side : Side) (n : Nat) (s : State) : Leaves p s (s.setMiss side n) := by
  have set : Leaves p s (missSet side n s) := by cases side <;> exact { }
  rw [setMiss_eq]
  split
  · exact set.trans (clearAlarm_leaves _ _ _)
  · exact set

theorem setEdges_leaves (front back : Int) (s : State) : Leaves p s (s.setEdges front back) :=
  Leaves.trans (t := { s with bin := { s.bin with edgeFront := front, edgeBack := back } }) { }
    (liveWords_leaves 0x060 _ _ (.inr (by decide)))

theorem resumeCore_leaves (other : p ≠ .watch) (s : State) : Leaves p s s.resumeCore := by
  have watched : Leaves p s (s.clearCounts.setBreakState (if s.watches then .watch else .disarmed)) :=
    (setBrk_leaves other _ s).trans (setBreakState_leaves other _ _)
  have binned : ∀ v : State, Leaves p v v.binResume := fun v => by
    have missed := (setMiss_leaves (p := p) .front 0 v).trans (setMiss_leaves .back 0 _)
    unfold State.binResume
    dsimp only
    split
    · exact (missed.trans (setEdges_leaves _ _ _)).trans { }
    · exact missed.trans { }
  have unseeded : ∀ v : State, Leaves p v v.unseedAll := fun v => { }
  exact (((watched.trans (binned _)).trans (unseeded _)).trans (highWord_leaves (Nat.le_add_right_of_le (historyAddr_above _)) _ _)).trans
    (setNotice_leaves _ _)

/-- A standing break takes nothing from an apply: its counts are 0 already (R182). -/
theorem applyBreak_same (h : ApplyHandoff) (stands : BreakStands s.brk) : (s.applyBreak h).state = s := by
  have counts : s.applyCounts h = s := by
    unfold State.applyCounts
    rw [stands.low, stands.opened, ite_self, ite_self]
    conv_rhs => rw [show s = { s with brk := { s.brk with lowCount := s.brk.lowCount, openCount := s.brk.openCount } } from rfl,
      stands.low, stands.opened]
  have due : s.resumeDue = false := by
    rw [State.resumeDue, stands.latch, Bool.and_false, Bool.false_and]
  have watch : s.takeWatch = (false, s) := by
    unfold State.takeWatch
    rw [stands.broken]
  unfold State.applyBreak
  dsimp only
  rw [counts, due, watch]
  dsimp only
  rw [stands.broken]
  rfl

theorem applyBreak_leaves_of (other : p ≠ .watch) (h : ApplyHandoff) (s : State) : Leaves p s (s.applyBreak h).state := by
  have counts : Leaves p s (s.applyCounts h) := setBrk_leaves other _ s
  unfold State.applyBreak
  dsimp only
  split
  · exact (counts.trans (resumeCore_leaves other _)).trans (recompute_leaves _ _)
  · split
    · exact (counts.trans (takeWatch_leaves other _)).trans (declareAtApply_leaves other _)
    · exact counts.trans (takeWatch_leaves other _)

/-- The drive's part and the permission alone, with what a standing break is left. -/
theorem Leaves.watching (drive : Leaves .drive s t) (same : BreakStands s.brk → t = s) : Leaves .watch s t where
  dir := drive.dir
  rest := drive.rest
  permits := drive.permits
  trav e := nomatch e
  headWord e := nomatch e
  causeWord e := nomatch e
  watch _ stands := by rw [same stands]
  breakWords _ stands := by rw [same stands]; exact sameBytes_refl _ _ _

theorem applyBreak_leaves (h : ApplyHandoff) (s : State) : Leaves p s (s.applyBreak h).state := by
  cases p with
  | watch => exact (applyBreak_leaves_of Aspect.noConfusion h s).watching (applyBreak_same h)
  | head | drive => exact applyBreak_leaves_of Aspect.noConfusion h s

/-! ## The apply (R8, R12, R44) -/

theorem applyBinning_leaves (h : ApplyHandoff) (s : State) : Leaves p s (s.applyBinning h) := by
  have discarded : Leaves p s (if s.trav.head = .holding then s.discardBatch else s) := ite_leaves { }
  unfold State.applyBinning
  dsimp only
  refine discarded.trans (ite_leaves ?_)
  exact ((setEdges_leaves _ _ _).trans (setMiss_leaves .front 0 _)).trans (setMiss_leaves .back 0 _)

/-- A head that is not homed has nothing to lose at an apply (R70). -/
theorem applyTraverse_lost (h : ApplyHandoff) (lost : s.trav.homed = false) : s.applyTraverse h = s := by
  unfold State.applyTraverse State.overtravelled
  rw [lost, Bool.and_false, if_neg Bool.false_ne_true]
  dsimp only
  rw [lost, Bool.false_and, Bool.false_and, Bool.and_false]
  exact if_neg Bool.false_ne_true

theorem applyTraverse_leaves (lost : p = .head → s.trav.homed = false) (h : ApplyHandoff) :
    Leaves p s (s.applyTraverse h) := by
  by_cases head : p = .head
  · rw [applyTraverse_lost h (lost head)]
    exact .refl p s
  · exact (ite_leaves (enterUnhomed_leaves head s)).trans (ite_leaves (enterFaulted_leaves head _ _))

theorem setRef_leaves (c : Fin 8) (r : RefRecord) (s : State) : Leaves p s (s.setRef c r) :=
  Leaves.trans (t := { s with std.refs := s.std.refs.set c.val r c.isLt }) { }
    (liveWords_leaves _ _ _ (.inr (by omega)))

theorem applyStd_leaves (h : ApplyHandoff) (s : State) : Leaves p s (s.applyStd h) := by
  have ref : ∀ (v : State) (c : Fin 8), Leaves p v (v.applyRef h c) := fun v c => by
    unfold State.applyRef
    refine ite_leaves ?_
    exact ((setRef_leaves _ _ _).trans (clearAlarm_leaves _ _ _)).trans { }
  exact (foldl_leaves ref channels8 s).trans { }

theorem applyProfile_leaves (h : ApplyHandoff) (s : State) : Leaves p s (s.applyProfile h) := by
  have channels := foldl_leaves (p := p) (f := fun s (c : Fin 8) => if h.unseeds c then s.unseed c.castSucc else s)
    (fun v c => ite_leaves (t := v.unseed c.castSucc) { }) channels8 s
  unfold State.applyProfile
  dsimp only
  split
  · exact { }
  · exact channels.trans (ite_leaves { })

theorem liveDisable_leaves (c : Fin 9) (s : State) : Leaves p s (s.liveDisable c) :=
  (live_leaves _ _ _ (.inr (by omega))).trans (live_leaves _ _ _ (.inr (by omega)))

theorem applyConvert_leaves (h : ApplyHandoff) (s : State) : Leaves p s (s.applyConvert h) := by
  have channels := foldl_leaves (p := p) (f := fun s (c : Fin 8) => if h.disabled c then s.liveDisable c.castSucc else s)
    (fun v c => ite_leaves (liveDisable_leaves _ v)) channels8 s
  unfold State.applyConvert
  exact channels.trans (ite_leaves (liveDisable_leaves _ _))

theorem applyLimits_leaves (h : ApplyHandoff) (s : State) : Leaves p s (s.applyLimits h) := by
  have reset : ∀ (k : Fin 9) (clear : Fin 4 → Bool) (v : State),
      Leaves p v (scanKinds.foldl (fun s kind => s.resetEntry (scanAlarm k kind) (clear kind)) v) := fun k clear v =>
    foldl_leaves (f := fun s kind => s.resetEntry (scanAlarm k kind) (clear kind))
      (fun v kind => resetEntry_leaves _ (clear kind) v) scanKinds v
  have limit : ∀ (v : State) (k : Fin 9), Leaves p v (v.applyLimit h k) := fun v k => ite_leaves (reset k _ v)
  have dropped : ∀ (k : Fin 9) (v : State), Leaves p v (v.dropChannel k) := fun k v => reset k _ v
  exact ((foldl_leaves limit channels9 s).trans
    (foldl_leaves (f := fun s (c : Fin 8) => if h.disabled c then s.dropChannel c.castSucc else s)
      (fun v c => ite_leaves (dropped c.castSucc v)) channels8 _)).trans (ite_leaves (dropped _ _))

theorem applyReactions_leaves (lost : p = .head → s.trav.homed = false) (h : ApplyHandoff) :
    Leaves p s (s.applyReactions h).state := by
  have link : Leaves p s (s.applyLink h) := ite_leaves { }
  have binning := link.trans (applyBinning_leaves h _)
  have lost' : p = .head → ((s.applyLink h).applyBinning h).trav.homed = false := fun e => by
    rw [binning.trav e]
    exact lost e
  exact (((((binning.trans (applyTraverse_leaves lost' h)).trans (applyStd_leaves h _)).trans
    (applyProfile_leaves h _)).trans (applyConvert_leaves h _)).trans (applyLimits_leaves h _)).trans
    ((recompute_leaves _ _).trans (applyBreak_leaves h _))

theorem gateIdle_leaves (s : State) : Leaves p s s.gateIdle := by
  unfold State.gateIdle
  split
  · exact Leaves.trans (t := { s with ex.applyPending := false }) { } (live_leaves 0x004 0 _)
  · exact .refl p s

theorem acceptApply_leaves (s : State) : Leaves p s s.acceptApply := by
  have kept := gateIdle_leaves (p := p)
  have taken : ∀ (e : Exchange), Leaves p s ({ s with ex := e, mem := copied s } : State) := fun e =>
    Leaves.trans (t := { s with mem := copied s })
      (.of_mem fun low _ _ => copied_sameBytes s (.inr ((by decide : liveBase ≤ 0x08038).trans low))) { }
  unfold State.acceptApply
  dsimp only
  exact ((((taken _).trans (liveThree_leaves 0x01C _ _ _ _)).trans (liveTwo_leaves 0x008 _ _ _)).trans
    (kept _)).trans (setNotice_leaves _ _)

theorem refuseApply_leaves (code : Result) (off : Nat) (s : State) : Leaves p s (s.refuseApply code off) := by
  have judged : Leaves p s { s with ex.gateResult := code } := { }
  exact ((judged.trans (liveTwo_leaves 0x008 _ _ _)).trans (gateIdle_leaves _)).trans (setNotice_leaves _ _)

theorem applyTake_leaves (lost : p = .head → s.trav.homed = false) : Leaves p s s.applyTake.state := by
  cases check : validatePage s.staged with
  | some f =>
    rw [applyTake_refused s check]
    exact refuseApply_leaves _ _ s
  | none =>
    rw [applyTake_accepted s check]
    have accepted := acceptApply_leaves (p := p) s
    exact accepted.trans (applyReactions_leaves (fun e => by rw [accepted.trav e]; exact lost e) _)

theorem applyPoint_leaves (lost : p = .head → s.trav.homed = false) : Leaves p s s.applyPoint.state := by
  cases pending : s.ex.applyPending with
  | false =>
    rw [applyPoint_idle s pending]
    exact .refl p s
  | true =>
    rw [applyPoint_pending s pending]
    exact applyTake_leaves lost

/-! ## The ends of the work -/

theorem abortScan_leaves (outcome : RecOutcome) (s : State) : Leaves p s (s.abortScan outcome) := by
  cases found : s.bin.scan with
  | none =>
    rw [State.abortScan, found]
    exact .refl p s
  | some ctx =>
    rw [abortScan_some found]
    have ended : ∀ v : State, Leaves p v ({ v with bin.scan := none } : State) := fun v => { }
    exact ((produce_leaves _ _ s).trans (ended _)).trans (live_leaves 0x058 0 _)

theorem finishStd_leaves (s : State) : Leaves p s s.finishStd :=
  (setNotice_leaves .stdz s).trans { }

theorem stdEarlyEnd_leaves (outcome : RecOutcome) (result : StdResult) (s : State) :
    Leaves p s (s.stdEarlyEnd outcome result) := by
  unfold State.stdEarlyEnd
  split
  · exact .refl p s
  · exact (produce_leaves _ _ s).trans (finishStd_leaves _)

/-! ## The goal -/

theorem settle_leaves (other : p ≠ .head) (r : Recomputed) : Leaves p r.state r.settle :=
  ite_leaves (takeGoalStill_leaves other _ _ _)

theorem thenEnter_leaves (other : p ≠ .head) (r : Recomputed) {step : State → State} (h : ∀ v, Leaves p v (step v)) :
    Leaves p r.state (r.thenEnter step) := by
  have stepped : Leaves p r.state
      (if r.changed then (step r.state).takeGoalStill r.posChanged false else step r.state) := by
    split
    · exact (h _).trans (takeGoalStill_leaves other _ _ _)
    · exact h _
  unfold Recomputed.thenEnter
  split
  · exact .refl p _
  · exact takeGoalStill_leaves other _ _ _
  all_goals exact stepped

theorem takeGoal_leaves (other : p ≠ .head) (b : Bool) (s : State) : Leaves p s (s.takeGoal b) := by
  have point : ∀ v : State, Leaves p v v.applyPoint.state := fun v => applyPoint_leaves fun e => absurd e other
  have abort : Leaves p s s.abortForGoal :=
    ((abortScan_leaves _ s).trans (point _)).trans
      (thenEnter_leaves other _ fun v => (enterAborted_move _ v).leaves other)
  have home : Leaves p s s.abandonForHome := by
    obtain ⟨changed, posChanged, whole⟩ := abandonForHome_eq s
    rw [whole]
    exact ((((stdEarlyEnd_leaves _ _ s).trans (enterHoming_leaves other _)).trans (point _)).trans
      (recompute_leaves _ _)).trans (settle_leaves other ⟨_, changed, posChanged⟩)
  unfold State.takeGoal
  split
  iterate 2
    split
    iterate 2 exact .refl p s
    iterate 4 exact abort
  · exact ite_leaves home
  all_goals exact takeGoalStill_leaves other _ _ _

theorem handGoal_leaves (other : p ≠ .head) (ev : GoalEvent) (s : State) : Leaves p s (s.handGoal ev) := by
  refine (recompute_leaves ev s).trans ?_
  unfold State.handGoal
  exact ite_leaves (takeGoal_leaves other _ _)

end Sys2Proof.Proofs
end


section
/-!
PROOFS. A fault (R65 to R67): what FAULTED shows, the one record of the work that was open, the standardize that ends early
(R118, R119); and the encoder's steps with OVERTRAVEL (R45, R66).
-/
namespace Sys2Proof.Proofs

open Sys2Proof.Machine Sys2Proof.Laws

-- One proof after another: threads that wait for each other count against the memory limit of the check.
set_option Elab.async false

variable {s t u v w e : State}

/-! ## The entry of FAULTED -/

/-- What FAULTED shows: D at 0, the position lost, the cause and the live words (R67). -/
structure Faulted (cause : FaultCause) (t : State) : Prop where
  head : t.trav.head = .faulted
  duty : t.trav.duty = 0
  homed : t.trav.homed = false
  fault : t.trav.faultCause = cause
  dwell : t.trav.dwellTimer = none
  causeWord : t.liveWord 0x048 = cause.code
  headWord : t.liveWord 0x038 = 12
  notice : t.noticeSet .headFault = true

/-- The drive of a FAULTED head. -/
def faultedTrav (cause : FaultCause) (tr : Traverse) : Traverse :=
  { tr with head := .faulted, duty := 0, homed := false, faultCause := cause, dwellTimer := none, stillness := 0
            stallTime := 0 }

theorem enterFaulted_of_ne (other : s.trav.head ≠ .faulted) (cause : FaultCause) :
    s.enterFaulted cause =
      ((({ s with trav := faultedTrav cause s.trav } : State).live 0x038 12).live 0x048 cause.code).setNotice .headFault := by
  let v : State := { s with trav := { s.trav with duty := 0, homed := false, faultCause := cause } }
  have entered : v.setHead .faulted = ({ v with trav := entered .faulted v.trav } : State).live 0x038 12 :=
    setHead_of_ne (s := v) other
  show ((v.setHead .faulted).live 0x048 cause.code).setNotice .headFault = _
  rw [entered]
  rfl

theorem enterFaulted_faulted (other : s.trav.head ≠ .faulted) (cause : FaultCause) : Faulted cause (s.enterFaulted cause) := by
  rw [enterFaulted_of_ne other]
  refine ⟨rfl, rfl, rfl, rfl, rfl, ?_, ?_, noticeSet_setNotice _ _⟩
  · exact (setNotice_liveWord ..).trans (live_liveWord ..)
  · exact (setNotice_liveWord ..).trans ((live_liveWord_other 0x048 _ _ (by decide)).trans (live_liveWord ..))

theorem enterFaulted_position (other : s.trav.head ≠ .faulted) (cause : FaultCause) :
    (s.enterFaulted cause).trav.position = s.trav.position := by
  rw [enterFaulted_of_ne other]
  rfl

theorem enterFaulted_exchange (cause : FaultCause) (s : State) :
    (s.enterFaulted cause).ex = { s.ex with notice := (s.enterFaulted cause).ex.notice } ∧
      (s.enterFaulted cause).alarms = s.alarms ∧ (s.enterFaulted cause).pins = s.pins := by
  unfold State.enterFaulted
  dsimp only
  refine ⟨?_, State.setHead_alarms .., State.setHead_pins ..⟩
  show ({ (State.setHead _ _).ex with notice := _ } : Exchange) = _
  rw [State.setHead_ex]
  rfl

/-! ## After the entry -/

theorem fault_leaves (cause : FaultCause) (s : State) : Leaves .head (s.enterFaulted cause) (s.fault cause) := by
  have lost : (s.enterFaulted cause).trav.homed = false := (enterFaulted_drive cause s).2.1
  have scan : Leaves .head (s.enterFaulted cause) (s.enterFaulted cause).faultScan := by
    have aborted := abortScan_leaves (p := .head) .fault (s.enterFaulted cause)
    exact ite_leaves (aborted.trans (applyPoint_leaves fun _ => by rw [aborted.trav rfl]; exact lost))
  have batch := scan.trans (endBatch_leaves .fault _)
  have early := batch.trans (stdEarlyEnd_leaves .fault .abandoned _)
  refine batch.trans (ite_leaves (((stdEarlyEnd_leaves _ _ _).trans (applyPoint_leaves fun _ => ?_)).trans (recompute_leaves _ _)))
  rw [early.trav rfl]
  exact lost

theorem fault_faulted (other : s.trav.head ≠ .faulted) (cause : FaultCause) : Faulted cause (s.fault cause) := by
  have entered := enterFaulted_faulted other cause
  have left := fault_leaves cause s
  have trav := left.trav rfl
  refine ⟨by rw [trav]; exact entered.head, by rw [trav]; exact entered.duty, by rw [trav]; exact entered.homed,
    by rw [trav]; exact entered.fault, by rw [trav]; exact entered.dwell, ?_, ?_, ?_⟩
  · exact (readWord_of_sameBytes (left.causeWord rfl) (by decide) (by decide)).trans entered.causeWord
  · exact (readWord_of_sameBytes (left.headWord rfl) (by decide) (by decide)).trans entered.headWord
  · exact ((faultScan_evolves.trans (endBatch_evolves .fault)).trans faultStd_evolves).frame.notices
      (Set.notMem_empty _) _ entered.notice

theorem faultStd_none (none : s.std.ctx = none) : s.faultStd = s := by
  unfold State.faultStd
  rw [none]
  rfl

theorem endBatch_none (none : s.bin.batch = none) (outcome : RecOutcome) : s.endBatch outcome = s := by
  unfold State.endBatch
  rw [none]

theorem faultScan_none (none : s.bin.scan = none) : s.faultScan = s := by
  unfold State.faultScan
  rw [none]
  rfl

/-- A fault of a STANDARDIZING head ends the standardize alone. -/
theorem fault_standardizing (work : WorkOk s) (head : s.trav.head = .standardizing) (cause : FaultCause) :
    s.fault cause =
      ((((s.enterFaulted cause).stdEarlyEnd .fault .abandoned).applyPoint).state.recompute .other).state := by
  obtain ⟨bin, std, -⟩ := enterFaulted_frame cause s
  obtain ⟨scan, batch, -⟩ := work.standardizing head
  have runs : (s.enterFaulted cause).std.ctx.isSome = true := by
    rw [std, work.std, head]
    rfl
  unfold State.fault
  rw [faultScan_none (by rw [bin]; exact scan), endBatch_none (by rw [bin]; exact batch)]
  exact if_pos runs

/-- What follows the record of a standardize that a fault ends. -/
theorem faultEnd_records (s : State) : RecordsSame s (s.applyPoint.state.recompute .other).state :=
  (applyPoint_noRecord s).same.trans (recompute_records _ _)

/-- A batch that a break, the link or a fault ends is handed for its record (R135). -/
theorem endBatch_oneRecord {b : Batch} (found : s.bin.batch = some b) {outcome : RecOutcome}
    (handed : outcome = .brk ∨ outcome = .link ∨ outcome = .fault) :
    (s.endBatch outcome).ex.lastRecord = s.ex.lastRecord + 1 := by
  unfold State.endBatch
  rw [found]
  rcases handed with rfl | rfl | rfl <;> exact produce_number { s with bin.batch := none } _ _

/-- A fault leaves one record where work was open (R67). -/
theorem fault_oneRecord (agrees : Agrees s) (cause : FaultCause) :
    (s.fault cause).ex.lastRecord = s.ex.lastRecord + (if openWork s then 1 else 0) := by
  let e := s.enterFaulted cause
  have work := agrees.work
  obtain ⟨bin, std, -⟩ := enterFaulted_frame cause s
  have number : e.ex.lastRecord = s.ex.lastRecord := (enterFaulted_noRecord cause s).lastRecord
  have faulted : FaultStands e := enterFaulted_stands agrees cause
  by_cases runs : s.trav.head = .standardizing
  · obtain ⟨ctx, found⟩ := Option.isSome_iff_exists.1 (work.std.trans (decide_eq_true runs))
    have early := stdEarlyEnd_earlyEnd (s := e) (by rw [std]; exact found) .fault .abandoned
    rw [fault_standardizing work runs, openWork, found, Option.isSome_some, Bool.or_true]
    exact (faultEnd_records _).lastRecord.trans (early.lastRecord.trans (by rw [number]; rfl))
  · have noStd : s.std.ctx = none := Option.not_isSome_iff_eq_none.1 (by
      rw [work.std, decide_eq_false runs]
      exact Bool.false_ne_true)
    by_cases opened : s.bin.scan.isSome = true
    · obtain ⟨ctx, found⟩ := Option.isSome_iff_exists.1 opened
      have noBatch : s.bin.batch = none := no_batch work.batch fun holding => by
        rw [work.scan, holding] at opened
        cases opened
      have foundE : e.bin.scan = some ctx := by rw [bin]; exact found
      have aborted : e.faultScan.ex.lastRecord = e.ex.lastRecord + 1 := by
        have whole : e.faultScan = (e.abortScan .fault).applyPoint.state := if_pos (by rw [foundE]; rfl)
        rw [whole, (applyPoint_noRecord _).lastRecord, abortScan_some foundE]
        exact produce_number e _ _
      obtain ⟨stands, idle⟩ := faultScan_stands faulted (by rw [foundE]; rfl) (by rw [bin]; exact noBatch)
        (by rw [std]; exact noStd)
      have none : e.faultScan.bin.batch = none := no_batch idle.batch (by rw [stands.head]; exact HeadState.noConfusion)
      have whole : s.fault cause = e.faultScan := by
        show (e.faultScan.endBatch .fault).faultStd = _
        rw [endBatch_none none, faultStd_none idle.std]
      rw [whole, aborted, number, openWork, opened]
      rfl
    · have noScan : s.bin.scan = none := Option.not_isSome_iff_eq_none.1 opened
      have ended := endBatch_kept .fault e
      have whole : s.fault cause = e.endBatch .fault := by
        show (e.faultScan.endBatch .fault).faultStd = _
        rw [faultScan_none (by rw [bin]; exact noScan), faultStd_none (by rw [ended.std, std]; exact noStd)]
      rw [whole, openWork, noScan, noStd]
      cases found : s.bin.batch with
      | some b =>
        rw [endBatch_oneRecord (by rw [bin]; exact found) (.inr (.inr rfl)), number]
        rfl
      | none =>
        rw [endBatch_none (by rw [bin]; exact found), number]
        exact (BitVec.add_zero _).symm

/-! ## The standardize that a fault ends -/

/-- The record of an early end, as the state before the event names it (R118, R119). -/
theorem EarlyEnd.stdEndedEarly {ctx : StdCtx} {outcome : RecOutcome} {result : StdResult}
    (early : EarlyEnd ctx outcome result w e) (after : RecordsSame e t)
    (store : ∀ hi, SameBytes w.mem s.mem storeBase hi) (ex : w.ex = { s.ex with notice := w.ex.notice })
    (link : w.link = s.link) (stdz : t.noticeSet .stdz = true)
    (beside : s.ex.applyPending = false → t.std.refs = s.std.refs ∧ t.std.untried = s.std.untried ∧
      (∀ c : Fin 8, t.alarms[stdFaultAlarm c] = s.alarms[stdFaultAlarm c]) ∧
      (t.std.due = true ↔ ∃ c : Fin 8, s.std.untried[c] = true)) :
    StdEndedEarly ctx outcome.code result.code s t := by
  have stored : ∀ hi, SameBytes t.mem
      (w.produce (earlyHeader ctx outcome w.link.timeCounter) (earlyBody ctx result)).mem storeBase hi := fun hi =>
    sameBytes_trans (after.store hi) (early.store hi)
  have number : w.ex.lastRecord = s.ex.lastRecord := by rw [ex]
  have generation : w.ex.generation = s.ex.generation := by rw [ex]
  refine ⟨after.ctx.trans early.ended, stdz, after.scanCount.trans early.scanCount, after.stdNow.trans early.stdNow,
    (after.lastRecord.trans early.lastRecord).trans (by rw [number]), fun k free => ?_, beside⟩
  have free' : findFree w.mem w.ex.nextFrame = some k := by
    rw [findFree_congr (store _), ex]
    exact free
  obtain ⟨ready, words⟩ := record_words free' (stored 0x40000)
  refine ⟨ready, words 0 (by decide), (words 1 (by decide)).trans (congrArg (· + 1) number), words 3 (by decide),
    words 4 (by decide), (words 5 (by decide)).trans generation, words 6 (by decide),
    (words 7 (by decide)).trans (congrArg HeadLink.timeCounter link), words 8 (by decide), words 9 (by decide),
    words 10 (by decide), words 11 (by decide), words 12 (by decide), words 13 (by decide),
    (words 14 (by decide)).trans ?_, fun i hi => earlyBody_channel free' stored hi⟩
  rw [← length_earlyBody ctx result]
  rfl

theorem fault_stdEndedEarly (agrees : Agrees s) {ctx : StdCtx} (found : s.std.ctx = some ctx) (cause : FaultCause)
    (rest : (s.fault cause).stdStartDue = false) : StdEndedEarly ctx 5 6 s (s.fault cause).endEvent := by
  let f := s.enterFaulted cause
  let e := f.stdEarlyEnd .fault .abandoned
  obtain ⟨-, std, -, link, -⟩ := enterFaulted_frame cause s
  obtain ⟨ex, alarms, -⟩ := enterFaulted_exchange cause s
  have head : s.trav.head = .standardizing := of_decide_eq_true (by rw [← agrees.work.std, found]; rfl)
  have whole : s.fault cause = (e.applyPoint.state.recompute .other).state :=
    fault_standardizing agrees.work head cause
  have early : EarlyEnd ctx .fault .abandoned f e :=
    stdEarlyEnd_earlyEnd (by rw [std]; exact found) .fault .abandoned
  have frame := endEvent_frame rest
  refine early.stdEndedEarly ?_ (enterFaulted_noRecord cause s).store ex link ?_ fun idle => ?_
  · rw [whole] at rest ⊢
    exact (faultEnd_records e).trans (endEvent_records rest)
  · rw [whole]
    exact ((applyPoint_evolves.trans (recompute_evolves .other)).trans endEvent_evolves).frame.notices
      (Set.notMem_empty _) _ early.stdz
  · have pending : e.ex.applyPending = false := early.pending.trans (by rw [show f.ex = _ from ex]; exact idle)
    have stays : (s.fault cause).std = e.std ∧ (s.fault cause).alarms = e.alarms := by
      rw [whole, applyPoint_idle e pending, recompute_frame e .other]
      exact ⟨rfl, rfl⟩
    rw [frame]
    dsimp only
    rw [stays.1, stays.2, early.refs, early.untried, early.alarms, early.due, show f.std = _ from std]
    exact ⟨rfl, rfl, fun c => by rw [show f.alarms = _ from alarms], Iff.rfl⟩

/-! ## The event of a fault -/

/-- What the event of a fault leaves (R65 to R67). -/
structure FaultEvent (cause : FaultCause) (s t : State) : Prop extends Faulted cause t where
  scan : t.bin.scan = none
  batch : t.bin.batch = none
  ctx : t.std.ctx = none
  shutter : t.link.shutter = false
  ref : t.link.ref = false
  record : t.ex.lastRecord = s.ex.lastRecord + (if openWork s then 1 else 0)
  std : ∀ ctx, s.std.ctx = some ctx → StdEndedEarly ctx 5 6 s t

theorem fault_event (agrees : Agrees s) (other : s.trav.head ≠ .faulted) (cause : FaultCause) :
    FaultEvent cause s (s.fault cause).endEvent := by
  have faulted := fault_faulted other cause
  have agreesF := fault_agrees agrees cause
  have rest : (s.fault cause).stdStartDue = false :=
    stdStartDue_of_head (by rw [faulted.head]; exact HeadState.noConfusion)
  have taken := endEvent_commandTaken rest
  obtain ⟨shutter, ref⟩ := demands_of_head faulted.head rfl HeadState.noConfusion
  have idle := agreesF.work.idle (by rw [faulted.head]; rfl) (by rw [faulted.head]; exact HeadState.noConfusion)
  have noBatch := no_batch idle.batch (by rw [faulted.head]; exact HeadState.noConfusion)
  have same : (s.fault cause).endEvent = { s.fault cause with link := (s.fault cause).endEvent.link } := taken.frame
  have after : Faulted cause (s.fault cause).endEvent := by
    rw [same]
    exact ⟨faulted.head, faulted.duty, faulted.homed, faulted.fault, faulted.dwell, faulted.causeWord, faulted.headWord,
      faulted.notice⟩
  refine ⟨after, ?_, ?_, ?_, taken.shutter.trans shutter, taken.ref.trans ref, ?_,
    fun ctx found => fault_stdEndedEarly agrees found cause rest⟩
  · rw [same]; exact idle.scan
  · rw [same]; exact noBatch
  · rw [same]; exact idle.std
  · rw [same]; exact fault_oneRecord agrees cause

/-- A command whose event starts from another state, such as one with a pin moved. -/
theorem completes_from {c : Instr} {f : State → State} {P : State → Prop} (run : exec c s = .next (v.event f))
    (ready : v.ex.life = .ready) (same : f v = u) (h : P u.endEvent) : Completes c s P :=
  ⟨_, run.trans (congrArg Host.Outcome.next ((event_ready v f ready).trans (congrArg State.endEvent same))), h⟩

/-! ## The events that a fault ends (Table 3-1) -/

theorem backLimEvent_fault (checked : s.trav.head.backLimChecked = true) :
    s.backLimEvent = ({ s with trav.backLim := true } : State).fault .limit := if_pos checked

theorem frontLimEvent_fault (checked : s.trav.head.frontLimChecked = true) :
    s.frontLimEvent = ({ s with trav.frontLim := true } : State).fault .limit := if_pos checked

theorem drvFaultEvent_fault (checked : s.trav.head.driveChecked = true) :
    s.drvFaultEvent = ({ s with trav.drvFault := true } : State).fault .drive := if_pos checked

theorem backLimChecked_iff (h : HeadState) :
    h.backLimChecked = true ↔ h ≠ .unhomed ∧ h ≠ .standardizing ∧ h ≠ .faulted := by
  cases h <;> decide

theorem frontLimChecked_iff (h : HeadState) :
    h.frontLimChecked = true ↔ h ≠ .unhomed ∧ h ≠ .standardizing ∧ h ≠ .faulted ∧ h ≠ .homing := by
  cases h <;> decide

theorem driveChecked_iff (h : HeadState) : h.driveChecked = true ↔ h ≠ .unhomed ∧ h ≠ .faulted := by
  cases h <;> decide

/-- A homed head is not FAULTED (R46). -/
theorem WorkOk.homed_ne_faulted (work : WorkOk s) (homed : s.trav.homed = true) : s.trav.head ≠ .faulted := fun head => by
  have known := (work.homed (by rw [head]; exact HeadState.noConfusion)).symm.trans homed
  rw [head] at known
  cases known

/-! ## The encoder (R45) -/

/-- The levels that a step leaves as the reference. -/
def leveled (a b : Bool) (s : State) : State := { s with pins := { s.pins with encA := a, encB := b } }

/-- The state in which the position counter has taken a step too. -/
def stepped (a b : Bool) (s : State) : State :=
  { leveled a b s with
    trav := { s.trav with position := s.trav.position + BitVec.ofInt 32 (s.encoderCount a b) } }

/-- A position outside either bound, where OVERTRAVEL is checked (R66). -/
def Outside (s : State) : Prop :=
  s.trav.homed = true ∧ s.trav.head ≠ .standardizing ∧
    (s.trav.position.toInt < -(s.page.homeMargin : Int) - 1000 ∨ s.page.pEnd < s.trav.position.toInt)

theorem overtravelled_iff (s : State) : s.overtravelled = true ↔ Outside s := by
  have bounds : s.overtravelled = true ↔ (s.trav.homed = true ∧ s.trav.head ≠ .standardizing) ∧
      (s.pos < -(s.page.homeMargin : Int) - 1000 ∨ s.page.pEnd < s.pos) := by
    simp [State.overtravelled]
  exact bounds.trans and_assoc

/-- The command is the counting of its step, from the levels that it leaves. -/
theorem encoderStep_run (a b : Bool) (s : State) :
    exec (.encoderStep a b) s = .next ((leveled a b s).event (State.countStep (s.encoderCount a b))) := by
  rw [← encoderCount_eq]
  rfl

/-- A step that is not outside the bounds is the count alone. -/
theorem countStep_inside (a b : Bool) (inside : ¬ (s.encoderCount a b ≠ 0 ∧ Outside (stepped a b s))) :
    (leveled a b s).countStep (s.encoderCount a b) = stepped a b s := by
  by_cases zero : s.encoderCount a b = 0
  · have still : s.trav.position = s.trav.position + BitVec.ofInt 32 (s.encoderCount a b) := by
      rw [zero]
      exact (BitVec.add_zero _).symm
    refine (if_pos zero).trans ?_
    exact congrArg (fun x => ({ leveled a b s with trav := { s.trav with position := x } } : State)) still
  · refine (if_neg zero).trans (if_neg fun out => inside ⟨zero, ?_⟩)
    exact (overtravelled_iff (stepped a b s)).1 out

theorem countStep_outside {a b : Bool} (moves : s.encoderCount a b ≠ 0) (out : Outside (stepped a b s)) :
    (leveled a b s).countStep (s.encoderCount a b) = (stepped a b s).fault .overtravel :=
  (if_neg moves).trans (if_pos ((overtravelled_iff (stepped a b s)).2 out))

theorem stepped_agrees (sound : s.Sound) (ready : s.ex.life = .ready) (a b : Bool) : Agrees (stepped a b s) :=
  (Agrees.of_sound sound ready).aside { }

theorem encoderStep_inside (sound : s.Sound) (ready : s.ex.life = .ready) {a b : Bool}
    (inside : ¬ (s.encoderCount a b ≠ 0 ∧ Outside (stepped a b s))) :
    exec (.encoderStep a b) s = .next (stepped a b s) := by
  have settled : (stepped a b s).Settled := settled_congr sound.settled rfl rfl rfl rfl rfl rfl
  rw [encoderStep_run, event_ready (leveled a b s) _ ready, countStep_inside a b inside, endEvent_of_settled _ settled]

/-- What a step outside the bounds leaves: the fault, at the new position (R66, R67). -/
theorem encoderStep_outside (sound : s.Sound) (ready : s.ex.life = .ready) {a b : Bool} (moves : s.encoderCount a b ≠ 0)
    (out : Outside (stepped a b s)) : Completes (.encoderStep a b) s fun t =>
      t.trav.position = (stepped a b s).trav.position ∧ t.pins = (stepped a b s).pins ∧
        FaultEvent .overtravel (stepped a b s) t := by
  have agrees := stepped_agrees sound ready a b
  have other := agrees.work.homed_ne_faulted out.1
  have event := fault_event agrees other .overtravel
  have taken := endEvent_commandTaken (stdStartDue_of_head (by
    rw [(fault_faulted other .overtravel).head]
    exact HeadState.noConfusion))
  refine completes_from (encoderStep_run a b s) ready (countStep_outside moves out) ⟨?_, ?_, event⟩
  · rw [taken.frame]
    show ((stepped a b s).fault .overtravel).trav.position = _
    rw [(fault_leaves .overtravel (stepped a b s)).trav rfl]
    exact enterFaulted_position other _
  · exact ((fault_evolves .overtravel).trans endEvent_evolves).frame.pins (Set.notMem_empty _)

/-- Settles O52: a step inside the bounds is the count, one outside is the count and the fault. -/
theorem encoderStep : Obligations.EncoderStep := by
  intro a b s sound
  refine ⟨fun ready inside => encoderStep_inside sound ready inside, fun ready out => ?_, fun starting => ?_⟩
  · obtain ⟨t, run, position, pins, event⟩ := encoderStep_outside sound ready out.1 out.2
    exact ⟨t, run, position, pins, event.head, event.fault, event.duty, event.homed, event.causeWord⟩
  · rw [encoderStep_run, event_starting (leveled a b s) _ starting]
    rfl

/-! ## The faults of Table 3-1 -/

theorem fieldActive_fault {c : Instr} {f : State → State} {i : FieldInput} {cause : FaultCause}
    (run : exec c s = .next (s.fieldActive i f)) (ready : s.ex.life = .ready) (inactive : s.pins.field i = false)
    (taken : f ({ s with pins := s.pins.setField i true } : State) =
      ({ s with pins := s.pins.setField i true, trav := s.trav.setField i true } : State).fault cause)
    (sound : s.Sound) (other : s.trav.head ≠ .faulted) : Completes c s (FaultEvent cause s) := by
  let v : State := { s with pins := s.pins.setField i true, trav := s.trav.setField i true }
  have same : v.trav.head = s.trav.head := by cases i <;> rfl
  have agrees : Agrees v := (Agrees.of_sound sound ready).aside (setField_aside i true _ s)
  rw [fieldActive_inactive i f inactive] at run
  obtain ⟨faulted, scan, batch, ctx, shutter, ref, record, std⟩ := fault_event agrees (by rw [same]; exact other) cause
  exact completes_from run ready taken ⟨faulted, scan, batch, ctx, shutter, ref, record, std⟩

/-- Settles O49: each row of Table 3-1 runs the fault, from the state with the level or the position that calls for it. -/
theorem faultTaken : Obligations.FaultTaken := by
  intro c s cause sound ready row
  have taken : Completes c s (FaultEvent cause s) := by
    rcases row with ⟨rfl, rfl, time, head⟩ | ⟨rfl, rfl, pin, unhomed, std, other⟩ | ⟨rfl, rfl, pin, unhomed, std, other, homing⟩ |
      ⟨rfl, rfl, pin, unhomed, other⟩ | ⟨a, b, rfl, rfl, homed, std, moves, bounds⟩
    · have due : s.stallDue = true := by
        rw [State.stallDue, decide_eq_true time, Bool.and_true]
        rcases head with e | e | e | e | e | e <;> rw [e] <;> rfl
      have other : s.trav.head ≠ .faulted := by
        rcases head with e | e | e | e | e | e <;> rw [e] <;> exact HeadState.noConfusion
      exact completes_run rfl ready (if_pos due) (fault_event (Agrees.of_sound sound ready) other .stall)
    · exact fieldActive_fault (i := .backLim) rfl ready pin
        (backLimEvent_fault ((backLimChecked_iff _).2 ⟨unhomed, std, other⟩)) sound other
    · exact fieldActive_fault (i := .frontLim) rfl ready pin
        (frontLimEvent_fault ((frontLimChecked_iff _).2 ⟨unhomed, std, other, homing⟩)) sound other
    · exact fieldActive_fault (i := .drvFault) rfl ready pin
        (drvFaultEvent_fault ((driveChecked_iff _).2 ⟨unhomed, other⟩)) sound other
    · obtain ⟨t, run, -, -, event⟩ := encoderStep_outside (a := a) (b := b) sound ready moves ⟨homed, std, bounds⟩
      obtain ⟨faulted, scan, batch, ctx, shutter, ref, record, std⟩ := event
      exact ⟨t, run, faulted, scan, batch, ctx, shutter, ref, record, std⟩
  obtain ⟨t, run, event⟩ := taken
  exact ⟨t, run, event.head, event.duty, event.homed, event.fault, event.dwell, event.causeWord, event.headWord,
    event.notice, event.scan, event.batch, event.ctx, event.shutter, event.ref, event.record, event.std⟩

end Sys2Proof.Proofs
end


section
/-!
PROOFS. The drive's direction and the departure permission over every command (R52, section 3.2; R54, R73, R79), and the
goal by the claims (R74).
-/
namespace Sys2Proof.Proofs

open Sys2Proof.Machine Sys2Proof.Laws

-- One proof after another: threads that wait for each other count against the memory limit of the check.
set_option Elab.async false

variable {s t u v : State} {p : Aspect}

/-! ## Faults, breaks and the ends of a standardize -/

/-- The drive's part and the permission, where nothing more is watched. -/
theorem Leaves.of_drive (dir : t.trav.dir = s.trav.dir) (rest : s.trav.duty = 0 → t.trav.duty = 0)
    (permits : Permits s.arb → Permits t.arb) : Leaves .drive s t where
  dir := dir
  rest := rest
  permits := permits
  trav e := nomatch e
  headWord e := nomatch e
  causeWord e := nomatch e
  watch e := nomatch e
  breakWords e := nomatch e

theorem applyPoint_leaves_of (other : p ≠ .head) (s : State) : Leaves p s s.applyPoint.state :=
  applyPoint_leaves fun e => absurd e other

theorem fault_leaves_of (other : p ≠ .head) (cause : FaultCause) (s : State) : Leaves p s (s.fault cause) :=
  (((enterFaulted_leaves other cause s).trans
    (ite_leaves ((abortScan_leaves _ _).trans (applyPoint_leaves_of other _)))).trans (endBatch_leaves _ _)).trans
    (ite_leaves (((stdEarlyEnd_leaves _ _ _).trans (applyPoint_leaves_of other _)).trans (recompute_leaves _ _)))

theorem declare_leaves (cues : BitVec 4) (cuePos : Word) (s : State) : Leaves .drive s (s.declare cues cuePos) :=
  ((breakStart_leaves Aspect.noConfusion s).trans (handGoal_leaves Aspect.noConfusion _ _)).trans
    ((writeHistory_leaves Aspect.noConfusion ..).trans (setNotice_leaves _ _))

theorem checkResume_leaves (s : State) : Leaves .drive s s.checkResume :=
  ite_leaves ((resumeCore_leaves Aspect.noConfusion s).trans (handGoal_leaves Aspect.noConfusion _ _))

theorem setMem_leaves (m : Mem) (s : State) : Leaves .drive s { s with mem := m } := .of_drive rfl id id

theorem edgeCue_leaves (s : State) : Leaves .drive s s.edgeCue := by
  unfold State.edgeCue
  split
  · split
    · exact declare_leaves _ _ s
    · exact setMem_leaves _ s
    · exact .refl _ s
  · exact .refl _ s

theorem lineCue_leaves (s : State) : Leaves .drive s s.lineCue := by
  unfold State.lineCue
  split
  · split
    · exact declare_leaves _ _ s
    · exact setMem_leaves _ s
    · exact .refl _ s
  · exact .refl _ s

theorem gaugeDeclare_leaves (cuePos : Word) (s : State) : Leaves .drive s (s.gaugeDeclare cuePos) := by
  unfold State.gaugeDeclare
  split
  · exact .refl _ s
  · exact declare_leaves _ _ s

theorem parkAfterStd_leaves (other : p ≠ .head) (s : State) : Leaves p s s.parkAfterStd :=
  (((setHead_leaves other _ s).trans (applyPoint_leaves_of other _)).trans (recompute_leaves _ _)).trans
    (takeGoalStill_leaves other _ _ _)

theorem stdLinkEnd_leaves (other : p ≠ .head) (s : State) : Leaves p s s.stdLinkEnd :=
  ite_leaves ((stdEarlyEnd_leaves _ _ s).trans (parkAfterStd_leaves other _))

theorem actOnResult_leaves (acc : Bool × State) (e : StdEntry) : Leaves p acc.2 (State.actOnResult acc e).2 := by
  have tried : Leaves p acc.2 (acc.2.setUntried e.chan false) := { }
  unfold State.actOnResult
  dsimp only
  split
  · exact (tried.trans (setRef_leaves _ _ _)).trans (clearAlarm_leaves _ _ _)
  all_goals exact tried.trans (raiseAlarm_leaves _ _ _)

theorem stdConclude_leaves (s : State) : Leaves p s s.stdConclude := by
  unfold State.stdConclude
  split
  · exact .refl p s
  · exact ((foldl_snd_leaves actOnResult_leaves _ (false, s)).trans (produce_leaves _ _ _)).trans (finishStd_leaves _)

theorem measureEnd_leaves (other : p ≠ .head) (s : State) : Leaves p s s.measureEnd := by
  have begun : Leaves p s s.beginSettleRef := by
    unfold State.beginSettleRef
    split
    · exact .refl p s
    · exact { }
  unfold State.measureEnd
  split
  · exact begun
  · exact (stdConclude_leaves s).trans (parkAfterStd_leaves other _)

theorem settleEnd_leaves (s : State) : Leaves p s s.settleEnd := by
  unfold State.settleEnd
  split
  · exact .refl p s
  · exact { }

/-! ## A frame's way through the blocks (R90) -/

theorem stdFrame_leaves (other : p ≠ .head) (xs : List Sample) (s : State) : Leaves p s (s.stdFrame xs) := by
  unfold State.stdFrame
  split
  · exact .refl p s
  · rename_i ctx _
    have counted : Leaves p s { s with std.ctx := some (ctx.count1 s.link.echoPending xs) } := { }
    dsimp only
    split
    · exact counted.trans (settleEnd_leaves _)
    · exact counted.trans (ite_leaves (measureEnd_leaves other _))

theorem startBatch_leaves (s : State) : Leaves p s s.startBatch := { }

theorem checkBatchFull_leaves (s : State) : Leaves p s s.checkBatchFull := by
  have ended : Leaves p s { s with bin.batch := none } := { }
  unfold State.checkBatchFull
  split
  · exact ite_leaves ((ended.trans (produce_leaves _ _ _)).trans (startBatch_leaves _))
  · exact .refl p s

theorem batchFrame_leaves (f : Machine.Frame) (xs : List Sample) (s : State) : Leaves p s (s.batchFrame f xs) := by
  have taken : ∀ (v : State) (b : Option Batch), Leaves p v ({ v with bin.batch := b } : State) := fun _ _ => { }
  unfold State.batchFrame
  refine ite_leaves ?_
  split
  · exact ite_leaves ((taken s _).trans (checkBatchFull_leaves _))
  · exact ite_leaves (((startBatch_leaves s).trans (taken _ _)).trans (checkBatchFull_leaves _))

theorem scanFrame_leaves (f : Machine.Frame) (xs : List Sample) (s : State) : Leaves p s (s.scanFrame f xs) := by
  unfold State.scanFrame
  split
  · exact ite_leaves { }
  · exact .refl p s

theorem liveSamples_leaves (xs : List Sample) (s : State) : Leaves .drive s (s.liveSamples xs) := by
  refine foldl_leaves (fun v x => ?_) xs s
  unfold State.liveSample
  dsimp only
  split <;> exact .of_drive rfl id id

theorem convertFrame_leaves (f : Machine.Frame) (slots : List SlotRx) (valid : Bool) (s : State) :
    Leaves .drive s (s.convertFrame f slots valid) := by
  have moved : ∀ v : State, ∀ xs, Leaves .drive v (v.moveCounts f xs) := fun v xs => ite_leaves (.of_drive rfl id id)
  unfold State.convertFrame State.distribute
  dsimp only
  refine (liveSamples_leaves (frameSamples s.page s.std.refs slots f.slotCount valid) s).trans ?_
  split
  · exact stdFrame_leaves Aspect.noConfusion _ _
  · exact ((scanFrame_leaves _ _ _).trans (batchFrame_leaves _ _ _)).trans ((moved _ _).trans (gaugeDeclare_leaves _ _))

theorem setLink_leaves (l : HeadLink) (s : State) : Leaves p s { s with link := l } := { }

theorem linkDownCore_leaves (cause : LinkCause) (s : State) : Leaves p s (s.linkDownCore cause) :=
  (((setLink_leaves { s.link with up := false, lossCount := 0, goodRun := 0, echoCount := 0 } s).trans
    (live_leaves 0x02C 0 _)).trans (raiseAlarm_leaves _ _ _)).trans (setNotice_leaves _ _)

theorem linkDown_leaves (cause : LinkCause) (s : State) : Leaves .drive s (s.linkDown cause) :=
  ((linkDownCore_leaves cause s).trans (handGoal_leaves Aspect.noConfusion _ _)).trans
    (stdLinkEnd_leaves Aspect.noConfusion _)

theorem linkUp_leaves (s : State) : Leaves .drive s s.linkUp :=
  ((((setLink_leaves { s.link with up := true } s).trans (live_leaves 0x02C 1 _)).trans (clearAlarm_leaves _ _ _)).trans
    (setNotice_leaves _ _)).trans (handGoal_leaves Aspect.noConfusion _ _)

theorem echoTimeout_leaves (s : State) : Leaves .drive s s.echoTimeout := by
  have counted : Leaves .drive s { s with link.echoCount := 0 } := { }
  unfold State.echoTimeout
  dsimp only
  split
  · exact counted.trans (linkDown_leaves _ _)
  · exact counted

theorem judgeLink_leaves (s : State) : Leaves .drive s s.judgeLink := by
  have echo : Leaves .drive s (if s.echoDue then s.echoTimeout else s) := ite_leaves (echoTimeout_leaves s)
  unfold State.judgeLink
  dsimp only
  split
  · exact linkDown_leaves _ s
  · exact echo.trans (ite_leaves (linkUp_leaves _))

theorem tempAlarm_leaves (status : Option SlotWord) (s : State) : Leaves p s (s.tempAlarm status) := by
  have noted : ∀ b, Leaves p s { s with link.lastTempAlarm := b } := fun b => { }
  unfold State.tempAlarm
  split
  · exact .refl p s
  · dsimp only
    split
    · exact .refl p s
    · split
      · exact (noted _).trans (raiseAlarm_leaves _ _ _)
      · exact (noted _).trans (clearAlarm_leaves _ _ _)

theorem echoCheck_leaves (f : Machine.Frame) (status : Option SlotWord) (s : State) :
    Leaves p s (s.echoCheck f status) := by
  rcases echoCheck_cases f status s with e | e | e <;> rw [e]
  · exact .refl p s
  · exact { }
  · exact { }

theorem countFrame_leaves (received : Bool) (s : State) : Leaves p s (s.countFrame received) := by
  unfold State.countFrame
  split <;> exact { }

theorem frameReceived_leaves (slots : List SlotRx) (s : State) : Leaves .drive s (s.frameReceived slots) := by
  have landed : Leaves .drive s { s with link.inFlight := none } := { }
  unfold State.frameReceived
  split
  · exact .refl _ s
  · exact ((((landed.trans (echoCheck_leaves _ _ _)).trans (countFrame_leaves _ _)).trans (judgeLink_leaves _)).trans
      (tempAlarm_leaves _ _)).trans (convertFrame_leaves _ _ _ _)

/-! ## The close of a scan and the arrivals -/

theorem side_leaves (j : Judged) (side : Side) (missed : Bool) : Leaves p j.state (j.side side missed).state := by
  unfold Judged.side
  split
  · dsimp only
    split
    · exact (setMiss_leaves _ _ _).trans (raiseAlarm_leaves _ _ _)
    · exact setMiss_leaves _ _ _
  · exact setMiss_leaves _ _ _

theorem judgeEdges_leaves (ctx : ScanCtx) (s : State) : Leaves p s (s.judgeEdges ctx).state := by
  have sides : ∀ front back, Leaves p s
      ((Judged.side { kinds := 0, cue := false, state := s } .front front).side .back back).state :=
    fun front _ => (side_leaves { kinds := 0, cue := false, state := s } .front front).trans (side_leaves _ _ _)
  unfold State.judgeEdges
  split
  · split
    · exact ((setEdges_leaves _ _ s).trans (setMiss_leaves .front 0 _)).trans (setMiss_leaves .back 0 _)
    · exact sides _ _
  · exact sides _ _

theorem moveEntry_leaves (i : Fin 48) (j : Judgement) (x : Int) (raise clear : Nat) (s : State) :
    Leaves p s (s.moveEntry i j x raise clear).2 := by
  unfold State.moveEntry
  dsimp only
  split
  · split
    · split
      · exact clearAlarm_leaves _ _ _
      · exact setAlarm_leaves _ _ _
    iterate 2 exact setAlarm_leaves _ _ _
  · split
    · split
      · exact raiseAlarm_leaves _ _ _
      · exact setAlarm_leaves _ _ _
    iterate 2 exact setAlarm_leaves _ _ _

theorem evalChannel_leaves (c : Fin 9) (avg : Int) (bins : List ProfBin) (acc : Word × State) :
    Leaves p acc.2 (State.evalChannel c avg bins acc).2 := by
  refine foldl_snd_leaves (fun acc kind => ?_) scanKinds acc
  unfold State.evalKind
  dsimp only
  split
  · exact moveEntry_leaves _ _ _ _ _ _
  · exact .refl p _

theorem profileClose_leaves (ctx : ScanCtx) (kinds : Word) (s : State) : Leaves p s (s.profileClose ctx kinds).2 := by
  unfold State.profileClose
  dsimp only
  refine Leaves.trans ?_ (produce_leaves _ _ _)
  split
  · exact Leaves.trans { } (foldl_snd_leaves (fun acc c => evalChannel_leaves _ _ _ acc) _ (_, _))
  · exact .refl p s

theorem scanEnded_leaves (s : State) : Leaves p s (scanEnded s) :=
  Leaves.trans (t := ({ s with bin.scan := none } : State).live 0x058 0)
    (Leaves.trans (t := ({ s with bin.scan := none } : State)) { } (live_leaves 0x058 _ _)) { }

/-- The edge judgement of a close, under TRACK (R129, R130). -/
def closingJudgement (ctx : ScanCtx) (s : State) : Judged :=
  if s.page.edgeTrack then s.judgeEdges ctx else { kinds := 0, cue := false, state := s }

/-- A close is the edge judgement, the profile unit, the scan's end and the due condition (R129). -/
theorem closeScan_found {ctx : ScanCtx} (found : s.bin.scan = some ctx) :
    s.closeScan = ((closingJudgement ctx s).cue,
      ((scanEnded ((closingJudgement ctx s).state.profileClose ctx (closingJudgement ctx s).kinds).2).tellDue.recompute
        .other).state) := by
  unfold State.closeScan
  rw [found]
  rfl

theorem closingJudgement_leaves (ctx : ScanCtx) (s : State) : Leaves p s (closingJudgement ctx s).state := by
  unfold closingJudgement
  split
  · exact judgeEdges_leaves ctx s
  · exact .refl p s

theorem closeScan_leaves (s : State) : Leaves p s s.closeScan.2 := by
  cases found : s.bin.scan with
  | none =>
    rw [State.closeScan, found]
    exact .refl p s
  | some ctx =>
    have due : ∀ v : State, Leaves p v v.tellDue := fun _ => { }
    rw [closeScan_found found]
    exact ((((closingJudgement_leaves ctx s).trans (profileClose_leaves ctx _ _)).trans (scanEnded_leaves _)).trans
      (due _)).trans (recompute_leaves _ _)

theorem depart_leaves (other : p ≠ .head) (d : ScanDir) (s : State) : Leaves p s (s.depart d) :=
  (HeadMove.depart s d).leaves other

theorem enterTurning_leaves (other : p ≠ .head) (side : Side) (s : State) : Leaves p s (s.enterTurning side) := by
  have turned := (setHead_leaves other .turning s).trans (setTrav_leaves other
    { (s.setHead .turning).trav with turn := side, dwellTimer := some ((s.setHead .turning).page.dwellMs * 1000) } _)
  unfold State.enterTurning
  dsimp only
  split
  · exact turned.trans (depart_leaves other _ _)
  · exact turned

theorem arriveGoal_leaves (other : p ≠ .head) (side : Side) (s : State) : Leaves p s (s.arriveGoal side) := by
  unfold State.arriveGoal
  split
  · exact enterTurning_leaves other side s
  · cases side with
    | back => exact enterTurning_leaves other .back s
    | front => exact (HeadMove.returning s).leaves other
  · exact (HeadMove.returning s).leaves other
  · exact (HeadMove.standing s).leaves other
  · exact (HeadMove.homing s).leaves other
  · exact (HeadMove.movingToHold s).leaves other

theorem arrived_leaves (other : p ≠ .head) (side : Side) (r : Recomputed) : Leaves p r.state (arrived side r) := by
  unfold arrived
  split
  · exact .refl p _
  · exact takeGoalStill_leaves other _ _ _
  · exact arriveGoal_leaves other side _

theorem arriveScan_leaves (side : Side) (s : State) : Leaves .drive s (s.arriveScan side) := by
  have moved := ((closeScan_leaves (p := .drive) s).trans (applyPoint_leaves_of Aspect.noConfusion _)).trans
    (arrived_leaves Aspect.noConfusion side s.closeScan.2.applyPoint)
  have cue : ∀ (v : State) (g : Word), Leaves .drive v (v.edgeCueAfterApply g) := fun v g =>
    Leaves.trans (t := ({ v with ex.generation := g } : State).edgeCue)
      (Leaves.trans (t := ({ v with ex.generation := g } : State)) { } (edgeCue_leaves _)) { }
  rw [arriveScan_eq]
  split
  · exact moved.trans (cue _ _)
  · exact moved

theorem arrive_leaves (s : State) : Leaves .drive s s.arrive := by
  have rests : ∀ h a b, Leaves .drive s ((s.setHead h).takeGoalStill a b) := fun h a b =>
    (setHead_leaves Aspect.noConfusion h s).trans (takeGoalStill_leaves Aspect.noConfusion a b _)
  unfold State.arrive
  split
  · exact ite_leaves (rests _ _ _)
  · exact arriveScan_leaves _ s
  · exact arriveScan_leaves _ s
  · exact ((setHead_leaves Aspect.noConfusion _ s).trans (startBatch_leaves _)).trans
      (takeGoalStill_leaves Aspect.noConfusion _ _ _)
  · exact rests _ _ _
  · exact rests _ _ _
  all_goals exact .refl _ s

/-! ## The end of an event -/

theorem stdStart_leaves (other : p ≠ .head) (s : State) : Leaves p s s.stdStart := by
  have begun : ∀ ctx, Leaves p s { s with std.ctx := ctx } := fun _ => { }
  exact ite_leaves ((begun _).trans (setHead_leaves other _ _))

theorem commandCompare_leaves (s : State) : Leaves p s s.commandCompare := by
  unfold State.commandCompare
  split
  · exact .refl p s
  · exact { }

theorem endEvent_leaves (other : p ≠ .head) (s : State) : Leaves p s s.endEvent :=
  (stdStart_leaves other s).trans (commandCompare_leaves _)

theorem event_leaves {f : State → State} (h : Leaves .drive s (f s)) : Leaves .drive s (s.event f) := by
  unfold State.event
  split
  · exact h.trans (endEvent_leaves Aspect.noConfusion _)
  · exact .refl _ s

/-! ## Resets and writes -/

/-- A recompute gives the permission afresh, whatever became of the panel inhibit (R73, R79). -/
theorem recompute_permits (ev : GoalEvent) (s : State) : Permits (s.recompute ev).state.arb := by
  have inhibit : (s.recompute ev).state.arb.panelInhibit = s.arb.panelInhibit := by
    unfold State.recompute
    dsimp only
    split
    · rfl
    · split <;> rfl
  exact (recompute_granted s ev).trans (congrArg Bool.not inhibit.symm)

theorem recompute_leaves_of (ev : GoalEvent) (dir : t.trav.dir = s.trav.dir)
    (rest : s.trav.duty = 0 → t.trav.duty = 0) : Leaves .drive s (t.recompute ev).state :=
  have same := recompute_leaves (p := .drive) ev t
  .of_drive (same.dir.trans dir) (same.rest ∘ rest) fun _ => recompute_permits ev t

theorem foldl_liveWords_trav {α : Type} (off : α → Nat) (ws : State → α → List Word) (l : List α) (s : State) :
    (l.foldl (fun s a => s.liveWords (off a) (ws s a)) s).trav = s.trav := by
  induction l generalizing s with
  | nil => rfl
  | cons a l ih => exact (ih _).trans rfl

theorem foldl_liveDisable_trav (l : List (Fin 9)) (s : State) :
    (l.foldl (fun s c => s.liveDisable c) s).trav = s.trav := by
  have one : ∀ (v : State) (c : Fin 9), (v.liveDisable c).trav = v.trav := fun _ _ => rfl
  induction l generalizing s with
  | nil => rfl
  | cons a l ih => exact (ih (s.liveDisable a)).trans (one s a)

theorem liveTables_trav (s : State) : s.liveTables.trav = s.trav :=
  (foldl_liveDisable_trav _ _).trans ((foldl_liveWords_trav _ _ _ _).trans (foldl_liveWords_trav _ _ _ _))

theorem startGoal_leaves (dir : t.trav.dir = s.trav.dir) (rest : s.trav.duty = 0 → t.trav.duty = 0) :
    Leaves .drive s t.startGoal :=
  (recompute_leaves_of .other dir rest).trans (.of_drive rfl id id)

/-- The owners' words written at the start-up leave the traverse controller. -/
theorem startUp_shown_trav (s : State) : s.startUp.liveExchange.liveBlocks.liveTables.trav = s.startUp.trav :=
  liveTables_trav _

theorem startUpComplete_leaves (s : State) : Leaves .drive s s.startUpComplete := by
  have trav := startUp_shown_trav s
  unfold State.startUpComplete
  dsimp only
  generalize s.startUp.liveExchange.liveBlocks.liveTables = shown at trav ⊢
  have dir : shown.trav.dir = s.trav.dir := by rw [trav]; rfl
  have duty : shown.trav.duty = s.trav.duty := by rw [trav]; rfl
  have raised : Leaves .drive shown ((shown.raiseAlarm linkDownAlarm (some LinkCause.reset.code)).2.setNotice .restarted) :=
    (raiseAlarm_leaves _ _ _).trans (setNotice_leaves _ _)
  exact (startGoal_leaves (raised.dir.trans dir) fun still => raised.rest (duty.trans still)).trans
    (takeGoalStill_leaves Aspect.noConfusion _ _ _)

theorem warmReset_leaves (s : State) : Leaves .drive s s.warmReset := by
  have exchange : Leaves .drive s s.warmExchange :=
    (Leaves.trans (t := { s with ex := { s.ex with gateResult := .none, cause := .warm } }) { }
      (gateIdle_leaves _)).trans (setNotice_leaves _ _)
  have discard : ∀ v : State, Leaves .drive v v.warmDiscard := fun v => by
    have scan : Leaves .drive v v.discardScan := ite_leaves (.of_drive rfl id id)
    exact scan.trans { }
  have traverse : ∀ v : State, Leaves .drive v v.warmTraverse := fun v =>
    Leaves.trans (t := { v with trav := { v.trav with
      duty := 0, homed := v.trav.homed && decide (v.warmHead = .standing), stallTime := 0, stillness := 0
      dwellTimer := none, driveTimer := some Config.driveIntervalUs, prevPosition := v.trav.position
      frontLim := v.pins.frontLim, backLim := v.pins.backLim, drvFault := v.pins.drvFault } })
      (.of_drive rfl (fun _ => rfl) id) (setHead_leaves Aspect.noConfusion _ _)
  have link : ∀ v : State, Leaves .drive v v.warmLink := fun v => by
    unfold State.warmLink
    exact (setLink_leaves
      { v.link with
        inFlight := none, sampleTimer := some v.page.samplePeriod, lossCount := 0, goodRun := 0, echoCount := 0 } v).trans
      (ite_leaves (linkDownCore_leaves _ _))
  have counts : ∀ v : State, Leaves .drive v v.warmBreak := fun v => setBrk_leaves Aspect.noConfusion _ v
  have before := (((exchange.trans (discard _)).trans (traverse _)).trans (link _)).trans (counts _)
  have arbiter : Leaves .drive s s.warmExchange.warmDiscard.warmTraverse.warmLink.warmBreak.warmArbiter :=
    recompute_leaves_of .other before.dir before.rest
  exact arbiter.trans (takeGoalStill_leaves Aspect.noConfusion _ _ _)

theorem acceptMode_leaves (m : ReqMode) (w : Word) (s : State) : Leaves .drive s (s.acceptMode m w) := by
  unfold State.acceptMode
  dsimp only
  split <;> exact .of_drive rfl id id

theorem takeModeReq_leaves (req holdPos : Word) (s : State) : Leaves .drive s (s.takeModeReq req holdPos) := by
  unfold State.takeModeReq
  refine ite_leaves ?_
  split
  · exact acceptMode_leaves _ _ s
  · exact .refl _ s

theorem takeStdNow_leaves (v : Word) (s : State) : Leaves .drive s (s.takeStdNow v) := by
  unfold State.takeStdNow
  split
  · exact .refl _ s
  · exact { }

theorem stdNow_leaves (v : Word) (s : State) :
    Leaves .drive s (if v = 0 then s else (s.takeStdNow v).handGoal .other) := by
  split
  · exact .refl _ s
  · exact (takeStdNow_leaves v s).trans (handGoal_leaves Aspect.noConfusion _ _)

theorem takeRequests_leaves (req holdPos stdNow : Word) (s : State) :
    Leaves .drive s (s.takeRequests req holdPos stdNow) := by
  have taken := (takeModeReq_leaves req holdPos s).trans (takeStdNow_leaves stdNow _)
  unfold State.takeRequests
  dsimp only
  split
  · exact taken.trans (handGoal_leaves Aspect.noConfusion _ _)
  · exact taken

theorem takeBreakAck_leaves (v : Word) (s : State) : Leaves .drive s (s.takeBreakAck v) :=
  ite_leaves (Leaves.trans (t := ({ s with brk.latch := true } : State).writeAckTime) (.of_drive rfl id id)
    (checkResume_leaves _))

theorem takeFaultAck_leaves (v : Word) (s : State) : Leaves .drive s (s.takeFaultAck v) :=
  ite_leaves ((enterUnhomed_leaves Aspect.noConfusion s).trans (takeGoalStill_leaves Aspect.noConfusion _ _ _))

theorem takeArm_leaves (v : Word) (s : State) : Leaves .drive s (s.takeArm v) := by
  have watched : Leaves .drive s ({ s with brk.armed := decide (v ≠ 0) } : State).takeWatch.2 :=
    (setBrk_leaves Aspect.noConfusion _ s).trans (takeWatch_leaves Aspect.noConfusion _)
  unfold State.takeArm
  dsimp only
  split
  · exact .refl _ s
  · split
    · exact watched.trans (declare_leaves _ _ _)
    · exact watched

theorem concludeMode_leaves (r : Result) (s : State) : Leaves .drive s (s.concludeMode r) := by
  unfold State.concludeMode
  dsimp only
  split <;> exact .of_drive rfl id id

theorem modeWrite_leaves (req holdPos stdNow breakAck faultAck arm : Word) (s : State) :
    Leaves .drive s (s.modeWrite req holdPos stdNow breakAck faultAck arm) :=
  ((((takeRequests_leaves req holdPos stdNow s).trans (takeBreakAck_leaves breakAck _)).trans
    (takeFaultAck_leaves faultAck _)).trans (takeArm_leaves arm _)).trans (concludeMode_leaves _ _)

theorem applyNow_leaves (s : State) : Leaves .drive s s.applyNow :=
  (applyTake_leaves (p := .drive) fun e => nomatch e).trans (settle_leaves Aspect.noConfusion _)

theorem applyWrite_leaves (s : State) : Leaves .drive s s.applyWrite := by
  unfold State.applyWrite
  split
  · exact { }
  · split
    · exact applyNow_leaves s
    · exact .of_drive rfl id id

theorem edgeMissReached_leaves (side : Side) (s : State) : Leaves p s (s.edgeMissReached side) :=
  ite_leaves (raiseAlarm_leaves _ _ _)

theorem streakReached_leaves (i : Fin 36) (s : State) : Leaves p s (s.streakReached i) := by
  unfold State.streakReached
  dsimp only
  refine ite_leaves ?_
  split
  · exact ite_leaves (clearAlarm_leaves _ _ _)
  · exact ite_leaves (raiseAlarm_leaves _ _ _)

theorem lineExpiry_leaves (s : State) : Leaves .drive s s.lineExpiry := by
  have taken : Leaves .drive s { s with brk := { s.brk with lineTimer := none, line := s.pins.breakIn } } :=
    setBrk_leaves Aspect.noConfusion _ s
  unfold State.lineExpiry
  dsimp only
  refine ite_leaves ?_
  split
  · exact taken.trans (lineCue_leaves _)
  · split
    · exact taken.trans (checkResume_leaves _)
    · exact taken

theorem panelExpiry_leaves (i : PanelInput) (s : State) : Leaves .drive s (s.panelExpiry i) := by
  have level : Leaves .drive s
      (({ s with arb := (s.arb.setTimer i none).setPanel i (s.pins.panel i) } : State).recompute .other).state :=
    recompute_leaves_of .other rfl id
  unfold State.panelExpiry
  dsimp only
  refine ite_leaves ?_
  split
  · exact (level.trans (takeGoal_leaves Aspect.noConfusion _ _)).trans (setNotice_leaves _ _)
  · exact level

/-! ## The drive and the inputs -/

/-- A command that changes the direction leaves D at 0, and the permission stays the inhibit's. -/
structure TurnsAtRest (s t : State) : Prop where
  turn : t.trav.dir ≠ s.trav.dir → t.trav.duty = 0
  permits : Permits s.arb → Permits t.arb

theorem Leaves.turns (h : Leaves .drive s t) : TurnsAtRest s t := ⟨fun turned => absurd h.dir turned, h.permits⟩

theorem TurnsAtRest.trans (h1 : TurnsAtRest s t) (h2 : Leaves .drive t u) : TurnsAtRest s u :=
  ⟨fun turned => h2.rest (h1.turn (by rw [← h2.dir]; exact turned)), h2.permits ∘ h1.permits⟩

/-- A write beside the drive and the arbiter. -/
theorem ite_turns {q : Prop} [Decidable q] (trav : t.trav = s.trav) (arb : t.arb = s.arb) :
    TurnsAtRest s (if q then t else s) := by
  split
  · exact ⟨fun turned => absurd (by rw [trav]) turned, by rw [arb]; exact id⟩
  · exact (Leaves.refl _ s).turns

/-- The drive's step takes the motion's direction where D has come to 0 (R52 step 3). -/
theorem driveStep_turns (s : State) : TurnsAtRest s s.driveStep := by
  refine ⟨fun turned => ?_, id⟩
  by_contra moves
  exact turned (if_neg moves)

theorem driveExpiry_turns (s : State) : TurnsAtRest s s.driveExpiry := by
  unfold State.driveExpiry
  dsimp only
  split
  · exact (driveStep_turns s).trans (fault_leaves_of Aspect.noConfusion _ _)
  · exact (driveStep_turns s).trans (ite_leaves (arrive_leaves _))

theorem event_turns {f : State → State} (h : TurnsAtRest s (f s)) : TurnsAtRest s (s.event f) := by
  unfold State.event
  split
  · exact h.trans (endEvent_leaves Aspect.noConfusion _)
  · exact (Leaves.refl _ s).turns

/-- The event that a change of pins brings about. -/
theorem pins_event_leaves (pins : Pins) {f : State → State} (h : ∀ v, Leaves .drive v (f v)) :
    Leaves .drive s (({ s with pins := pins } : State).event f) :=
  have event : Leaves .drive { s with pins := pins } (({ s with pins := pins } : State).event f) := event_leaves (h _)
  .of_drive event.dir event.rest event.permits

theorem panelChange_leaves (i : PanelInput) (s : State) : Leaves .drive s (s.panelChange i) := by
  cases i <;> exact .of_drive rfl id id

theorem breakInChange_leaves (s : State) : Leaves .drive s s.breakInChange := setBrk_leaves Aspect.noConfusion _ s

theorem countStep_leaves (d : Int) (s : State) : Leaves .drive s (s.countStep d) := by
  have counted : Leaves .drive s { s with trav.position := s.trav.position + BitVec.ofInt 32 d } := .of_drive rfl id id
  unfold State.countStep
  dsimp only
  split
  · exact .refl _ s
  · exact counted.trans (ite_leaves (fault_leaves_of Aspect.noConfusion _ _))

theorem frontLimEvent_leaves (s : State) : Leaves .drive s s.frontLimEvent := by
  have level : Leaves .drive s { s with trav.frontLim := true } := .of_drive rfl id id
  unfold State.frontLimEvent
  dsimp only
  split
  · exact level.trans (fault_leaves_of Aspect.noConfusion _ _)
  · exact level.trans (ite_leaves (.of_drive rfl id id))

theorem backLimEvent_leaves (s : State) : Leaves .drive s s.backLimEvent := by
  have level : Leaves .drive s { s with trav.backLim := true } := .of_drive rfl id id
  exact level.trans (ite_leaves (fault_leaves_of Aspect.noConfusion _ _))

theorem drvFaultEvent_leaves (s : State) : Leaves .drive s s.drvFaultEvent := by
  have level : Leaves .drive s { s with trav.drvFault := true } := .of_drive rfl id id
  exact level.trans (ite_leaves (fault_leaves_of Aspect.noConfusion _ _))

theorem fieldActive_leaves (i : FieldInput) {f : State → State} (h : ∀ v, Leaves .drive v (f v)) :
    Leaves .drive s (s.fieldActive i f) := by
  unfold State.fieldActive
  split
  · exact .refl _ s
  · exact pins_event_leaves _ h

/-! ## Every command -/

/-- The cold-reset state permits departures, and its drive rests (Table 3-2). -/
theorem coldState_turns (active : Bool) (m : Mem) (s : State) : TurnsAtRest s (s.coldState active m) :=
  ⟨fun _ => rfl, fun _ => rfl⟩

theorem exec_turns (c : Instr) (run : exec c s = .next t) : TurnsAtRest s t := by
  cases c <;> cases run
  case coldReset => exact coldState_turns _ _ s
  case starting => exact coldState_turns _ _ s
  case startUpCompletion =>
    exact (ite_leaves ((startUpComplete_leaves s).trans (endEvent_leaves Aspect.noConfusion _))).turns
  case apply => exact (event_leaves (applyWrite_leaves s)).turns
  case pendingApplyTaken => exact (event_leaves (ite_leaves (applyNow_leaves s))).turns
  case mode => exact (event_leaves (modeWrite_leaves _ _ _ _ _ _ s)).turns
  case modeReq => exact (event_leaves ((takeRequests_leaves _ _ _ s).trans (concludeMode_leaves _ _))).turns
  case stdNow v =>
    exact (event_leaves ((stdNow_leaves v s).trans (concludeMode_leaves _ _))).turns
  case breakAck => exact (event_leaves ((takeBreakAck_leaves _ s).trans (concludeMode_leaves _ _))).turns
  case faultAck => exact (event_leaves ((takeFaultAck_leaves _ s).trans (concludeMode_leaves _ _))).turns
  case arm => exact (event_leaves ((takeArm_leaves _ s).trans (concludeMode_leaves _ _))).turns
  case restart => exact (ite_leaves ((warmReset_leaves s).trans (endEvent_leaves Aspect.noConfusion _))).turns
  case unknownCode => exact ite_turns rfl rfl
  case noticeWrite => exact ite_turns rfl rfl
  case noticeMaskWrite => exact ite_turns rfl rfl
  case otherRegisterWrite => exact (Leaves.refl _ s).turns
  case exchangeMemoryWrite => exact ite_turns rfl rfl
  case stateWordWrite => exact ite_turns rfl rfl
  case frameStart => exact ite_turns rfl rfl
  case frameReceived => exact (event_leaves (frameReceived_leaves _ s)).turns
  case echoTimeout => exact (event_leaves (ite_leaves (echoTimeout_leaves s))).turns
  case linkGoesDown => exact (event_leaves (ite_leaves (linkDown_leaves _ s))).turns
  case linkGoesUp => exact (event_leaves (ite_leaves (linkUp_leaves s))).turns
  case batchFull => exact (event_leaves (checkBatchFull_leaves s)).turns
  case gaugeCueFire => exact (event_leaves (gaugeDeclare_leaves _ s)).turns
  case standardizeStart => exact (event_leaves (stdStart_leaves Aspect.noConfusion s)).turns
  case settleEnd => exact (event_leaves (ite_leaves (settleEnd_leaves s))).turns
  case measureEnd => exact (event_leaves (ite_leaves (measureEnd_leaves Aspect.noConfusion s))).turns
  case driveIntervalExpiry => exact event_turns (driveExpiry_turns s)
  case arrival => exact (event_leaves (ite_leaves (arrive_leaves s))).turns
  case stall => exact (event_leaves (ite_leaves (fault_leaves_of Aspect.noConfusion _ s))).turns
  case edgeMissLimitReached => exact (event_leaves (edgeMissReached_leaves _ s)).turns
  case alarmStreakReached => exact (event_leaves (streakReached_leaves _ s)).turns
  case dwellExpiry => exact (event_leaves (ite_leaves (depart_leaves Aspect.noConfusion _ s))).turns
  case encoderStep a b =>
    exact (pins_event_leaves { s.pins with encA := a, encB := b } (countStep_leaves _)).turns
  case frontLimActive => exact (fieldActive_leaves .frontLim frontLimEvent_leaves).turns
  case backLimActive => exact (fieldActive_leaves .backLim backLimEvent_leaves).turns
  case drvFaultActive => exact (fieldActive_leaves .drvFault drvFaultEvent_leaves).turns
  case fieldInputInactive i =>
    refine Leaves.turns ?_
    split
    · cases i <;> exact .of_drive rfl id id
    · exact { }
  case panelInputChange i active =>
    refine Leaves.turns ?_
    split
    · exact .refl _ s
    · exact pins_event_leaves _ (panelChange_leaves i)
  case panelDebounceExpiry i => exact (event_leaves (panelExpiry_leaves i s)).turns
  case breakInChange active =>
    refine Leaves.turns ?_
    split
    · exact .refl _ s
    · exact pins_event_leaves _ breakInChange_leaves
  case lineDebounceExpiry => exact (event_leaves (lineExpiry_leaves s)).turns
  case breakResume => exact (event_leaves (checkResume_leaves s)).turns

/-- Settles O9: only the drive's step takes a direction, and it does so with D at 0. -/
theorem directionChangesOnlyAtRest : Obligations.DirectionChangesOnlyAtRest := fun c _ _ run => (exec_turns c run).turn

/-! ## The goal by the claims (R74) -/

theorem demand_iff (ready : s.ex.life = .ready) :
    (s.breakDemand || s.linkDemand || s.arb.panelPark) = true ↔
      s.brk.state = .broken ∨ s.link.up = false ∨ s.arb.panelPark = true := by
  simp [State.breakDemand, State.linkDemand, ready, or_assoc]

/-- Below the park demand the requested mode claims. -/
theorem claimedGoal_requested (none : (s.breakDemand || s.linkDemand || s.arb.panelPark) = false) :
    s.claimedGoal = match s.ex.reqMode with
      | .stop => .stop
      | .park => if s.std.stdNow then .standardize else .park
      | .home => .home
      | .scan => if s.std.due || s.std.stdNow then .standardize else .scan
      | .hold => if s.std.due || s.std.stdNow then .standardize else .hold := by
  unfold State.claimedGoal
  rw [none]
  rfl

/-- Under HOLD the goal record holds the requested position, whether it changed or not (R73). -/
theorem recompute_holdPos (ev : GoalEvent) (hold : s.claimedGoal = .hold) :
    (s.recompute ev).state.arb.holdPos = s.ex.holdPos := by
  unfold State.recompute
  dsimp only
  split
  · rfl
  · rename_i same
    by_contra differs
    exact same (.inr (.inr (decide_eq_true ⟨hold, fun e => differs e.symm⟩)))

theorem enqueue_arb (cs : List Instr) (s : State) : (enqueue s cs).arb = s.arb := by
  induction cs generalizing s with
  | nil => rfl
  | cons c cs ih =>
    unfold enqueue
    split
    · exact ih _
    · exact ih _

/-- Time moves the arbiter's timers alone. -/
theorem tick_permits (permits : Permits s.arb) : Permits s.tick.arb := by
  unfold State.tick
  split
  · unfold Permits
    dsimp only
    rw [enqueue_arb]
    exact permits
  · exact permits

/-- Every step keeps the permission the inhibit's (R54, R73, R79). -/
theorem step_permits (permits : Permits s.arb) (run : step s = .next t) : Permits t.arb := by
  unfold step at run
  split at run
  · cases run
    exact tick_permits permits
  · rename_i c rest _
    exact (exec_turns (s := { s with pending := rest }) c run).permits permits

/-- Settles O60: the claims from the top, and the permission through every step. -/
theorem goalByClaims : Obligations.GoalByClaims := by
  refine ⟨rfl, fun s t permits run => step_permits permits run, fun s ready => ?_⟩
  have demand := demand_iff ready
  have below : ¬ (s.brk.state = .broken ∨ s.link.up = false ∨ s.arb.panelPark = true) → _ := fun none =>
    claimedGoal_requested (Bool.eq_false_iff.2 (mt demand.1 none))
  refine ⟨fun some => if_pos (demand.2 some), fun none mode => ?_, fun none mode => ?_, fun none mode => ?_,
    fun none mode => ?_, fun none mode => ?_, fun ev => ⟨recompute_goal s ev, recompute_holdPos ev⟩⟩
  all_goals rw [below none, mode]

end Sys2Proof.Proofs
end


section
/-!
PROOFS. A declaration of a break from a state between events: the number, the entry of the history, the record of the work
that it ends (R61, R135, R176, R177); and the gauge cues that call for it (R170, R171).
-/
namespace Sys2Proof.Proofs

open Sys2Proof.Machine Sys2Proof.Laws

-- One proof after another: threads that wait for each other count against the memory limit of the check.
set_option Elab.async false

variable {s t u v : State}

/-! ## The work that the goal PARK of a break ends -/

/-- A scan or a batch is open: the work that a break ends. -/
def sheetWork (s : State) : Bool := s.bin.scan.isSome || s.bin.batch.isSome

theorem sheetWork_closed (work : WorkOk s) (shut : s.trav.head.shutterOpen = false) : sheetWork s = false := by
  obtain ⟨scan, batch⟩ := work.off_sheet shut
  rw [sheetWork, scan, batch]
  rfl

/-- The goal PARK of a break ends an open scan or batch with one record (R61, R135). -/
theorem takeGoal_break_record (work : WorkOk s) (goal : s.arb.goal = .park) (cause : s.arb.cause = .brk) (p : Bool) :
    (s.takeGoal p).ex.lastRecord = s.ex.lastRecord + (if sheetWork s then 1 else 0) := by
  have none : ∀ {x : BitVec 32}, x = x + (if false = true then 1 else 0) := (BitVec.add_zero _).symm
  by_cases still : s.trav.head.traversing = true
  · have whole : s.takeGoal p = s.abortForGoal :=
      takeGoal_traversing p (traversing_iff.1 still) (by rw [goal]; exact Goal.noConfusion)
        (by rw [goal]; exact Goal.noConfusion)
    rw [whole, sheetWork, work.scan, still]
    exact (abortForGoal_oneRecord work still).1
  have scan : s.bin.scan.isSome = false := work.scan.trans (Bool.eq_false_iff.2 still)
  cases found : s.bin.batch with
  | none =>
    rw [sheetWork, scan, found]
    by_cases std : s.trav.head = .standardizing
    · have whole : s.takeGoal p = s := by
        unfold State.takeGoal
        rw [std, goal]
        rfl
      rw [whole]
      exact none
    · have whole : s.takeGoal p = s.takeGoalStill p false := by
        unfold State.takeGoal
        cases head : s.trav.head with
        | outbound | inbound => rw [head] at still; exact absurd rfl still
        | standardizing => exact absurd head std
        | unhomed | homing | parked | standing | turning | holding | movingToHold | returning | stopping | faulted => rfl
      rw [whole, ((takeGoalStill_move p false s).records found).1.lastRecord]
      exact none
  | some b =>
    have holding : s.trav.head = .holding := work.batch (by rw [found]; rfl)
    have whole : s.takeGoal p = (s.endBatch .brk).enterReturning := by
      rw [State.takeGoal, State.takeGoalStill, holding, goal, cause]
      rfl
    rw [whole, sheetWork, found, Option.isSome_some, Bool.or_true]
    exact ((setTrav_records _ _).trans (setHead_records _ _)).lastRecord.trans (endBatch_oneRecord found (.inl rfl))

theorem claimedGoal_broken (broken : s.brk.state = .broken) : s.claimedGoal = .park :=
  claimedGoal_of_demand (by rw [State.breakDemand, broken]; rfl)

/-- A break handed to the head ends the open work with one record. -/
theorem handGoal_break_record (works : Works s) (broken : s.brk.state = .broken) :
    (s.handGoal .breakRaised).ex.lastRecord = s.ex.lastRecord + (if sheetWork s then 1 else 0) := by
  have claims := claimedGoal_broken broken
  obtain ⟨ex, -, -, -, bin, -⟩ := recompute_ex .breakRaised s
  have sheet : sheetWork (s.recompute .breakRaised).state = sheetWork s := by rw [sheetWork, bin]; rfl
  rcases handGoal_cases s .breakRaised with ⟨same, e⟩ | ⟨changed, e⟩ <;> rw [e]
  · have goal : s.arb.goal = .park := (recompute_goal_same same).symm.trans ((recompute_goal s _).trans claims)
    have shut : s.trav.head.shutterOpen = false :=
      Bool.eq_false_iff.2 fun opened => (((allows_iff _ _).1 works.allowed).2 opened).1 goal
    rw [ex, sheetWork_closed works.work shut]
    exact (BitVec.add_zero _).symm
  · rw [takeGoal_break_record (works.work.congr (recompute_workSame _ s)) ((recompute_goal s _).trans claims)
      ((recompute_cause .breakRaised changed).trans (by rw [claims]; rfl)), sheet, ex]

/-! ## The start of a declaration (R176 steps 1 and 2) -/

/-- The monitor as a break starts: the next number, not acknowledged, no cue counted. -/
def brokenMonitor (b : BreakMon) : BreakMon :=
  { b with number := b.number + 1, latch := false, lowCount := 0, openCount := 0, state := .broken }

theorem breakStart_brk (s : State) : s.breakStart.brk = brokenMonitor s.brk := by
  unfold State.breakStart
  dsimp only
  rw [setBreakState_brk]
  rfl

theorem breakStart_stands (s : State) : BreakStands s.breakStart.brk := by
  rw [breakStart_brk]
  exact ⟨rfl, rfl, rfl, rfl⟩

theorem breakStart_frame (s : State) :
    s.breakStart.ex = s.ex ∧ s.breakStart.link = s.link ∧ s.breakStart.trav = s.trav ∧ s.breakStart.bin = s.bin := by
  unfold State.breakStart
  dsimp only
  exact ⟨State.setBreakState_ex .., State.setBreakState_link .., State.setBreakState_trav .., State.setBreakState_bin ..⟩

/-- The live state and number of the break (Table 11-7). -/
theorem breakStart_words (calm : s.brk.state ≠ .broken) :
    s.breakStart.liveWord 0x04C = 2 ∧ s.breakStart.liveWord 0x050 = s.brk.number + 1 := by
  let v : State := (({ s with brk := { s.brk with number := s.brk.number + 1, latch := false } } : State).live 0x050
    (s.brk.number + 1)).clearCounts
  have whole : s.breakStart = ({ v with brk.state := .broken } : State).live 0x04C 2 := if_neg calm
  rw [whole]
  exact ⟨live_liveWord _ _ _, (live_liveWord_other 0x04C _ _ (by decide)).trans (live_liveWord 0x050 _ _)⟩

/-! ## The break handed to the head -/

/-- What stands after the head has taken the goal of a break, before its history entry. -/
structure BreakHanded (s h : State) : Prop where
  brk : h.brk = brokenMonitor s.brk
  stateWord : h.liveWord 0x04C = 2
  numberWord : h.liveWord 0x050 = s.brk.number + 1
  time : h.link.timeCounter = s.link.timeCounter
  record : h.ex.lastRecord = s.ex.lastRecord + (if sheetWork s then 1 else 0)
  agrees : Agrees h
  goal : h.arb.goal = .park

theorem breakStart_handGoal (works : Works s) (calm : s.brk.state ≠ .broken) :
    BreakHanded s (s.breakStart.handGoal .breakRaised) := by
  have left := handGoal_leaves (p := .watch) Aspect.noConfusion .breakRaised s.breakStart
  have stands := breakStart_stands s
  have start : Works s.breakStart := works.congr (breakStart_workSame s) (by rw [breakStart_arb])
  obtain ⟨ex, -, -, bin⟩ := breakStart_frame s
  obtain ⟨stateWord, numberWord⟩ := breakStart_words calm
  have words := left.breakWords rfl stands
  have brk : (s.breakStart.handGoal .breakRaised).brk = brokenMonitor s.brk :=
    (left.watch rfl stands).trans (breakStart_brk s)
  have agrees := handGoal_agrees start .breakRaised
  refine ⟨brk, (readWord_of_sameBytes words (by decide) (by decide)).trans stateWord,
    (readWord_of_sameBytes words (by decide) (by decide)).trans numberWord,
    ((breakStart_evolves (own := ∅)).trans (handGoal_evolves _)).frame.time, ?_, agrees,
    goal_park_of_broken agrees.fits (by rw [brk]; rfl)⟩
  rw [handGoal_break_record start stands.broken, ex, sheetWork, bin]
  rfl

/-- Nothing is left open on the sheet under the goal PARK. -/
theorem BreakHanded.closed {h : State} (handed : BreakHanded s h) :
    h.trav.head.shutterOpen = false ∧ h.bin.scan = none ∧ h.bin.batch = none := by
  have shut : h.trav.head.shutterOpen = false :=
    Bool.eq_false_iff.2 fun opened => (((allows_iff _ _).1 handed.agrees.allowed).2 opened).1 handed.goal
  exact ⟨shut, handed.agrees.work.off_sheet shut⟩

/-! ## The history entry (R176 step 5, Table 11-9) -/

/-- The sixteen words of a history entry. -/
def entryWords16 (number time pos cuePos head cues work record : Word) : List Word :=
  [number, time, pos, cuePos, head, cues, work, record, 0, 0, 0, 0, 0, 0, 0, 0]

theorem writeHistory_entry (head : HeadState) (cues : BitVec 4) (pos cuePos : Word) (work : OpenWork) (record : Word)
    (s : State) {i : Nat} (hi : i < 16) :
    readWord (s.writeHistory head cues pos cuePos work record).mem (historyAddr (s.brk.newest + 1) + 4 * i) =
      (entryWords16 s.brk.number s.link.timeCounter pos cuePos head.code (cues.setWidth 32) work.code record)[i]'hi := by
  have range := historyAddr_range (s.brk.newest + 1)
  simp only [historyBase] at range
  unfold State.writeHistory
  dsimp only
  refine (readWord_writeWord_other _ _ _ _ (.inr ?_)).trans (readWord_writeWords_get (entryWords16 _ _ _ _ _ _ _ _) _ _ i hi)
  simp only [liveBase]
  omega

theorem writeHistory_newestWord (head : HeadState) (cues : BitVec 4) (pos cuePos : Word) (work : OpenWork) (record : Word)
    (s : State) : (s.writeHistory head cues pos cuePos work record).liveWord 0x054 =
      BitVec.ofNat 32 (s.brk.newest + 1).val := by
  unfold State.writeHistory
  exact live_liveWord 0x054 _ _

/-- The words of the state and the number of the break stand beside the entry and its index. -/
theorem writeHistory_low (head : HeadState) (cues : BitVec 4) (pos cuePos : Word) (work : OpenWork) (record : Word)
    (s : State) : SameBytes (s.writeHistory head cues pos cuePos work record).mem s.mem 0x0804C 0x08054 := by
  unfold State.writeHistory
  dsimp only
  refine sameBytes_trans (live_sameBytes _ 0x054 _ (.inl (Nat.le_refl _))) (sameBytes_writeWords _ _ _ (.inl ?_))
  exact Nat.le_trans (by decide) (historyAddr_range _).1

/-- The work that a declaration names (R177). -/
def workCode (s : State) : Word := if s.bin.scan.isSome then 1 else if s.bin.batch.isSome then 2 else 0

theorem endedWork_closed {h : State} (scan : h.bin.scan = none) (batch : h.bin.batch = none) :
    (endedWork s h).code = workCode s ∧ (endedWork s h = .none ↔ sheetWork s = false) := by
  unfold endedWork workCode sheetWork
  rw [scan, batch]
  cases s.bin.scan.isSome <;> cases s.bin.batch.isSome <;> decide

/-! ## The declaration -/

/-- What a declaration leaves (R176, R177). -/
structure BreakDeclared (cues : BitVec 4) (cuePos : Word) (s t : State) : Prop where
  brk : t.brk = { brokenMonitor s.brk with newest := s.brk.newest + 1 }
  goal : t.arb.goal = .park
  notice : t.noticeSet .brk = true
  shut : t.trav.head.shutterOpen = false
  scan : t.bin.scan = none
  batch : t.bin.batch = none
  record : t.ex.lastRecord = s.ex.lastRecord + (if sheetWork s then 1 else 0)
  entry : ∀ i (hi : i < 16), readWord t.mem (historyAddr (s.brk.newest + 1) + 4 * i) =
    (entryWords16 (s.brk.number + 1) s.link.timeCounter s.trav.position cuePos s.trav.head.code (cues.setWidth 32)
      (workCode s) (if sheetWork s then s.ex.lastRecord + 1 else 0))[i]'hi
  stateWord : t.liveWord 0x04C = 2
  numberWord : t.liveWord 0x050 = s.brk.number + 1
  newestWord : t.liveWord 0x054 = BitVec.ofNat 32 (s.brk.newest + 1).val

theorem declare_breakDeclared (works : Works s) (calm : s.brk.state ≠ .broken) (cues : BitVec 4) (cuePos : Word) :
    BreakDeclared cues cuePos s (s.declare cues cuePos) := by
  let h := s.breakStart.handGoal .breakRaised
  have handed : BreakHanded s h := breakStart_handGoal works calm
  obtain ⟨shut, scan, batch⟩ := handed.closed
  obtain ⟨code, idle⟩ := endedWork_closed (s := s) scan batch
  have number : h.brk.number = s.brk.number + 1 := by rw [handed.brk]; rfl
  have newest : h.brk.newest = s.brk.newest := by rw [handed.brk]; rfl
  have record : (if endedWork s h = .none then 0 else h.ex.lastRecord) =
      if sheetWork s then s.ex.lastRecord + 1 else 0 := by
    rw [handed.record]
    by_cases open_ : sheetWork s = true
    · rw [if_pos open_, if_pos open_, if_neg (by rw [idle, open_]; exact Bool.noConfusion)]
    · rw [if_neg open_, if_neg open_, if_pos (idle.2 (Bool.eq_false_iff.2 open_))]
  have whole : s.declare cues cuePos = (h.writeHistory s.trav.head cues s.trav.position cuePos (endedWork s h)
      (if endedWork s h = .none then 0 else h.ex.lastRecord)).setNotice .brk := rfl
  rw [whole, record]
  have low := writeHistory_low s.trav.head cues s.trav.position cuePos (endedWork s h)
    (if sheetWork s then s.ex.lastRecord + 1 else 0) h
  refine ⟨?_, handed.goal, noticeSet_setNotice _ _, shut, scan, batch, handed.record, fun i hi => ?_, ?_, ?_, ?_⟩
  · show ({ h.brk with newest := h.brk.newest + 1 } : BreakMon) = _
    rw [handed.brk]
    rfl
  · have word := writeHistory_entry s.trav.head cues s.trav.position cuePos (endedWork s h)
      (if sheetWork s then s.ex.lastRecord + 1 else 0) h hi
    simp only [newest, number, handed.time, code] at word
    exact word
  · exact (readWord_of_sameBytes low (by decide) (by decide)).trans handed.stateWord
  · exact (readWord_of_sameBytes low (by decide) (by decide)).trans handed.numberWord
  · exact (writeHistory_newestWord ..).trans (by rw [newest])

/-- The end of an event that starts no standardize moves the command word alone. -/
theorem CommandTaken.parts (taken : CommandTaken u t) : t.ex = u.ex ∧ t.trav = u.trav ∧ t.arb = u.arb ∧
    t.std = u.std ∧ t.bin = u.bin ∧ t.brk = u.brk ∧ t.mem = u.mem := by
  rw [taken.frame]
  exact ⟨rfl, rfl, rfl, rfl, rfl, rfl, rfl⟩

theorem BreakDeclared.taken {cues : BitVec 4} {cuePos : Word} (declared : BreakDeclared cues cuePos s u)
    (taken : CommandTaken u t) : BreakDeclared cues cuePos s t := by
  obtain ⟨ex, trav, arb, -, bin, brk, mem⟩ := taken.parts
  exact
    { brk := brk.trans declared.brk, goal := (congrArg Arbiter.goal arb).trans declared.goal
      notice := by unfold State.noticeSet; rw [ex]; exact declared.notice
      shut := by rw [trav]; exact declared.shut
      scan := by rw [bin]; exact declared.scan
      batch := by rw [bin]; exact declared.batch
      record := by rw [ex]; exact declared.record
      entry := fun i hi => by rw [mem]; exact declared.entry i hi
      stateWord := (taken.liveWord _).trans declared.stateWord
      numberWord := (taken.liveWord _).trans declared.numberWord
      newestWord := (taken.liveWord _).trans declared.newestWord }

/-! ## The gauge cues (R170, R171) -/

theorem cueFrame_iff (f : Machine.Frame) (s : State) : s.cueFrame f = true ↔
    (f.head = .outbound ∨ f.head = .inbound ∨ f.head = .holding) ∧
      s.bin.edgeFront ≤ f.position.toInt ∧ f.position.toInt < s.bin.edgeBack := by
  unfold State.cueFrame
  cases f.head <;> simp

/-- A count moves with the usable value of a judged frame while its cue is enabled, and stays otherwise. -/
theorem moveCount_rule (enabled judged : Bool) (q : Int → Bool) (reading : Option Int) (n : Nat) :
    let c := if enabled = true then moveCount q (if judged = true then reading else none) n else n
    (judged = false ∨ enabled = false ∨ reading = none → c = n) ∧
      ∀ v, judged = true → enabled = true → reading = some v → c = if q v = true then min 255 (n + 1) else 0 := by
  dsimp only
  constructor
  · rintro (rfl | rfl | rfl)
    · rw [if_neg Bool.false_ne_true]
      exact ite_self _
    · exact if_neg Bool.false_ne_true
    · rw [ite_self]
      exact ite_self _
  · rintro v rfl rfl rfl
    rfl

/-- In WATCH a frame moves the two counts alone. -/
theorem moveCounts_watch (f : Machine.Frame) (xs : List Sample) (watch : s.brk.state = .watch) :
    s.moveCounts f xs = { s with brk := { s.brk with
      lowCount := if s.page.cueLow then
        moveCount (fun v => decide (v < s.page.breakFloor)) (s.cueSample f xs roleBw) s.brk.lowCount else s.brk.lowCount
      openCount := if s.page.cueOpen then
        moveCount (fun v => decide (s.page.openCeiling < v)) (s.cueSample f xs roleLight) s.brk.openCount
        else s.brk.openCount } } := if_pos watch

theorem moveCounts_other (f : Machine.Frame) (xs : List Sample) (other : s.brk.state ≠ .watch) :
    s.moveCounts f xs = s := if_neg other

theorem gaugeCues_other (other : s.brk.state ≠ .watch) : s.gaugeCues = 0 := if_neg other

/-- The two bits of the gauge cues. -/
theorem gaugeCues_bits (watch : s.brk.state = .watch) :
    (s.gaugeCues.getLsbD 0 = true ↔ s.page.cueLow = true ∧ s.page.persistA ≤ s.brk.lowCount) ∧
      (s.gaugeCues.getLsbD 1 = true ↔ s.page.cueOpen = true ∧ s.page.persistB ≤ s.brk.openCount) ∧
      s.gaugeCues.getLsbD 2 = false ∧ s.gaugeCues.getLsbD 3 = false := by
  unfold State.gaugeCues
  rw [if_pos watch]
  by_cases low : s.page.cueLow = true ∧ s.page.persistA ≤ s.brk.lowCount <;>
    by_cases opened : s.page.cueOpen = true ∧ s.page.persistB ≤ s.brk.openCount <;>
    simp only [low, opened] <;> decide

/-- What a frame does to the counts, and when it declares the break (R170, R171). -/
theorem breakFrame_counts (f : Machine.Frame) (xs : List Sample) (s : State) :
    let t := s.moveCounts f xs
    let judged := (f.head = .outbound ∨ f.head = .inbound ∨ f.head = .holding) ∧
      s.bin.edgeFront ≤ f.position.toInt ∧ f.position.toInt < s.bin.edgeBack
    let bw := (roleSample s.page xs roleBw).bind Sample.usableValue
    let light := (roleSample s.page xs roleLight).bind Sample.usableValue
    s.brk.state = .watch →
      (¬ judged ∨ s.page.cueLow = false ∨ bw = none → t.brk.lowCount = s.brk.lowCount) ∧
      (¬ judged ∨ s.page.cueOpen = false ∨ light = none → t.brk.openCount = s.brk.openCount) ∧
      (∀ v, judged → s.page.cueLow = true → bw = some v →
        t.brk.lowCount = (if v < s.page.breakFloor then min 255 (s.brk.lowCount + 1) else 0)) ∧
      (∀ v, judged → s.page.cueOpen = true → light = some v →
        t.brk.openCount = (if s.page.openCeiling < v then min 255 (s.brk.openCount + 1) else 0)) := by
  intro t judged bw light watch
  have whole : t = _ := moveCounts_watch f xs watch
  have judges : s.cueFrame f = true ↔ judged := cueFrame_iff f s
  have off : ∀ {q : Prop}, ¬ judged ∨ q → s.cueFrame f = false ∨ q := fun h =>
    h.imp_left fun none => Bool.eq_false_iff.2 (mt judges.1 none)
  have low := moveCount_rule s.page.cueLow (s.cueFrame f) (fun v => decide (v < s.page.breakFloor)) bw s.brk.lowCount
  have opened := moveCount_rule s.page.cueOpen (s.cueFrame f) (fun v => decide (s.page.openCeiling < v)) light
    s.brk.openCount
  rw [whole]
  refine ⟨fun h => low.1 (off h), fun h => opened.1 (off h), fun v on enabled reading => ?_, fun v on enabled reading => ?_⟩
  · exact (low.2 v (judges.2 on) enabled reading).trans (if_congr decide_eq_true_iff rfl rfl)
  · exact (opened.2 v (judges.2 on) enabled reading).trans (if_congr decide_eq_true_iff rfl rfl)

theorem gaugeDeclare_fires (cues : s.gaugeCues ≠ 0) (cuePos : Word) :
    s.gaugeDeclare cuePos = s.declare s.gaugeCues cuePos := if_neg cues

/-- Settles O57: the counts by the frame's class, and a declaration from WATCH. -/
theorem gaugeCueDeclaresBreak : Obligations.GaugeCueDeclaresBreak := by
  refine ⟨fun f xs s => ⟨fun other => ⟨moveCounts_other f xs other, gaugeCues_other other⟩, fun watch => ?_, rfl⟩,
    fun cuePos s sound ready cues => ?_⟩
  · obtain ⟨lowStays, openStays, lowMoves, openMoves⟩ := breakFrame_counts f xs s watch
    exact ⟨by rw [moveCounts_watch f xs watch], lowStays, openStays, lowMoves, openMoves, gaugeCues_bits watch⟩
  · have watch : s.brk.state = .watch := by
      by_contra other
      exact cues (gaugeCues_other other)
    have fired := declare_breakDeclared (Agrees.of_sound sound ready).toWorks
      (by rw [watch]; exact BreakState.noConfusion) s.gaugeCues cuePos
    have declared := fired.taken (endEvent_commandTaken
      (stdStartDue_of_goal (by rw [fired.goal]; exact Goal.noConfusion)))
    have entry := declared.entry
    exact completes_run rfl ready (gaugeDeclare_fires cues cuePos) ⟨by rw [declared.brk]; rfl, by rw [declared.brk]; rfl,
      by rw [declared.brk]; rfl, by rw [declared.brk]; rfl, by rw [declared.brk]; rfl, by rw [declared.brk],
      declared.goal, declared.notice, declared.shut, declared.scan, declared.batch, entry 0 (by decide),
      entry 1 (by decide), entry 2 (by decide), entry 3 (by decide), entry 4 (by decide), entry 5 (by decide),
      entry 6 (by decide), entry 7 (by decide), entry 8 (by decide), entry 9 (by decide), entry 10 (by decide),
      declared.stateWord, declared.numberWord, declared.newestWord⟩

end Sys2Proof.Proofs
end


section
/-!
PROOFS. Arrivals (R53, R57, R63, R64): a head that comes to rest; and the close of a scan, which counts it and gives the
due condition (R108, R109, R129).
-/
namespace Sys2Proof.Proofs

open Sys2Proof.Machine Sys2Proof.Laws

-- One proof after another: threads that wait for each other count against the memory limit of the check.
set_option Elab.async false

variable {s t u v a : State} {side : Side}

/-! ## A head that comes to rest -/

/-- A head state entered from another shows its code. -/
theorem setHead_word {h : HeadState} (other : s.trav.head ≠ h) : (s.setHead h).liveWord 0x038 = h.code := by
  rw [setHead_of_ne other]
  exact live_liveWord _ _ _

theorem arrive_homing (head : s.trav.head = .homing) (homed : s.trav.homed = true)
    (goal : s.arb.goal = .park ∨ s.arb.goal = .home) : s.arrive = s.enterParked := by
  have parked : s.enterParked.trav.head = .parked := enterParked_head s
  have arb : s.enterParked.arb = s.arb := State.setHead_arb ..
  have still : s.enterParked.takeGoalStill false true = s.enterParked := by
    rw [State.takeGoalStill, parked, arb]
    rcases goal with e | e <;> rw [e]
    rfl
  rw [State.arrive, head]
  exact (if_pos homed).trans still

theorem arrive_returning (head : s.trav.head = .returning) (goal : s.arb.goal = .park) : s.arrive = s.enterParked := by
  have parked : s.enterParked.trav.head = .parked := enterParked_head s
  have arb : s.enterParked.arb = s.arb := State.setHead_arb ..
  rw [State.arrive, head]
  dsimp only
  rw [State.takeGoalStill, parked, arb, goal]

theorem arrive_stopping (head : s.trav.head = .stopping) (goal : s.arb.goal = .stop) : s.arrive = s.enterStanding := by
  have standing : s.enterStanding.trav.head = .standing := setHead_head s .standing
  have arb : s.enterStanding.arb = s.arb := State.setHead_arb ..
  rw [State.arrive, head]
  dsimp only
  rw [State.takeGoalStill, standing, arb, goal]

/-- The batch that an arrival at the hold position starts (R133). -/
theorem arrive_movingToHold (head : s.trav.head = .movingToHold) (goal : s.arb.goal = .hold) :
    s.arrive = (s.setHead .holding).startBatch := by
  have holding : (s.setHead .holding).startBatch.trav.head = .holding := setHead_head s .holding
  have arb : (s.setHead .holding).startBatch.arb = s.arb := State.setHead_arb ..
  rw [State.arrive, head]
  dsimp only
  rw [State.takeGoalStill, holding, arb, goal]
  rfl

/-- What an arrival that rests leaves: the head state, and nothing else of the blocks. -/
theorem setHead_event {h : HeadState} (rest : (s.setHead h).stdStartDue = false) :
    (s.setHead h).endEvent.trav.head = h ∧ (s.setHead h).endEvent.trav.homed = s.trav.homed ∧
      (s.setHead h).endEvent.trav.position = s.trav.position ∧ (s.setHead h).endEvent.arb = s.arb ∧
      (s.setHead h).endEvent.bin = s.bin ∧ (s.setHead h).endEvent.ex = s.ex := by
  obtain ⟨ex, trav, arb, -, bin, -⟩ := (endEvent_commandTaken rest).parts
  rw [ex, trav, arb, bin]
  exact ⟨setHead_head .., State.setHead_homed .., State.setHead_position .., State.setHead_arb .., State.setHead_bin ..,
    State.setHead_ex ..⟩

/-- The command of an arrival that is due runs the arrival. -/
theorem completes_arrival {P : State → Prop} (ready : s.ex.life = .ready) (due : s.arrivalDue s.targetDuty.2 = true)
    (same : s.arrive = u) (h : P u.endEvent) : Completes .arrival s P :=
  completes_run (f := fun s => if s.arrivalDue s.targetDuty.2 then s.arrive else s) rfl ready
    ((if_pos due).trans same) h

theorem arrival_parked (ready : s.ex.life = .ready) (due : s.arrivalDue s.targetDuty.2 = true)
    (same : s.arrive = s.enterParked) (other : s.trav.head ≠ .parked) (goal : s.arb.goal ≠ .standardize) :
    Completes .arrival s fun t => t.trav.head = .parked ∧ t.trav.homed = s.trav.homed ∧
      t.trav.position = s.trav.position ∧ t.liveWord 0x038 = 2 ∧ t.arb = s.arb ∧ t.bin = s.bin ∧ t.ex = s.ex := by
  have rest : s.enterParked.stdStartDue = false := stdStartDue_of_goal (by
    rw [State.enterParked, State.setHead_arb]
    exact goal)
  obtain ⟨head, homed, position, arb, bin, ex⟩ := setHead_event rest
  exact completes_arrival ready due same ⟨head, homed, position,
    ((endEvent_commandTaken rest).liveWord _).trans (setHead_word other), arb, bin, ex⟩

theorem arrival_standing (ready : s.ex.life = .ready) (due : s.arrivalDue s.targetDuty.2 = true)
    (head : s.trav.head = .stopping) (goal : s.arb.goal = .stop) :
    Completes .arrival s fun t => t.trav.head = .standing ∧ t.trav.position = s.trav.position ∧ t.arb = s.arb ∧
      t.bin = s.bin ∧ t.ex = s.ex := by
  have rest : s.enterStanding.stdStartDue = false := stdStartDue_of_goal (by
    rw [State.enterStanding, State.setHead_arb, goal]
    exact Goal.noConfusion)
  obtain ⟨head', -, position, arb, bin, ex⟩ := setHead_event rest
  exact completes_arrival ready due (arrive_stopping head goal) ⟨head', position, arb, bin, ex⟩

theorem arrival_holding (ready : s.ex.life = .ready) (due : s.arrivalDue s.targetDuty.2 = true)
    (head : s.trav.head = .movingToHold) (goal : s.arb.goal = .hold) :
    Completes .arrival s fun t => t.trav.head = .holding ∧ t.link.shutter = true ∧
      ∃ b, t.bin.batch = some b ∧ b.frames = 0 ∧ b.startTime = s.link.timeCounter ∧ b.holdPos = s.trav.position ∧
        b.firstAfterBreak = s.bin.firstAfterBreak := by
  let h := (s.setHead .holding).startBatch
  have holding : h.trav.head = .holding := setHead_head s .holding
  have taken := endEvent_commandTaken (s := h) (stdStartDue_of_head (by rw [holding]; exact HeadState.noConfusion))
  obtain ⟨-, trav, -, -, bin, -⟩ := taken.parts
  refine completes_arrival ready due (arrive_movingToHold head goal)
    ⟨(congrArg Traverse.head trav).trans holding, taken.shutter.trans ?_, _, congrArg Binning.batch bin, rfl, ?_, ?_,
      ?_⟩
  · rw [State.shutterDemand, holding]
    rfl
  · exact congrArg HeadLink.timeCounter (State.setHead_link ..)
  · exact State.setHead_position ..
  · exact congrArg Binning.firstAfterBreak (State.setHead_bin ..)

/-! ## The close of a scan (R108, R109, R129) -/

/-- What the edge judgement and the profile unit leave at a close. -/
structure CloseKept (s t : State) : Prop where
  link : t.link = s.link := by rfl
  std : t.std = s.std := by rfl
  brk : t.brk = s.brk := by rfl
  first : t.bin.firstAfterBreak = s.bin.firstAfterBreak := by rfl
  record : t.ex.lastRecord = s.ex.lastRecord := by rfl

theorem CloseKept.refl (s : State) : CloseKept s s := { }

theorem CloseKept.trans (h1 : CloseKept s t) (h2 : CloseKept t u) : CloseKept s u where
  link := h2.link.trans h1.link
  std := h2.std.trans h1.std
  brk := h2.brk.trans h1.brk
  first := h2.first.trans h1.first
  record := h2.record.trans h1.record

theorem foldl_snd_closeKept {α β : Type} {f : β × State → α → β × State} (h : ∀ acc a, CloseKept acc.2 (f acc a).2)
    (l : List α) (acc : β × State) : CloseKept acc.2 (l.foldl f acc).2 := by
  induction l generalizing acc with
  | nil => exact .refl _
  | cons a l ih => exact (h acc a).trans (ih _)

theorem setAlarm_closeKept (i : Fin 48) (e : AlarmEntry) (s : State) : CloseKept s (s.setAlarm i e) := by
  have frame := setAlarm_frame i e s
  exact
    { link := by rw [frame], std := by rw [frame], brk := by rw [frame], first := by rw [frame]
      record := by rw [frame] }

theorem clearAlarm_closeKept (i : Fin 48) (x : Option Int) (s : State) : CloseKept s (s.clearAlarm i x) := by
  have noticed : ∀ v : State, ∀ n, CloseKept v (v.setNotice n) := fun _ _ => { }
  unfold State.clearAlarm
  dsimp only
  split
  · exact (setAlarm_closeKept i _ s).trans (noticed _ _)
  · exact setAlarm_closeKept i _ s

theorem raiseAlarm_closeKept (i : Fin 48) (x : Option Int) (s : State) : CloseKept s (s.raiseAlarm i x).2 := by
  have noticed : ∀ v : State, ∀ n, CloseKept v (v.setNotice n) := fun _ _ => { }
  unfold State.raiseAlarm
  dsimp only
  split
  · exact setAlarm_closeKept i _ s
  · exact (setAlarm_closeKept i _ s).trans (noticed _ _)

theorem setMiss_closeKept (side : Side) (n : Nat) (s : State) : CloseKept s (s.setMiss side n) := by
  have set : CloseKept s (missSet side n s) := by cases side <;> exact { }
  rw [setMiss_eq]
  split
  · exact set.trans (clearAlarm_closeKept _ _ _)
  · exact set

theorem side_closeKept (j : Judged) (side : Side) (missed : Bool) : CloseKept j.state (j.side side missed).state := by
  unfold Judged.side
  split
  · dsimp only
    split
    · exact (setMiss_closeKept _ _ _).trans (raiseAlarm_closeKept _ _ _)
    · exact setMiss_closeKept _ _ _
  · exact setMiss_closeKept _ _ _

theorem closingJudgement_closeKept (ctx : ScanCtx) (s : State) : CloseKept s (closingJudgement ctx s).state := by
  have sides : ∀ front back, CloseKept s
      ((Judged.side { kinds := 0, cue := false, state := s } .front front).side .back back).state :=
    fun front _ => (side_closeKept { kinds := 0, cue := false, state := s } .front front).trans (side_closeKept _ _ _)
  unfold closingJudgement
  split
  · unfold State.judgeEdges
    split
    · split
      · rename_i front back _ _ _
        have edges : CloseKept s (s.setEdges front back) := { }
        exact (edges.trans (setMiss_closeKept .front 0 _)).trans (setMiss_closeKept .back 0 _)
      · exact sides _ _
    · exact sides _ _
  · exact .refl s

theorem moveEntry_closeKept (i : Fin 48) (j : Judgement) (x : Int) (raise clear : Nat) (s : State) :
    CloseKept s (s.moveEntry i j x raise clear).2 := by
  unfold State.moveEntry
  dsimp only
  split
  · split
    · split
      · exact clearAlarm_closeKept _ _ _
      · exact setAlarm_closeKept _ _ _
    iterate 2 exact setAlarm_closeKept _ _ _
  · split
    · split
      · exact raiseAlarm_closeKept _ _ _
      · exact setAlarm_closeKept _ _ _
    iterate 2 exact setAlarm_closeKept _ _ _

theorem evalChannel_closeKept (c : Fin 9) (avg : Int) (bins : List ProfBin) (acc : Word × State) :
    CloseKept acc.2 (State.evalChannel c avg bins acc).2 := by
  refine foldl_snd_closeKept (fun acc kind => ?_) scanKinds acc
  unfold State.evalKind
  dsimp only
  split
  · exact moveEntry_closeKept _ _ _ _ _ _
  · exact .refl _

/-- The profile unit closes with one record. -/
theorem profileClose_record (ctx : ScanCtx) (kinds : Word) (s : State) :
    ∃ w hd body, CloseKept s w ∧ (s.profileClose ctx kinds).2 = w.produce hd body := by
  unfold State.profileClose
  dsimp only
  refine ⟨_, _, _, ?_, rfl⟩
  split
  · exact CloseKept.trans { } (foldl_snd_closeKept (fun acc c => evalChannel_closeKept _ _ _ acc) _ (_, _))
  · exact .refl s

/-- The due condition, spelt out (R109). -/
theorem dueCondition_iff (s : State) : s.dueCondition = true ↔
    (1 ≤ s.page.stdInterval ∧ s.page.stdInterval ≤ 255 ∧ s.page.stdInterval ≤ s.std.scanCount) ∨
      ∃ c : Fin 8, s.std.untried[c] = true := by
  unfold State.dueCondition
  simp only [Bool.or_eq_true, Bool.and_eq_true, decide_eq_true_eq, List.any_eq_true, and_assoc, mem_channels8, true_and]

/-- What the close of a scan leaves. -/
structure ScanLeft (s v : State) : Prop where
  link : v.link = s.link
  brk : v.brk = s.brk
  first : v.bin.firstAfterBreak = s.bin.firstAfterBreak
  record : v.ex.lastRecord = s.ex.lastRecord + 1
  scanCount : v.std.scanCount = min 255 (s.std.scanCount + 1)
  stdNow : v.std.stdNow = s.std.stdNow
  due : v.std.due = true ↔
    (1 ≤ v.page.stdInterval ∧ v.page.stdInterval ≤ 255 ∧ v.page.stdInterval ≤ min 255 (s.std.scanCount + 1)) ∨
      ∃ c : Fin 8, s.std.untried[c] = true
  scan : v.bin.scan = none
  word : v.liveWord 0x058 = 0

/-- The scan's end and the due condition move the scan and the sequencer's registers alone. -/
theorem scanEnded_parts (v : State) : (scanEnded v).tellDue.link = v.link ∧ (scanEnded v).tellDue.brk = v.brk ∧
    (scanEnded v).tellDue.bin = { v.bin with scan := none } ∧ (scanEnded v).tellDue.ex = v.ex ∧
    (scanEnded v).tellDue.std = { v.std with
      scanCount := min 255 (v.std.scanCount + 1), due := (scanEnded v).dueCondition } ∧
    (scanEnded v).tellDue.liveWord 0x058 = 0 :=
  ⟨rfl, rfl, rfl, rfl, rfl, live_liveWord 0x058 0 _⟩

theorem scanEnded_due (v : State) : (scanEnded v).dueCondition = true ↔
    (1 ≤ (scanEnded v).page.stdInterval ∧ (scanEnded v).page.stdInterval ≤ 255 ∧
      (scanEnded v).page.stdInterval ≤ min 255 (v.std.scanCount + 1)) ∨ ∃ c : Fin 8, v.std.untried[c] = true :=
  dueCondition_iff (scanEnded v)

theorem closeScan_left {ctx : ScanCtx} (found : s.bin.scan = some ctx) : ScanLeft s s.closeScan.2 := by
  let j := closingJudgement ctx s
  obtain ⟨w, hd, body, kept, whole⟩ := profileClose_record ctx j.kinds j.state
  have kept := (closingJudgement_closeKept ctx s).trans kept
  have closed : s.closeScan.2 = ((scanEnded (w.produce hd body)).tellDue.recompute .other).state := by
    rw [closeScan_found found, ← whole]
  have record := produce_number w hd body
  have link := State.produce_link (s := w) hd body
  have brk := State.produce_brk (s := w) hd body
  have bin := State.produce_bin (s := w) hd body
  have std := State.produce_std (s := w) hd body
  rw [closed]
  generalize w.produce hd body = x at record link brk bin std
  obtain ⟨linkE, brkE, binE, exE, stdE, wordE⟩ := scanEnded_parts x
  obtain ⟨exR, stdR, -, linkR, binR, -, brkR⟩ := recompute_ex .other (scanEnded x).tellDue
  have dueE := scanEnded_due x
  have page := page_of_sameBytes (off := 0x088) (recompute_sameBytes (scanEnded x).tellDue .other (.inl (by decide)))
    (by decide)
  have word := readWord_of_sameBytes (a := 0x08058) (recompute_sameBytes (scanEnded x).tellDue .other (lo := 0x08044)
    (hi := 0x09000) (.inr (Nat.le_refl _))) (by decide) (by decide)
  generalize ((scanEnded x).tellDue.recompute .other).state = v at *
  have interval : v.page.stdInterval = (scanEnded x).page.stdInterval := congrArg BitVec.toNat page
  refine ⟨?_, ?_, ?_, ?_, ?_, ?_, ?_, ?_, word.trans wordE⟩
  · rw [linkR, linkE, link, kept.link]
  · rw [brkR, brkE, brk, kept.brk]
  · rw [binR, binE, bin]
    exact kept.first
  · rw [exR, exE, record, kept.record]
  · rw [stdR, stdE, std, kept.std]
  · rw [stdR, stdE, std, kept.std]
  · rw [stdR, stdE, interval, ← kept.std, ← std]
    exact dueE
  · rw [binR, binE]

end Sys2Proof.Proofs
end

section
/-!
PROOFS. The arrival of a traverse (R59, R60, R131): the closed scan hands the goal on, the head turns, returns or
departs again, and the EDGE cue may declare a break at the end.
-/
namespace Sys2Proof.Proofs

open Sys2Proof.Machine Sys2Proof.Laws

-- One proof after another: threads that wait for each other count against the memory limit of the check.
set_option Elab.async false

variable {s t u v a : State} {side : Side}

/-! ## The closed scan and the goal it leaves -/

/-- The standardize is due after one more scan (R108, R109). -/
def CountDue (s : State) : Prop :=
  (1 ≤ s.page.stdInterval ∧ s.page.stdInterval ≤ 255 ∧ s.page.stdInterval ≤ min 255 (s.std.scanCount + 1)) ∨
    ∃ c : Fin 8, s.std.untried[c] = true

/-- A standardize is wanted when the scan is closed: due, or requested by STD_NOW (R74). -/
def StdWanted (s : State) : Prop := CountDue s ∨ s.std.stdNow = true

/-- The close calls for the EDGE cue (R131). -/
def CloseCues (s : State) : Prop :=
  s.page.edgeTrack = true ∧ ∃ ctx, s.bin.scan = some ctx ∧ (s.judgeEdges ctx).cue = true

/-- A traverse whose scan is closed, with no apply pending. -/
structure TraverseClosed (s v : State) : Prop extends ScanLeft s v, Closed s v where
  trav : v.trav = s.trav
  pending : v.ex.applyPending = false
  generation : v.ex.generation = s.ex.generation
  request : v.ex.reqMode = s.ex.reqMode
  panel : v.arb.panelPark = s.arb.panelPark
  pages : PagesAgree s.page v.page
  cues : s.closeScan.1 = true ↔ CloseCues s

theorem closeScan_cues {ctx : ScanCtx} (found : s.bin.scan = some ctx) : s.closeScan.1 = true ↔ CloseCues s := by
  rw [closeScan_found found, CloseCues, closingJudgement, found]
  cases s.page.edgeTrack with
  | true => simp
  | false => simp

theorem closeScan_traverseClosed (agrees : Agrees s) (head : s.trav.head.traversing = true)
    (idle : s.ex.applyPending = false) : TraverseClosed s s.closeScan.2 := by
  obtain ⟨ctx, found⟩ := Option.isSome_iff_exists.1 (agrees.work.scan.trans head)
  have evolves := closeScan_evolves (own := {.edges, .filters}) (s := s) (by simp) (by simp)
  have held := evolves.pageHeld idle
  exact
    { closeScan_left found, closeScan_closed agrees.toWorks head with
      trav := (closeScan_leaves (p := .head) s).trav rfl
      pending := evolves.idle idle
      generation := held.generation
      request := (evolves.frame.request (by simp)).1
      panel := (evolves.frame.panel (by simp)).1
      pages := fun _ low => page_of_sameBytes held.active low
      cues := closeScan_cues found }

/-- An open shutter has no claim above the requested mode (R74). -/
theorem demand_none_of_shutterOpen (agrees : Agrees s) (opened : s.trav.head.shutterOpen = true) :
    (s.breakDemand || s.linkDemand || s.arb.panelPark) = false := by
  refine Bool.eq_false_iff.2 fun demand => ?_
  have park : s.arb.goal = .park := agrees.fits.trans (if_pos demand)
  exact (((allows_iff _ _).1 agrees.allowed).2 opened).1 park

theorem TraverseClosed.due_iff (closed : TraverseClosed s v) : v.std.due = true ↔ CountDue s := by
  have interval : v.page.stdInterval = s.page.stdInterval := congrArg BitVec.toNat (closed.pages _ (by decide))
  rw [closed.due, interval]
  exact Iff.rfl

/-- Under SCAN, or while a wanted STANDARDIZE is the goal, the closed scan hands the goal by what is wanted (R109). -/
theorem TraverseClosed.goal (closed : TraverseClosed s v) (agrees : Agrees s) (opened : s.trav.head.shutterOpen = true)
    (sched : s.ex.reqMode = .scan ∨ (s.arb.goal = .standardize ∧ StdWanted s)) :
    (StdWanted s → v.arb.goal = .standardize) ∧ (¬ StdWanted s → v.arb.goal = .scan) := by
  have demand := demand_none_of_shutterOpen agrees opened
  have same : (v.breakDemand || v.linkDemand || v.arb.panelPark) = false := by
    have brk : v.breakDemand = s.breakDemand := breakDemand_congr (by rw [closed.brk])
    have link : v.linkDemand = s.linkDemand :=
      linkDemand_congr (closed.ready.trans agrees.ready.symm) (by rw [closed.link])
    rw [brk, link, closed.panel]
    exact demand
  have claims := closed.fits.trans (claimedGoal_requested same)
  have before := agrees.fits.trans (claimedGoal_requested demand)
  have wanted : (v.std.due || v.std.stdNow) = true ↔ StdWanted s := by
    rw [Bool.or_eq_true, closed.due_iff, closed.stdNow]
    exact Iff.rfl
  rw [closed.request] at claims
  constructor
  · intro w
    rw [claims, wanted.2 w, closed.stdNow]
    rcases sched with mode | ⟨goal, -⟩
    · rw [mode]
      rfl
    · rw [goal] at before
      cases mode : s.ex.reqMode with
      | scan | hold => rfl
      | stop | home =>
        rw [mode] at before
        cases before
      | park =>
        rw [mode] at before
        dsimp only at before ⊢
        split at before
        · rename_i now
          exact if_pos now
        · cases before
  · intro w
    obtain mode | ⟨-, w'⟩ := sched
    · rw [claims, mode, Bool.eq_false_iff.2 (mt wanted.1 w)]
      rfl
    · exact absurd w' w

/-! ## The head turns, returns, or departs again (R59, R60) -/

/-- The head has taken its goal after the close, and is in h. -/
structure HeadTurned (h : HeadState) (v a : State) : Prop where
  kept : HeadKept v a
  head : a.trav.head = h
  position : a.trav.position = v.trav.position
  ex : a.ex = v.ex
  time : a.link.timeCounter = v.link.timeCounter
  pages : PagesAgree v.page a.page

/-- The head is in h, and no scan opened. -/
structure TurnedStill (h : HeadState) (v a : State) : Prop extends HeadTurned h v a where
  bin : a.bin = v.bin
  word : a.liveWord 0x058 = v.liveWord 0x058

/-- The head departed on a traverse, and its scan opened (R58, R123). -/
structure TurnedAway (d : ScanDir) (v a : State) : Prop extends HeadTurned d.headState v a where
  bin : a.bin = { v.bin with scan := some (openedScan d v), firstAfterBreak := false }
  word : a.liveWord 0x058 = 1

theorem setHead_scanWord (h : HeadState) (s : State) : (s.setHead h).liveWord 0x058 = s.liveWord 0x058 :=
  readWord_of_sameBytes (lo := 0x08058) (hi := 0x0805C) (setHead_sameBytes h s (.inr (by decide))) (by decide)
    (by decide)

theorem setHead_turnedStill (h : HeadState) (s : State) : TurnedStill h s (s.setHead h) where
  kept := setHead_kept h s
  head := setHead_head s h
  position := State.setHead_position ..
  ex := State.setHead_ex ..
  time := congrArg HeadLink.timeCounter (State.setHead_link ..)
  pages := setHead_pagesAgree h s
  bin := State.setHead_bin ..
  word := setHead_scanWord h s

theorem enterReturning_turnedStill (s : State) : TurnedStill .returning s s.enterReturning :=
  have entered := setHead_turnedStill .returning { s with trav.motionDir := s.toward 0 }
  { entered with kept := (setTrav_kept _ s).trans entered.kept }

/-- TURNING at a turn with the dwell timer running (R60). -/
def turningAt (side : Side) (s : State) : State :=
  { s.setHead .turning with trav := { (s.setHead .turning).trav with
      turn := side, dwellTimer := some (s.page.dwellMs * 1000) } }

theorem turningAt_turnedStill (side : Side) (s : State) : TurnedStill .turning s (turningAt side s) :=
  have entered := setHead_turnedStill .turning s
  { entered with kept := entered.kept.trans (setTrav_kept _ _) }

/-- The scan opened from TURNING is the one of the arrival's position, time, edges and page. -/
theorem TurnedStill.openedScan {h : HeadState} (still : TurnedStill h v a) (d : ScanDir) :
    openedScan d a = openedScan d v := by
  have bins : a.page.nBins = v.page.nBins := congrArg BitVec.toNat (still.pages _ (by decide))
  rw [Proofs.openedScan, Proofs.openedScan, still.time, still.position, still.bin, bins, agree_channelSet still.pages]

theorem depart_time (d : ScanDir) (s : State) : (s.depart d).link.timeCounter = s.link.timeCounter :=
  (depart_evolves (own := ∅) d).frame.time

theorem openScan_liveAlone (d : ScanDir) (s : State) : LiveAlone s (s.openScan d) := by
  unfold State.openScan State.liveBool
  dsimp only
  refine LiveAlone.trans (LiveAlone.trans ?_ (live_liveAlone 0x058 _ _)) (live_liveAlone 0x05C _ _)
  exact .of_mem rfl

theorem depart_pagesAgree (d : ScanDir) (s : State) : PagesAgree s.page (s.depart d).page := fun _ low =>
  ((setHead_liveAlone _ s).trans (openScan_liveAlone d _)).page low

/-- A departure from a turn just taken. -/
theorem TurnedStill.depart {h : HeadState} (still : TurnedStill h v a) {d : ScanDir} (other : h ≠ d.headState) :
    TurnedAway d v (a.depart d) where
  kept := still.kept.trans ((setHead_kept _ a).trans (openScan_kept _ _))
  head := depart_head a d
  position := by
    rw [(depart_rest d a).1]
    exact (State.setHead_position ..).trans still.position
  ex := (depart_rest d a).2.1.trans still.ex
  time := (depart_time d a).trans still.time
  pages := fun off low => (depart_pagesAgree d a off low).trans (still.pages off low)
  bin := by rw [depart_bin d a, still.openedScan, still.bin]
  word := (depart_words (by rw [still.head]; exact other)).2.1

/-- With DWELL 0 the head departs from the turn in the event (R60). -/
theorem enterTurning_eq (side : Side) (s : State) : s.enterTurning side =
    if s.page.dwellMs = 0 then (turningAt side s).depart (traverseFrom side) else turningAt side s := by
  have dwell : (s.setHead .turning).page.dwellMs = s.page.dwellMs :=
    congrArg BitVec.toNat (setHead_pagesAgree .turning s _ (by decide))
  unfold State.enterTurning turningAt
  dsimp only
  rw [dwell]

/-- The head state after the goal of a closed scan is taken, `wanted` saying that it is STANDARDIZE (R59, R60). -/
def turnedHead (side : Side) (wanted : Bool) (dwell : Nat) : HeadState :=
  if side = .front ∧ wanted = true then .returning else if dwell ≠ 0 then .turning else (traverseFrom side).headState

/-- How the head takes the goal of a closed scan: it returns, turns with the dwell timer running, or departs. -/
inductive Taken (side : Side) (wanted : Bool) (v a : State) : Prop
  | returns (still : TurnedStill .returning v a) (front : side = .front) (std : wanted = true)
  | turns (still : TurnedStill .turning v a) (turn : a.trav.turn = side)
      (dwell : a.trav.dwellTimer = some (v.page.dwellMs * 1000)) (goes : ¬ (side = .front ∧ wanted = true))
      (dwells : v.page.dwellMs ≠ 0)
  | departs (away : TurnedAway (traverseFrom side) v a) (goes : ¬ (side = .front ∧ wanted = true))
      (dwells : v.page.dwellMs = 0)

theorem enterTurning_taken {wanted : Bool} (goes : ¬ (side = .front ∧ wanted = true)) (v : State) :
    Taken side wanted v (v.enterTurning side) := by
  have still := turningAt_turnedStill side v
  rw [enterTurning_eq]
  split
  · exact .departs (still.depart (headState_ne rfl _)) goes ‹_›
  · exact .turns still rfl rfl goes ‹_›

theorem arriveGoal_taken {wanted : Bool} (goal : v.arb.goal = if wanted = true then .standardize else .scan) :
    Taken side wanted v (v.arriveGoal side) := by
  cases wanted with
  | false =>
    have whole : v.arriveGoal side = v.enterTurning side := by
      unfold State.arriveGoal
      rw [goal]
      rfl
    rw [whole]
    exact enterTurning_taken (by simp) v
  | true =>
    unfold State.arriveGoal
    rw [goal]
    cases side with
    | back => exact enterTurning_taken (by simp) v
    | front => exact .returns (enterReturning_turnedStill v) rfl rfl

theorem Taken.turned {wanted : Bool} (taken : Taken side wanted v a) :
    HeadTurned (turnedHead side wanted v.page.dwellMs) v a := by
  unfold turnedHead
  cases taken with
  | returns still front std =>
    rw [if_pos ⟨front, std⟩]
    exact still.toHeadTurned
  | turns still _ _ goes dwells =>
    rw [if_neg goes, if_pos dwells]
    exact still.toHeadTurned
  | departs away goes dwells =>
    rw [if_neg goes, if_neg (not_not.2 dwells)]
    exact away.toHeadTurned

/-- The states that an arrival of a traverse takes (R59, R60). -/
theorem turnedHead_cases (side : Side) (wanted : Bool) (dwell : Nat) :
    turnedHead side wanted dwell = .returning ∨ turnedHead side wanted dwell = .turning ∨
      (turnedHead side wanted dwell).traversing = true := by
  unfold turnedHead
  split_ifs
  · exact .inl rfl
  · exact .inr (.inl rfl)
  · exact .inr (.inr (headState_traversing _))

/-! ## The EDGE cue at the end of the arrival (R131, R174) -/

/-- The arrival declares a break: the EDGE cue in WATCH with EDGE enabled. -/
def EdgeFires (s : State) : Prop :=
  s.page.edgeTrack = true ∧ s.page.cueEdge = true ∧ s.brk.state = .watch ∧
    ∃ ctx, s.bin.scan = some ctx ∧ (s.judgeEdges ctx).cue = true

theorem edgeCue_watch (enabled : s.page.cueEdge = true) (watch : s.brk.state = .watch) :
    s.edgeCue = s.declare cueBitEdge s.trav.position := by
  unfold State.edgeCue
  rw [if_pos enabled, watch]

theorem edgeCue_calm (calm : s.brk.state ≠ .broken) (rests : ¬ (s.page.cueEdge = true ∧ s.brk.state = .watch)) :
    s.edgeCue = s := by
  unfold State.edgeCue
  split
  · rename_i enabled
    cases state : s.brk.state with
    | watch => exact absurd ⟨enabled, state⟩ rests
    | broken => exact absurd state calm
    | disarmed => rfl
  · rfl

/-- With no apply taken in the event the cue is the plain one (R152). -/
theorem edgeCueAfterApply_idle (idle : s.ex.applyPending = false) :
    s.edgeCueAfterApply s.ex.generation = s.edgeCue := by
  have held := ((edgeCue_evolves (own := {.history}) (s := s) rfl).pageHeld idle).generation
  show ({ s.edgeCue with ex.generation := s.ex.generation } : State) = s.edgeCue
  rw [← held]

/-- A head still on its traverse takes the goal as the arrival says (R59). -/
theorem arrived_traversing (head : s.trav.head.traversing = true) (side : Side) :
    arrived side { state := s, changed := false, posChanged := false } = s.arriveGoal side := by
  rcases traversing_iff.1 head with e | e <;> rw [arrived, e]

/-- The arrival of a traverse with no apply pending. -/
theorem arriveScan_idle (closed : TraverseClosed s v) (same : s.closeScan.2 = v)
    (head : s.trav.head.traversing = true) (side : Side) : s.arriveScan side =
      if s.closeScan.1 = true then (v.arriveGoal side).edgeCueAfterApply s.ex.generation else v.arriveGoal side := by
  rw [arriveScan_eq, same, applyPoint_idle v closed.pending, arrived_traversing (by rw [closed.head]; exact head)]

theorem arriveScan_cued {h : HeadState} (closed : TraverseClosed s v) (same : s.closeScan.2 = v)
    (head : s.trav.head.traversing = true) (turned : HeadTurned h v (v.arriveGoal side))
    (calm : s.brk.state ≠ .broken) :
    (EdgeFires s → s.arriveScan side = (v.arriveGoal side).declare cueBitEdge (v.arriveGoal side).trav.position) ∧
      (¬ EdgeFires s → s.arriveScan side = v.arriveGoal side) := by
  have whole := arriveScan_idle closed same head side
  generalize v.arriveGoal side = a at turned whole
  have generation : s.ex.generation = a.ex.generation := by rw [turned.ex, closed.generation]
  have brk : a.brk = s.brk := turned.kept.brk.trans closed.brk
  have cueEdge : a.page.cueEdge = s.page.cueEdge := by
    rw [Page.cueEdge, Page.cueEdge, turned.pages _ (by decide), closed.pages _ (by decide)]
  rw [generation, edgeCueAfterApply_idle (by rw [turned.ex]; exact closed.pending)] at whole
  rw [whole]
  refine ⟨fun ⟨track, enabled, watch, cued⟩ => ?_, fun rests => ?_⟩
  · rw [if_pos (closed.cues.2 ⟨track, cued⟩)]
    exact edgeCue_watch (by rw [cueEdge]; exact enabled) (by rw [brk]; exact watch)
  · split
    · rename_i cued
      obtain ⟨track, found⟩ := closed.cues.1 cued
      refine edgeCue_calm (by rw [brk]; exact calm) fun ⟨enabled, watch⟩ => rests ⟨track, ?_, ?_, found⟩
      · rw [← cueEdge]; exact enabled
      · rw [← brk]; exact watch
    · rfl

/-- The head that a break finds on a traverse, turning or returning ends RETURNING (R61, R176). -/
theorem declare_returning (works : Works s) (idle : s.ex.applyPending = false) (goal : s.arb.goal ≠ .park)
    (moves : s.trav.head = .returning ∨ s.trav.head = .turning ∨ s.trav.head.traversing = true) (cues : BitVec 4)
    (cuePos : Word) : (s.declare cues cuePos).trav.head = .returning := by
  obtain ⟨startEx, -, startTrav, startBin⟩ := breakStart_frame s
  obtain ⟨ex, -, trav, -, bin, -⟩ := recompute_ex .breakRaised s.breakStart
  have claims : (s.breakStart.recompute .breakRaised).state.arb.goal = .park :=
    (recompute_goal ..).trans (claimedGoal_broken (breakStart_stands s).broken)
  have handed : (s.declare cues cuePos).trav = (s.breakStart.handGoal .breakRaised).trav := by
    have written : ∀ (h : State) (work : OpenWork) (record : Word),
        ((h.writeHistory s.trav.head cues s.trav.position cuePos work record).setNotice .brk).trav = h.trav :=
      fun _ _ _ => rfl
    exact written _ _ _
  rw [handed]
  rcases handGoal_cases s.breakStart .breakRaised with ⟨same, -⟩ | ⟨-, e⟩
  · have kept := (recompute_goal_same same).symm.trans claims
    rw [breakStart_arb] at kept
    exact absurd kept goal
  rw [e]
  generalize (s.breakStart.recompute .breakRaised).posChanged = p
  generalize (s.breakStart.recompute .breakRaised).state = r at ex trav bin claims
  have head : r.trav.head = s.trav.head := by rw [trav, startTrav]
  rcases moves with back | turning | along
  · have still : r.takeGoal p = r := by
      unfold State.takeGoal State.takeGoalStill
      rw [head, back, claims]
    rw [still, head, back]
  · have returns : r.takeGoal p = r.enterReturning := by
      unfold State.takeGoal State.takeGoalStill
      rw [head, turning, claims]
    rw [returns]
    exact enterReturning_head r
  · obtain ⟨ctx, found⟩ := Option.isSome_iff_exists.1 (works.work.scan.trans along)
    have along' : r.trav.head = .outbound ∨ r.trav.head = .inbound := by
      rw [head]
      exact traversing_iff.1 along
    rw [takeGoal_traversing p along' (by rw [claims]; exact Goal.noConfusion) (by rw [claims]; exact Goal.noConfusion),
      abortForGoal_idle (by rw [ex, startEx]; exact idle) along' (ctx := ctx) (by rw [bin, startBin]; exact found),
      claims]
    exact enterAborted_head Goal.noConfusion Goal.noConfusion _

/-! ## What an arrival leaves -/

/-- The registers after the event of an arrival at whose end no break is declared. -/
theorem HeadTurned.ended {h : HeadState} (turned : HeadTurned h v a) (closed : TraverseClosed s v)
    (taken : CommandTaken a t) : t.trav.head = h ∧ t.std.scanCount = min 255 (s.std.scanCount + 1) ∧
      (t.std.due = true ↔ CountDue s) ∧ t.arb.goal = v.arb.goal ∧ t.ex.lastRecord = s.ex.lastRecord + 1 ∧
      t.brk = s.brk := by
  obtain ⟨ex, trav, arb, std, -, brk, -⟩ := taken.parts
  have std := std.trans turned.kept.std
  refine ⟨(congrArg Traverse.head trav).trans turned.head, ?_, ?_, ?_, ?_, brk.trans (turned.kept.brk.trans closed.brk)⟩
  · rw [std]
    exact closed.scanCount
  · rw [std]
    exact closed.due_iff
  · rw [arb, turned.kept.arb]
  · rw [ex, turned.ex]
    exact closed.record

/-- The scan that a departure of the arrival opens, read by what the arrival found (R123). -/
theorem openedScan_closed (closed : TraverseClosed s v) (d : ScanDir) :
    (openedScan d v).startTime = s.link.timeCounter ∧ (openedScan d v).startPos = s.trav.position ∧
      (openedScan d v).nBins = s.page.nBins ∧ (openedScan d v).firstAfterBreak = s.bin.firstAfterBreak ∧
      (openedScan d v).chans.map ChanAcc.chan = s.page.channelSet :=
  ⟨congrArg HeadLink.timeCounter closed.link, congrArg Traverse.position closed.trav,
    congrArg BitVec.toNat (closed.pages _ (by decide)), closed.first,
    (openedScan_chans d v).trans (agree_channelSet closed.pages)⟩

/-- A head on a traverse has its scan open, and no other head that an arrival leaves has work on the sheet. -/
theorem turned_work {h : HeadState} (work : WorkOk a) (head : a.trav.head = h)
    (turned : h = .returning ∨ h = .turning ∨ h.traversing = true) :
    sheetWork a = h.traversing ∧ workCode a = if h.traversing = true then 1 else 0 := by
  have other : a.trav.head ≠ .holding := by
    rw [head]
    rintro rfl
    simp [HeadState.traversing] at turned
  have batch := no_batch work.batch other
  rw [sheetWork, workCode, work.scan, head, batch]
  exact ⟨Bool.or_false _, rfl⟩

/-- The states that an arrival of a traverse leaves, before a cue: between events. -/
theorem arriveGoal_traverse (closed : TraverseClosed s v) (head : s.trav.head.traversing = true)
    (duty : s.trav.duty = 0) (side : Side) : Agrees (v.arriveGoal side) := by
  have along : v.trav.head.traversing = true := by rw [closed.head]; exact head
  rw [← arrived_traversing along side]
  exact arrived_agrees closed.ready closed.fits closed.idle (closed.duty.trans duty) (.inr (.inr along)) side

/-- The registers and the history entry after the event of an arrival at whose end the EDGE cue declares a break. -/
structure EdgeBroken (turned : HeadState) (s t : State) : Prop where
  head : t.trav.head = .returning
  goal : t.arb.goal = .park
  brk : t.brk = { brokenMonitor s.brk with newest := s.brk.newest + 1 }
  notice : t.noticeSet .brk = true
  scan : t.bin.scan = none
  scanCount : t.std.scanCount = min 255 (s.std.scanCount + 1)
  due : t.std.due = true ↔ CountDue s
  shut : t.link.shutter = false
  record : t.ex.lastRecord = s.ex.lastRecord + 1 + (if turned.traversing = true then 1 else 0)
  entry : ∀ i (hi : i < 16), readWord t.mem (historyAddr (s.brk.newest + 1) + 4 * i) =
    (entryWords16 (s.brk.number + 1) s.link.timeCounter s.trav.position s.trav.position turned.code 8
      (if turned.traversing = true then 1 else 0)
      (if turned.traversing = true then s.ex.lastRecord + 1 + 1 else 0))[i]'hi

theorem HeadTurned.broken {h : HeadState} (turned : HeadTurned h v a) (closed : TraverseClosed s v) (agrees : Agrees a)
    (moves : h = .returning ∨ h = .turning ∨ h.traversing = true) (calm : s.brk.state ≠ .broken)
    (goal : v.arb.goal ≠ .park) : EdgeBroken h s (a.declare cueBitEdge a.trav.position).endEvent := by
  have brk : a.brk = s.brk := turned.kept.brk.trans closed.brk
  have arb := turned.kept.arb
  have idle : a.ex.applyPending = false := by rw [turned.ex]; exact closed.pending
  have position : a.trav.position = s.trav.position := turned.position.trans (by rw [closed.trav])
  have time : a.link.timeCounter = s.link.timeCounter := turned.time.trans (by rw [closed.link])
  have last : a.ex.lastRecord = s.ex.lastRecord + 1 := by rw [turned.ex]; exact closed.record
  obtain ⟨open_, code⟩ := turned_work agrees.work turned.head moves
  have returning := declare_returning agrees.toWorks idle (by rw [arb]; exact goal) (by rw [turned.head]; exact moves)
    cueBitEdge a.trav.position
  obtain ⟨std, -⟩ := declare_std idle cueBitEdge a.trav.position
  have fired := declare_breakDeclared agrees.toWorks (by rw [brk]; exact calm) cueBitEdge a.trav.position
  generalize a.declare cueBitEdge a.trav.position = d at returning std fired
  have taken := endEvent_commandTaken (s := d) (stdStartDue_of_head (by rw [returning]; exact HeadState.noConfusion))
  have declared := fired.taken taken
  obtain ⟨-, trav, -, std', -, -, -⟩ := taken.parts
  have std := std'.trans (std.trans turned.kept.std)
  refine
    { head := (congrArg Traverse.head trav).trans returning
      goal := declared.goal
      brk := by rw [declared.brk, brk]
      notice := declared.notice
      scan := declared.scan
      scanCount := by rw [std]; exact closed.scanCount
      due := by rw [std]; exact closed.due_iff
      shut := ?_
      record := by rw [declared.record, last, open_]
      entry := fun i hi => ?_ }
  · rw [taken.shutter, State.shutterDemand, returning]
    rfl
  · have word := declared.entry i hi
    simp only [brk, time, position, last, open_, code, turned.head] at word
    exact word

/-- The shutter, the turn and the scan after the event of an arrival at whose end no break is declared, in h. -/
structure CalmEnd (side : Side) (h : HeadState) (s t : State) : Prop where
  shutter : t.link.shutter = true ↔ h ≠ .returning
  turn : h = .turning → t.trav.turn = side ∧ t.trav.dwellTimer = some (s.page.dwellMs * 1000)
  still : ¬ (h = .outbound ∨ h = .inbound) → t.bin.scan = none ∧ t.liveWord 0x058 = 0
  away : h = .outbound ∨ h = .inbound → t.liveWord 0x058 = 1 ∧ ∃ ctx, t.bin.scan = some ctx ∧
    ctx.dir = traverseFrom side ∧ ctx.startTime = s.link.timeCounter ∧ ctx.startPos = s.trav.position ∧
    ctx.front = t.bin.edgeFront ∧ ctx.back = t.bin.edgeBack ∧ ctx.nBins = s.page.nBins ∧
    ctx.firstAfterBreak = s.bin.firstAfterBreak ∧ ctx.chans.map ChanAcc.chan = s.page.channelSet

/-- A head that did not depart has no scan, and the live mark is the close's. -/
theorem TurnedStill.scan {h : HeadState} (still : TurnedStill h v a) (closed : TraverseClosed s v)
    (ended : CommandTaken a t) : t.bin.scan = none ∧ t.liveWord 0x058 = 0 := by
  obtain ⟨-, -, -, -, bin, -, -⟩ := ended.parts
  refine ⟨?_, (ended.liveWord _).trans (still.word.trans closed.word)⟩
  rw [bin, still.bin]
  exact closed.scan

theorem HeadTurned.shutter {h : HeadState} (turned : HeadTurned h v a) (other : h ≠ .standardizing)
    (ended : CommandTaken a t) : t.link.shutter = h.shutterOpen := by
  rw [ended.shutter, State.shutterDemand, turned.head, if_neg other]

theorem Taken.calmEnd {wanted : Bool} (taken : Taken side wanted v a) (closed : TraverseClosed s v)
    (ended : CommandTaken a t) : CalmEnd side (turnedHead side wanted s.page.dwellMs) s t := by
  have dwell : v.page.dwellMs = s.page.dwellMs := congrArg BitVec.toNat (closed.pages _ (by decide))
  obtain ⟨-, trav, -, -, bin, -, -⟩ := ended.parts
  unfold turnedHead
  rw [← dwell]
  cases taken with
  | returns still front std =>
    rw [if_pos ⟨front, std⟩]
    exact
      { shutter := by rw [still.toHeadTurned.shutter HeadState.noConfusion ended]; decide
        turn := nofun
        still := fun _ => still.scan closed ended
        away := nofun }
  | turns still turn timer goes dwells =>
    rw [if_neg goes, if_pos dwells]
    exact
      { shutter := by rw [still.toHeadTurned.shutter HeadState.noConfusion ended]; decide
        turn := fun _ => by
          rw [trav, ← dwell]
          exact ⟨turn, timer⟩
        still := fun _ => still.scan closed ended
        away := nofun }
  | departs away goes dwells =>
    rw [if_neg goes, if_neg (not_not.2 dwells)]
    have opened := away.bin
    obtain ⟨time, pos, bins, first, chans⟩ := openedScan_closed closed (traverseFrom side)
    exact
      { shutter := by
          rw [away.toHeadTurned.shutter (headState_ne rfl _).symm ended]
          cases side <;> decide
        turn := fun e => absurd e.symm (headState_ne rfl _)
        still := fun e => absurd (traversing_iff.1 (headState_traversing _)) e
        away := fun _ => ⟨(ended.liveWord _).trans away.word, openedScan (traverseFrom side) v,
          by rw [bin, opened], rfl, time, pos, by rw [bin, opened]; rfl, by rw [bin, opened]; rfl, bins, first, chans⟩ }

/-- The side at which a traverse ends. -/
def endSide (s : State) : Side := if s.trav.head = .outbound then .back else .front

theorem arrive_traverse (head : s.trav.head = .outbound ∨ s.trav.head = .inbound) :
    s.arrive = s.arriveScan (endSide s) := by
  rw [endSide, State.arrive]
  rcases head with e | e <;> rw [e] <;> rfl

theorem traverseFrom_endSide (s : State) :
    traverseFrom (endSide s) = if s.trav.head = .outbound then .inbound else .outbound := by
  rw [endSide]
  split <;> rfl

/-- The goal in force and the state after an arrival of a traverse at whose end no break is declared. -/
structure CalmArrival (wanted : Bool) (h : HeadState) (s t : State) : Prop extends CalmEnd (endSide s) h s t where
  head : t.trav.head = h
  scanCount : t.std.scanCount = min 255 (s.std.scanCount + 1)
  due : t.std.due = true ↔ CountDue s
  goal : t.arb.goal = if wanted = true then .standardize else .scan
  record : t.ex.lastRecord = s.ex.lastRecord + 1
  brk : t.brk = s.brk

/-- The arrival of a traverse, by whether the EDGE cue declares a break at its end. -/
theorem arrival_traverse (agrees : Agrees s) (idle : s.ex.applyPending = false)
    (due : s.arrivalDue s.targetDuty.2 = true) (head : s.trav.head = .outbound ∨ s.trav.head = .inbound)
    (sched : s.ex.reqMode = .scan ∨ (s.arb.goal = .standardize ∧ StdWanted s)) {wanted : Bool}
    (wants : wanted = true ↔ StdWanted s) :
    (¬ EdgeFires s → Completes .arrival s (CalmArrival wanted (turnedHead (endSide s) wanted s.page.dwellMs) s)) ∧
      (EdgeFires s → Completes .arrival s (EdgeBroken (turnedHead (endSide s) wanted s.page.dwellMs) s)) := by
  have along := traversing_iff.2 head
  have opened : s.trav.head.shutterOpen = true := by rcases head with e | e <;> rw [e] <;> rfl
  have closed := closeScan_traverseClosed agrees along idle
  have calm : s.brk.state ≠ .broken := fun broken =>
    (((allows_iff _ _).1 agrees.allowed).2 opened).1 (goal_park_of_broken agrees.fits broken)
  have handed := closed.goal agrees opened sched
  have cued := fun h turned => arriveScan_cued (h := h) (side := endSide s) closed rfl along turned calm
  have arrives := arrive_traverse head
  have settled := arriveGoal_traverse closed along (arrivalDue_duty due) (endSide s)
  generalize s.closeScan.2 = v at closed handed cued settled
  have goal : v.arb.goal = if wanted = true then .standardize else .scan := by
    split
    · exact handed.1 (wants.1 ‹_›)
    · exact handed.2 (mt wants.2 ‹_›)
  have taken : Taken (endSide s) wanted v (v.arriveGoal (endSide s)) := arriveGoal_taken goal
  generalize v.arriveGoal (endSide s) = a at cued settled taken
  have dwell : v.page.dwellMs = s.page.dwellMs := congrArg BitVec.toNat (closed.pages _ (by decide))
  have turned := taken.turned
  have cases_ := turnedHead_cases (endSide s) wanted s.page.dwellMs
  rw [dwell] at turned
  obtain ⟨fires, rests⟩ := cued _ turned
  refine ⟨fun none => completes_arrival agrees.ready due (arrives.trans (rests none)) ?_, fun fired =>
    completes_arrival agrees.ready due (arrives.trans (fires fired)) (turned.broken closed settled cases_ calm ?_)⟩
  · have ended := endEvent_commandTaken (s := a) (stdStartDue_of_head (by
      rw [turned.head]
      rintro parked
      rw [parked] at cases_
      simp [HeadState.traversing] at cases_))
    obtain ⟨head', scanCount, due', goal', record, brk⟩ := turned.ended closed ended
    exact
      { taken.calmEnd closed ended with
        head := head', scanCount := scanCount, due := due', goal := goal'.trans goal, record := record, brk := brk }
  · rw [goal]
    split <;> exact Goal.noConfusion

/-- Settles O48: a head that rests by its entry, and a traverse by its close, its turn and the cue at its end. -/
theorem arrival : Obligations.Arrival := by
  intro s sound ready idle due
  have agrees := Agrees.of_sound sound ready
  refine ⟨fun head goal => ?_, fun head goal => ?_, fun head goal => ?_, arrival_holding ready due, fun head => ?_⟩
  · have homed : s.trav.homed = true := by
      have state := ((arrivalDue_iff _ s).1 due).1
      rw [State.arrivalState, head] at state
      exact state
    obtain ⟨t, run, parked, homed', rest⟩ := arrival_parked ready due (arrive_homing head homed goal)
      (by rw [head]; exact HeadState.noConfusion) (by rcases goal with e | e <;> rw [e] <;> exact Goal.noConfusion)
    exact ⟨t, run, parked, homed'.trans homed, rest⟩
  · obtain ⟨t, run, parked, -, position, -, rest⟩ := arrival_parked ready due (arrive_returning head goal)
      (by rw [head]; exact HeadState.noConfusion) (by rw [goal]; exact Goal.noConfusion)
    exact ⟨t, run, parked, position, rest⟩
  · exact arrival_standing ready due head goal
  · intro count dueAfter wanted side turned departs fires sched
    have key : turned = turnedHead (endSide s) (decide wanted) s.page.dwellMs := by
      rcases head with e | e <;> simp [turned, turnedHead, endSide, e, traverseFrom, ScanDir.headState]
    obtain ⟨calm, broken⟩ := arrival_traverse agrees idle due head sched (wanted := decide wanted) decide_eq_true_iff
    rw [← key] at calm broken
    refine ⟨fun rests => ?_, fun fired => ?_⟩
    · obtain ⟨t, run, done⟩ := calm rests
      refine ⟨t, run, done.head, done.scanCount, done.due, ?_, done.record, done.brk, done.shutter, done.turn,
        done.still, fun goes => ?_⟩
      · rw [done.goal]
        exact if_congr decide_eq_true_iff rfl rfl
      · have away := done.away goes
        rw [traverseFrom_endSide] at away
        exact away
    · obtain ⟨t, run, done⟩ := broken fired
      have entry := done.entry
      have record := done.record
      have goes : turned.traversing = true ↔ departs := traversing_iff
      refine ⟨t, run, done.head, done.goal, congrArg BreakMon.state done.brk, congrArg BreakMon.number done.brk,
        congrArg BreakMon.latch done.brk, congrArg BreakMon.newest done.brk, done.notice, done.scan, done.scanCount,
        done.due, done.shut, fun leaves => ?_, fun stays => ?_, entry 0 (by decide), entry 1 (by decide),
        entry 2 (by decide), entry 3 (by decide), entry 4 (by decide), entry 5 (by decide)⟩
      · simp only [if_pos (goes.2 leaves)] at record entry
        exact ⟨record.trans (BitVec.add_assoc ..), entry 6 (by decide),
          (entry 7 (by decide)).trans (BitVec.add_assoc ..)⟩
      · simp only [if_neg (mt goes.1 stays)] at record entry
        exact ⟨record.trans (BitVec.add_zero _), entry 6 (by decide), entry 7 (by decide)⟩

end Sys2Proof.Proofs
end
